-- ==== Sys2Proof/Word.lean ====
section
/-! DEFINITION. The words of the device: bytes, 64-bit registers and words, 64-byte lines, and the small
closed types that name worlds, levels and masters. 00_scope.md R5, R7; 15_worlds_basins.md R276, R277. -/

namespace Sys2Proof

/-- One byte of memory or of a frame. -/
abbrev Byte := BitVec 8
/-- A 64-bit word: a register, a memory word or a g-register (R5, R7, R186). -/
abbrev Word := BitVec 64
/-- A 64-byte cache line (R228). -/
abbrev LineData := BitVec 512
/-- A Tarn core T0-T31 (R12). -/
abbrev CoreId := Fin 32
/-- A Cascade channel CH0-CH7 (R12). -/
abbrev ChanId := Fin 8
/-- A tier TR0-TR63 (R12). -/
abbrev TierId := Fin 64
/-- A jet J0-J9 (R12). -/
abbrev JetId := Fin 10
/-- A line MAC PM0-PM31 (R12). -/
abbrev PortId := Fin 32
/-- A MAC block: 0-31 are PM0-PM31, 32 and 33 are MG0 and MG1 (R22). -/
abbrev MacId := Fin 34
/-- A basin B0-B63 (R276). -/
abbrev BasinId := Fin 64
/-- A ridge link RL0-RL3 (R12). -/
abbrev LinkId := Fin 4
/-- A Pool slice and home node H0-H31 (R12). -/
abbrev SliceId := Fin 32
/-- A Sluice stage slot (R145). -/
abbrev StageId := Fin 64

/-- The two worlds (R276): N normal, S secure. -/
inductive World where
  | N
  | S
  deriving DecidableEq, Repr

/-- The four levels (R276). -/
inductive Level where
  | U
  | K
  | H
  | M
  deriving DecidableEq, Repr

/-- What can issue an access (R13, R277, R357). -/
inductive Master where
  | core (c : CoreId)
  | tier (t : TierId)
  | jet (j : JetId)
  | ridge (l : LinkId)
  | mgdma (m : Fin 2)
  | trace
  | dap
  deriving DecidableEq, Repr

/-- The attributes every access carries (R277). -/
structure Access where
  src : Master
  world : World
  basin : BasinId
  mbit : Bool
  deriving DecidableEq, Repr

/-- What an access does (R293, GRD_FINFO.KIND). -/
inductive AccKind where
  | read
  | write
  | fetch
  | amo
  deriving DecidableEq, Repr

end Sys2Proof
end

