-- ==== Sys2Proof/Syntax.lean ====
section
/-! DEFINITION. The commands the block takes: one constructor of Instr per row of spec/opcode_table.json, in the
table's order, with the operands the spec gives the step. Where the spec leaves an outcome to a link partner, a
pin, a board part or a permitted choice, the command carries that outcome as an operand
(notes/assumptions/4.md). -/

namespace Sys2Proof

/-- A write of a named register by a master (R7): `wide` is the aligned 8-byte access, otherwise `high` names the
half that a 4-byte access covers and the low 32 bits of `val` are the data. -/
structure RegW where
  acc : Access
  wide : Bool
  high : Bool
  val : Word
  deriving DecidableEq, Repr

/-- A read of a named register by a master (R7). -/
structure RegR where
  acc : Access
  wide : Bool
  high : Bool
  deriving DecidableEq, Repr

/-- What every Tarn syllable carries beside its own fields (R182, R190): the core that issues it, its stop bit and
the EXT syllables before it, first to last. -/
structure Syl where
  core : CoreId
  stop : Bool
  ext : List (BitVec 24)
  deriving DecidableEq, Repr

/-- R204, OP 0x00, FN 0-5. -/
inductive AluOp where
  | add
  | sub
  | and
  | or
  | xor
  | andn
  deriving DecidableEq, Repr

/-- R204, OP 0x00, FN 6-10. -/
inductive ShiftOp where
  | shl
  | shr
  | sar
  | rol
  | ror
  deriving DecidableEq, Repr

/-- R204, OP 0x00, FN 11-14. -/
inductive MinMaxOp where
  | min
  | max
  | minu
  | maxu
  deriving DecidableEq, Repr

/-- R204, OP 0x00, FN 15-20. -/
inductive CmpOp where
  | eq
  | ne
  | lt
  | ltu
  | le
  | leu
  deriving DecidableEq, Repr

/-- R204, OP 0x00, FN 25-27. -/
inductive CountOp where
  | clz
  | ctz
  | popc
  deriving DecidableEq, Repr

/-- R204, OP 0x00, FN 28-31. -/
inductive ExtendOp where
  | sextb
  | sexth
  | sextw
  | zextw
  deriving DecidableEq, Repr

/-- R204, OP 0x01-0x04. -/
inductive AluImmOp where
  | addi
  | andi
  | ori
  | xori
  deriving DecidableEq, Repr

/-- R204, OP 0x05-0x07. -/
inductive ShiftImmOp where
  | shli
  | shri
  | sari
  deriving DecidableEq, Repr

/-- R204, OP 0x08-0x0A. -/
inductive CmpImmOp where
  | eqi
  | lti
  | ltui
  deriving DecidableEq, Repr

/-- R205, OP 0x20-0x26. -/
inductive LoadOp where
  | ldb
  | ldbu
  | ldh
  | ldhu
  | ldw
  | ldwu
  | ldd
  deriving DecidableEq, Repr

/-- R205, OP 0x28-0x2B. -/
inductive StoreOp where
  | stb
  | sth
  | stw
  | std
  deriving DecidableEq, Repr

/-- R206, OP 0x40, FN 0-2. -/
inductive MulOp where
  | mul
  | mulhu
  | mulhs
  deriving DecidableEq, Repr

/-- R206, OP 0x40, FN 5-8. -/
inductive DivOp where
  | div
  | divu
  | rem
  | remu
  deriving DecidableEq, Repr

/-- R206, FN 0-2 of OP 0x48 and 0x49. -/
inductive FArithOp where
  | fadd
  | fsub
  | fmul
  deriving DecidableEq, Repr

/-- R206, FN 7-9 of OP 0x48 and 0x49. -/
inductive FCmpOp where
  | eq
  | lt
  | le
  deriving DecidableEq, Repr

/-- R206, OP 0x4A and 0x4B, FN 0-3. -/
inductive FmaOp where
  | fma
  | fms
  | fnma
  | fnms
  deriving DecidableEq, Repr

/-- R207, OP 0x68-0x6D. -/
inductive BrCond where
  | eq
  | ne
  | lt
  | ge
  | ltu
  | geu
  deriving DecidableEq, Repr

/-- The causes of ERR_REC1.INFO for a CHANNEL record (17_fault_tolerance.md). -/
inductive ChanFailCause where
  | parity
  | table
  | intake
  | frozenTier
  | test
  deriving DecidableEq, Repr

/-- One exchange with the regulator (R350): READ_VOUT in mV, STATUS_WORD with a fault bit, or a transaction without
acknowledgement or with a PEC error; and the targets the delay monitors give, in mV. -/
structure AvsReading where
  ok : Bool
  vout : BitVec 16
  statusFault : Bool
  coreTarget : BitVec 16
  floorTarget : BitVec 16
  deriving DecidableEq, Repr

/-- A flit of R169: its 64-bit header and the payload bytes in use; its CRC is good. -/
structure Flit where
  hdr : Word
  payload : List Byte
  deriving DecidableEq, Repr

/-- The functions whose own initialisation or self-test sets a readiness bit by itself (R27). -/
inductive FnUnit where
  | sluice
  | spp
  | spoutHub
  | dtb
  | trace
  | pool (h : SliceId)
  | bank (b : Fin 4)
  | jet (j : JetId)
  | core (c : CoreId)
  deriving DecidableEq, Repr


/-- The fuse words of the JTAG FUSE instruction (R356): a key slot's digest, DENY bits, the minimum versions of R342. -/
inductive FuseWord where
  | digest (slot : Fin 4) (value : BitVec 384)
  | deny (bits : BitVec 12)
  | bitSvn (min : BitVec 32)
  | bootSvn (min : BitVec 32)
  deriving DecidableEq, Repr

/-- The commands: one constructor per row of spec/opcode_table.json. -/
inductive Instr where
  /-- REG_WRITE (R8): A write to a register block field that has no row of its own, applied under the access-type, reserved-field and whole-write rules. -/
  | regWrite (acc : Access) (addr : BitVec 46) (size : Nat) (val : Word)
  /-- LANE_READY (R37): A lane gains signal and lock and completes training, and its readiness bit is set. -/
  | laneReady (lane : Fin 32)
  /-- LANE_LOSS (R37): A lane loses signal or lock, which clears its readiness bit and that of the MAC using it. -/
  | laneLoss (lane : Fin 32)
  /-- LANE_WITHHOLD (R34): A write of PRT_CTRL.ENABLE = 0 or PRT_TEST.EN = 1 withholds a lane from its MAC, removes candidate modes and may drop the link. -/
  | laneWithhold (lane : Fin 32) (test : Bool) (w : RegW)
  /-- AN_RESOLVED (R34): Auto-negotiation resolves the highest common candidate mode at or above the floor, or finds none. -/
  | anResolved (mac : MacId) (partner : BitVec 13) (rs br : Bool)
  /-- AN_RESTART_TIMER (R34): A clause 73 timer expires with no pages from the partner, and auto-negotiation restarts. -/
  | anRestartTimer (mac : MacId)
  /-- LINK_TRAINING_DONE (R35): 802.3ck link training completes on every lane of the resolved mode. -/
  | linkTrainingDone (mac : PortId) (taps : List (BitVec 32))
  /-- TRAIN_TIMEOUT (R35): Link training fails at 500 ms and auto-negotiation restarts; after 3 failures the mode is removed and TRAIN_FAIL is set. -/
  | trainTimeout (mac : PortId)
  /-- FLOOR_FAIL_RETRY (R36): The 1 s retry timer in FLOOR_FAIL expires, and negotiation is retried with the current candidates. -/
  | floorFailRetry (mac : MacId)
  /-- FLOOR_FAIL_RESTORE (R35): After 60 s in FLOOR_FAIL, the modes removed for training failure return to the candidates. -/
  | floorFailRestore (mac : MacId)
  /-- MAC_LINK_UP (R37): Lanes ready, PCS aligned, FEC locked and no fault: the MAC readiness bit is set and the SPP session may start. -/
  | macLinkUp (mac : MacId) (fault : Option Bool)
  /-- MAC_LINK_DOWN (R39): The MAC readiness bit clears: frames in transmission are truncated, picked frames dropped, SPP slot cleared, pause state cleared and negotiation restarts. -/
  | macLinkDown (mac : MacId) (hiber : Bool)
  /-- RESTART (R34): MAC_CTRL.RESTART = 1 restarts negotiation, and the write of MAC_CTRL returns modes removed for training failure. -/
  | restart (mac : MacId) (w : RegW)
  /-- RX_FRAME_END (R38): A received frame ends and is discarded, dropped under R389, or accepted, counted in its ingress account and steered. -/
  | rxFrameEnd (mac : MacId) (bytes : List Byte) (pcsErr : Bool) (age : Nat) (bank : Fin 4)
  /-- RX_CELL_EXHAUSTED (R100): A frame finds no free spillway cell for its next bytes during reception and is dropped as DROP_NOBUF. -/
  | rxCellExhausted (mac : PortId) (got : Nat)
  /-- RX_FLOW_CONTROL_FRAME (R42): A received PAUSE or PFC frame pauses or releases priorities, or is discarded as FC_WRONGMODE. -/
  | rxFlowControlFrame (mac : MacId) (bytes : List Byte)
  /-- PAUSE_TIMER_EXPIRE (R42): The pause timer of a priority runs out and the priority is released. -/
  | pauseTimerExpire (mac : MacId) (prio : Fin 8)
  /-- PFC_THRESHOLD_RECHECK (R140): Within 1 µs after a threshold write, the XOFF thresholds are compared again. -/
  | pfcThresholdRecheck (mac : PortId)
  /-- FLOW_CONTROL_FRAME_TX (R44): The MAC transmits a PFC or PAUSE frame reflecting the current XOFF state when idle or at the next frame boundary. -/
  | flowControlFrameTx (mac : MacId)
  /-- FC_REFRESH (R44): The REFRESH interval passes while XOFF lasts, and the flow-control frame is repeated. -/
  | fcRefresh (mac : MacId)
  /-- INTAKE (R87): A channel intake takes a waiting frame, creates its descriptor and stamps its epoch. -/
  | intake (ch : ChanId)
  /-- P_TIER (R92): A P tier evaluates up to 4 parse nodes of the frame's GRAPH table and accepts, rejects, punts or saves its position. -/
  | pTier (tier : TierId)
  /-- K_TIER (R93): A K tier searches its basin's tables and applies the first hit; the last K tier resolves MKPDUs, misses and actions under R94. -/
  | kTier (tier : TierId)
  /-- A_TIER (R119): An A tier checks the SC and SecTAG, assigns the PN from its lease and forms the jet request, or waits for a cistern SA fetch. -/
  | aTier (tier : TierId)
  /-- SA_FETCH_DONE (R89): An SA fetch from the cistern completes and the waiting frame proceeds in the A tier. -/
  | saFetchDone (tier : TierId) (ue : Bool) (victim : Nat)
  /-- JET_DISPATCH (R108): The crossbar gives a frame to an eligible jet once its output cells are free, or drops it as DROP_NOJET. -/
  | jetDispatch (ch : ChanId) (soonest : BitVec 10) (bank : Fin 4)
  /-- JET_OUTPUT_CHECKED (R127): A jet's output for a frame passes its fault checks 8 cycles after its last output cycle. -/
  | jetOutputChecked (jet : JetId)
  /-- REJOIN (R102): Jet outputs rejoin the channel in the order their frames left the last A tier. -/
  | rejoin (ch : ChanId)
  /-- V_TIER (R124): A V tier drops frames with failed ICV or late PN, or accepts them and updates H and L. -/
  | vTier (tier : TierId)
  /-- E_TIER (R95): An E tier records the edits of its row for application at egress. -/
  | eTier (tier : TierId)
  /-- M_TIER (R96): An M tier meters the frame, drops red frames when set, and the last M tier punts or enqueues the frame. -/
  | mTier (tier : TierId)
  /-- DEEP_WRITE (R142): The deep mover writes a deep frame into the deep region under the basin shares. -/
  | deepWrite
  /-- DEEP_STAGE_READ (R98): The deep mover reads deep frames back to stage up to 64 KiB at the queue head. -/
  | deepStageRead (bank : Fin 4)
  /-- INJECT_DESC (R97): The first P tier of INJ_CH takes an available inject descriptor and enters the frame or returns it with ERR. -/
  | injectDesc (basin : BasinId) (bank : Fin 4)
  /-- WEIR_PICK (R137): A port weir picks the next queue to send by strict priority and deficit round robin, charging its shapers. -/
  | weirPick (mac : PortId) (room : BitVec 8)
  /-- TX_FRAME_END (R39): A frame completes transmission; timestamps are taken, one-step updates applied and its buffers released. -/
  | txFrameEnd (mac : MacId) (age : Nat)
  /-- TXTS_READ (R47): An aligned 8-byte read of MAC_TXTS1 returns and removes the oldest transmit timestamp entry. -/
  | txtsRead (mac : MacId) (r : RegR)
  /-- MGDMA_RX_FRAME (R50): The management DMA writes a received frame into the next available receive descriptor. -/
  | mgdmaRxFrame (mg : Fin 2)
  /-- MGDMA_TX_DESC (R50): The management DMA takes an available transmit descriptor and sends its frame. -/
  | mgdmaTxDesc (mg : Fin 2)
  /-- MGDMA_RESUME (R50): A descriptor the DMA waits at becomes available and the DMA takes it. -/
  | mgdmaResume (mg : Fin 2) (tx : Bool)
  /-- HELLO (R63): A received HELLO passes the checks and records the peer or moves the session. -/
  | hello (mac : PortId)
  /-- OFFER (R63): A received OFFER leads the initiator to choose and send SELECT. -/
  | offer (mac : PortId)
  /-- SELECT (R61): A received SELECT is accepted or refused by the responder, which answers with CONFIRM. -/
  | select (mac : PortId)
  /-- CONFIRM (R63): A received CONFIRM takes the initiator to UP or NOMODE. -/
  | confirm (mac : PortId)
  /-- BEAT (R65): An accepted BEAT clears the missed count and updates the round trip. -/
  | beat (mac : PortId)
  /-- SPP_HELLO_TIMER (R63): The HELLO interval expires in DISCOVER and another HELLO is sent. -/
  | sppHelloTimer (mac : PortId)
  /-- SPP_STEP_TIMER (R63): The step timer expires and the last message is resent, or on the third expiry a new attempt starts. -/
  | sppStepTimer (mac : PortId)
  /-- SPP_BEAT_TIMER (R64): The BEAT grid point arrives in UP and a BEAT is sent. -/
  | sppBeatTimer (mac : PortId)
  /-- SPP_BEAT_MISS (R64): BEAT_US passes without an accepted BEAT; the third miss declares the peer down. -/
  | sppBeatMiss (mac : PortId)
  /-- SPP_RETRY_TIMER (R63): 1 s after entry to NOMODE or CLASH, a new attempt starts. -/
  | sppRetryTimer (mac : PortId)
  /-- RENEG (R63): A write of SPP_SESS_CTRL.RENEG = 1 restarts negotiation with a new attempt. -/
  | reneg (mac : PortId) (w : RegW)
  /-- DOWN_ACT_CHANGE (R66): A write that changes DOWN_ACT arms or releases the data drop while the session is not UP. -/
  | downActChange (mac : PortId) (w : RegW)
  /-- SPP_SLOT_TX (R53): An SPP frame leaves the MAC's SPP transmit slot ahead of queued data frames. -/
  | sppSlotTx (mac : PortId)
  /-- BIT_STAGE (R82): BIT_CMD OP STAGE starts a partial bitstream load into a Sluice stage. -/
  | bitStage (w : RegW)
  /-- BIT_ABORT (R84): BIT_CMD OP ABORT stops a load in progress with code ABORTED. -/
  | bitAbort (w : RegW)
  /-- BIT_LOAD_END (R77): A bitstream load completes its checks and stages the configuration or is rejected with a code. -/
  | bitLoadEnd
  /-- BOOT_BITSTREAM_LOAD (R80): The loader reads and applies the full bitstream at boot and sets PLATFORM. -/
  | bootBitstreamLoad (file : List Byte)
  /-- SC_CREATE (R115): SA command SC_CREATE is checked and staged to create a secure channel. -/
  | scCreate
  /-- SA_INSTALL (R115): SA command SA_INSTALL is checked and staged to install an SA at an AN. -/
  | saInstall
  /-- TX_SWITCH (R115): SA command TX_SWITCH is checked and staged to change the encoding AN. -/
  | txSwitch
  /-- SA_RETIRE (R115): SA command SA_RETIRE is checked and staged to give a receive SA a NOT_AFTER. -/
  | saRetire
  /-- SA_REMOVE (R115): SA command SA_REMOVE is checked and staged to erase an SA. -/
  | saRemove
  /-- SC_DELETE (R115): SA command SC_DELETE is checked and staged to erase an SC and its SAs. -/
  | scDelete
  /-- SLOT_INSTALL (R115): SA command SLOT_INSTALL is checked, including KEY_REUSE, and staged to fill an SPP key slot. -/
  | slotInstall
  /-- SLOT_REMOVE (R115): SA command SLOT_REMOVE is checked and staged to erase an SPP key slot. -/
  | slotRemove
  /-- QUERY (R115): SA command QUERY reports the committed state of an SC and AN in the command block. -/
  | query
  /-- SA_NOT_AFTER (R125): The NOT_AFTER instant of a retired SA passes and a RETIRED event is posted. -/
  | saNotAfter (sc : Nat) (an : BitVec 2)
  /-- SA_EVT_READ (R132): An aligned 8-byte read of WER_SA_EVT returns and removes the oldest SA event. -/
  | saEvtRead (basin : BasinId) (r : RegR)
  /-- SA_REGION_INVALIDATE (R111): A write of SA_REGION.VALID = 0 ends the region's use, erasing every SC, SA and slot and discarding open SA stages. -/
  | saRegionInvalidate (w : RegW)
  /-- JET_FAULT (R128): A jet check fails; the jet is fenced, a spare takes its place and its frames are replayed. -/
  | jetFault (jet : JetId)
  /-- JET_ROTATION (R129): The rotation interval expires and a spare takes the next working jet's place. -/
  | jetRotation
  /-- JET_DRAIN_END (R129): A rotated-out jet finishes its frames and starts its self-test. -/
  | jetDrainEnd (jet : JetId)
  /-- JET_SELF_TEST_DONE (R129): A jet self-test ends and the jet becomes spare-ready or failed. -/
  | jetSelfTestDone (jet : JetId) (pass : Bool)
  /-- JET_TEST (R130): JET_CMD TEST runs the self-test on a fenced or failed jet. -/
  | jetTest (jet : JetId) (w : RegW)
  /-- JET_FENCE (R130): JET_CMD FENCE hands the jet's place to a spare and fences the jet. -/
  | jetFence (jet : JetId) (w : RegW)
  /-- JET_INJECT_PARITY (R128): JET_INJECT.PARITY flips an AES state bit in the next frame started, triggering a jet fault. -/
  | jetInjectParity (jet : JetId) (w : RegW)
  /-- SLU_OPEN_READ (R146): An aligned 8-byte read of SLU_OPEN opens the lowest free stage slot and returns its handle. -/
  | sluOpenRead (r : RegR)
  /-- WRITE (R149): Sluice command WRITE checks and stages a write list of table rows and weir register writes. -/
  | write
  /-- RELEASE (R151): Sluice command RELEASE seals a stage for release at LOCAL, GROUP or DOMAIN scope. -/
  | release
  /-- ARM (R156): Sluice command ARM seals a participant stage for a GROUP or DOMAIN transaction. -/
  | arm
  /-- DISCARD (R157): Sluice command DISCARD discards a stage, or makes a VOTING coordinator abort. -/
  | discard
  /-- SEAL_COMPLETE (R151): Sealing of a stage completes and it becomes PENDING, VOTING or ARMED, a coordinator sending PREPARE. -/
  | sealComplete (slot : StageId)
  /-- EPOCH_SWITCH (R152): At instant R every intake takes the new epoch and weir writes and key slots take effect. -/
  | epochSwitch
  /-- DRAIN_END (R153): Every old-epoch frame has left its chain and the stage becomes RELEASED. -/
  | drainEnd
  /-- ARM_TIMEOUT (R156): An armed stage receives no PREPARE within ARM_TIMEOUT_MS and is discarded as NO_PREPARE. -/
  | armTimeout (slot : StageId)
  /-- PREPARE (R160): A received PREPARE is recorded and forwarded on down edges, or answered with a NO vote. -/
  | prepareMsg
  /-- VOTE (R159): A received VOTE is counted and may decide commit or abort at the coordinator. -/
  | voteMsg
  /-- DECIDE (R160): A received DECIDE is forwarded and sets DECIDED on the local stage. -/
  | decideMsg
  /-- ABORT (R160): A received ABORT is forwarded and discards a PREPARED stage in time, or sets DIVERGED. -/
  | abortMsg
  /-- VOTE_DEADLINE (R159): The coordinator's deadline s + W passes without all votes and it aborts with VOTES_MISSING. -/
  | voteDeadline (slot : StageId)
  /-- PREPARE_VOTE_SEND (R160): A participant's wait ends and it sends its summed VOTE up and prepares or discards its stage. -/
  | prepareVoteSend (origin txn : Word)
  /-- PRESUME_TIMER (R160): At T − G a PREPARED stage becomes PENDING, presumed if no DECIDE arrived. -/
  | presumeTimer (slot : StageId)
  /-- TXN_RECORD_EXPIRE (R160): At T + G a transaction record is dropped. -/
  | txnRecordExpire (origin txn : Word)
  /-- RDG_LCTRL_WRITE (R168): A write to RDG_LCTRL restarts training on that ridge link. -/
  | rdgLctrlWrite (link : LinkId) (w : RegW)
  /-- TRAIN_FLIT (R168): A received TRAIN flit carries the neighbour's identity, index, tag, ability and lanes. -/
  | trainFlit (link : LinkId) (ident : Word) (index : BitVec 3) (tag : BitVec 32) (ability : BitVec 6) (lanes : BitVec 4)
  /-- RL_EQUALISE_DONE (R168): Equalisation ends and the CHECK step takes the link to UP, MISMATCH or FLOOR_FAIL. -/
  | rlEqualiseDone (link : LinkId) (floor : BitVec 3)
  /-- RL_TRAIN_TIMEOUT (R168): Training has not reached UP within 50 ms and returns to DETECT. -/
  | rlTrainTimeout (link : LinkId)
  /-- RL_RETRY_TIMER (R168): 1 s after MISMATCH or FLOOR_FAIL the link retries training. -/
  | rlRetryTimer (link : LinkId)
  /-- FRAME_FLIT (R173): A FRAME flit is forwarded or reassembled into a lent-MAC frame, torn flits being dropped. -/
  | frameFlit (link : LinkId) (f : Flit) (bank : Fin 4)
  /-- REQ_FLIT (R174): A REQ flit is checked by the ridge ingress guard and served at the home node, answered with RSP. -/
  | reqFlit (link : LinkId) (f : Flit)
  /-- RSP_FLIT (R174): An RSP flit completes a ridge-window access at the issuer, aborting or recording on error. -/
  | rspFlit (link : LinkId) (f : Flit)
  /-- SLUICE_FLIT (R175): A SLUICE flit delivers a Sluice message to the Sluice. -/
  | sluiceFlit (link : LinkId) (f : Flit)
  /-- DOORBELL_FLIT (R176): A DOORBELL flit is accepted into the target core's queue or refused. -/
  | doorbellFlit (link : LinkId) (f : Flit)
  /-- LINK_FLIT (R170): A LINK flit naming the last in-order SEQ makes the sender resend every later flit. -/
  | linkFlit (link : LinkId) (f : Flit)
  /-- RL_NO_FLIT_TIMEOUT (R170): No valid flit arrives for 1 µs and the link goes DOWN. -/
  | rlNoFlitTimeout (link : LinkId)
  /-- RL_RETRAIN_TIMER (R179): 1 ms after going DOWN, the link retrains. -/
  | rlRetrainTimer (link : LinkId)
  /-- STREAM_ROUTE_MOVE (R173): A stream moves to a newly UP link once its flits are acknowledged and it has been quiet for 5 µs. -/
  | streamRouteMove (src dst : Fin 8) (cls : Fin 4) (tag : BitVec 16)
  /-- DOORBELL_SEND (R176): A write to RDG_DB_SEND sends a doorbell to a core of another group device. -/
  | doorbellSend (w : RegW)
  /-- DOORBELL_READ (R176): An aligned 8-byte read of RDG_DB_RX returns and removes the oldest doorbell. -/
  | doorbellRead (core : CoreId) (r : RegR)
  /-- ADD_SUB_AND_OR_XOR_ANDN (R204): Integer add, subtract and logic operations. -/
  | aluRRR (y : Syl) (op : AluOp) (d a b : BitVec 6)
  /-- SHL_SHR_SAR_ROL_ROR (R204): Register shifts and rotates. -/
  | shiftRRR (y : Syl) (op : ShiftOp) (d a b : BitVec 6)
  /-- MIN_MAX_MINU_MAXU (R204): Signed and unsigned minimum and maximum. -/
  | minMax (y : Syl) (op : MinMaxOp) (d a b : BitVec 6)
  /-- CMPEQ_CMPNE_CMPLT_CMPLTU_CMPLE_CMPLEU (R204): Register comparisons writing 1 or 0. -/
  | cmpRRR (y : Syl) (op : CmpOp) (d a b : BitVec 6)
  /-- ADDS (R194): Add setting carry and overflow. -/
  | adds (y : Syl) (d a b : BitVec 6)
  /-- ADDC (R194): Add with carry in, setting carry and overflow. -/
  | addc (y : Syl) (d a b : BitVec 6)
  /-- SUBS (R194): Subtract setting borrow and overflow. -/
  | subs (y : Syl) (d a b : BitVec 6)
  /-- SUBC (R194): Subtract with borrow in, setting borrow and overflow. -/
  | subc (y : Syl) (d a b : BitVec 6)
  /-- CLZ_CTZ_POPC (R204): Bit counts of a register. -/
  | countBits (y : Syl) (op : CountOp) (d a b : BitVec 6)
  /-- SEXTB_SEXTH_SEXTW_ZEXTW (R204): Sign or zero extension. -/
  | extend (y : Syl) (op : ExtendOp) (d a b : BitVec 6)
  /-- SEL (R204): Select between two registers by gd. -/
  | sel (y : Syl) (d a b : BitVec 6)
  /-- BSWAP (R204): Byte-order reversal. -/
  | bswap (y : Syl) (d a b : BitVec 6)
  /-- ADDI_ANDI_ORI_XORI (R204): Immediate arithmetic and logic. -/
  | aluImm (y : Syl) (op : AluImmOp) (d a : BitVec 6) (imm : BitVec 12)
  /-- SHLI_SHRI_SARI (R204): Immediate shifts. -/
  | shiftImm (y : Syl) (op : ShiftImmOp) (d a : BitVec 6) (imm : BitVec 12)
  /-- CMPEQI_CMPLTI_CMPLTUI (R204): Immediate comparisons. -/
  | cmpImm (y : Syl) (op : CmpImmOp) (d a : BitVec 6) (imm : BitVec 12)
  /-- MOVI (R190): Move an extended immediate into a register. -/
  | movi (y : Syl) (d : BitVec 6) (imm : BitVec 18)
  /-- LDB_LDBU_LDH_LDHU_LDW_LDWU_LDD (R205): Integer loads through translation, guard and caches. -/
  | load (y : Syl) (op : LoadOp) (d base : BitVec 6) (imm : BitVec 12)
  /-- STB_STH_STW_STD (R234): Integer stores entering the merging buffer. -/
  | store (y : Syl) (op : StoreOp) (src base : BitVec 6) (imm : BitVec 12)
  /-- LDF_LDFS (R205): Floating-point loads. -/
  | loadF (y : Syl) (dbl : Bool) (d base : BitVec 6) (imm : BitVec 12)
  /-- STF_STFS (R205): Floating-point stores. -/
  | storeF (y : Syl) (dbl : Bool) (src base : BitVec 6) (imm : BitVec 12)
  /-- AMO (R256): An atomic read-modify-write at the home node or cistern controller. -/
  | amo (y : Syl) (d a b fn : BitVec 6)
  /-- BCOPY (R199): One chunk of a block copy, with an interrupt point after it. -/
  | bcopy (y : Syl) (d a b fn : BitVec 6)
  /-- BCMP (R199): One chunk of a block compare, stopping at the first difference. -/
  | bcmp (y : Syl) (d a b fn : BitVec 6)
  /-- BFILL (R199): One chunk of a block fill with an 8-byte pattern. -/
  | bfill (y : Syl) (d a b fn : BitVec 6)
  /-- CMO_WBP (R241): Write a dirty L2 copy of the line to its home slice. -/
  | cmoWbp (y : Syl) (d base : BitVec 6)
  /-- CMO_WBM (R241): Write the line back to the home slice and then to the cistern. -/
  | cmoWbm (y : Syl) (d base : BitVec 6)
  /-- CMO_WBMI (R241): Write the line back to the cistern and invalidate every copy. -/
  | cmoWbmi (y : Syl) (d base : BitVec 6)
  /-- CMO_INVD (R241): Invalidate every copy of the line without write-back. -/
  | cmoInvd (y : Syl) (d base : BitVec 6)
  /-- CMO_ZERO (R241): Write the 64 bytes of the line as 0 atomically. -/
  | cmoZero (y : Syl) (d base : BitVec 6)
  /-- PRF (R205): Prefetch hint, dropped when refused. -/
  | prf (y : Syl) (d base : BitVec 6) (imm : BitVec 12)
  /-- MUL_MULHU_MULHS (R206): Low or high product. -/
  | mul (y : Syl) (op : MulOp) (d a b : BitVec 6)
  /-- MULWU_MULWS (R195): 128-bit product into a register pair. -/
  | mulWide (y : Syl) (signed : Bool) (d a b : BitVec 6)
  /-- DIV_DIVU_REM_REMU (R213): Integer division as a long operation, with DIVZERO and overflow edges. -/
  | divide (y : Syl) (op : DivOp) (d a b : BitVec 6)
  /-- MACU (R196): Unsigned multiply-accumulate into an accumulator. -/
  | macu (y : Syl) (n : Fin 4) (a b : BitVec 6)
  /-- MACS (R196): Signed multiply-accumulate into an accumulator. -/
  | macs (y : Syl) (n : Fin 4) (a b : BitVec 6)
  /-- ACCLR (R196): Clear an accumulator. -/
  | acclr (y : Syl) (n : Fin 4)
  /-- ACCSHR (R196): Shift an accumulator right by 64. -/
  | accshr (y : Syl) (n : Fin 4)
  /-- MVACL_MVACH (R196): Move an accumulator half to a g-register. -/
  | mvac (y : Syl) (high : Bool) (d : BitVec 6) (n : Fin 4)
  /-- MVTAC (R196): Load an accumulator from two g-registers. -/
  | mvtac (y : Syl) (n : Fin 4) (a b : BitVec 6)
  /-- MACD (R197): Fetch two words, multiply-accumulate with carry and step the pointers. -/
  | macd (y : Syl) (c a b fn : BitVec 6)
  /-- FADD_FSUB_FMUL (R215): Rounded floating-point add, subtract and multiply. -/
  | fArith (y : Syl) (op : FArithOp) (dbl : Bool) (d a b : BitVec 6)
  /-- FDIV_FSQRT (R218): Floating-point divide and square root as long operations. -/
  | fDivSqrt (y : Syl) (sqrt : Bool) (dbl : Bool) (d a b : BitVec 6)
  /-- FMIN_FMAX (R215): minimumNumber and maximumNumber. -/
  | fMinMax (y : Syl) (max : Bool) (dbl : Bool) (d a b : BitVec 6)
  /-- FCMPEQ_FCMPLT_FCMPLE (R215): Floating-point comparisons into a g-register. -/
  | fCmp (y : Syl) (op : FCmpOp) (dbl : Bool) (d a b : BitVec 6)
  /-- FCVTIF_FCVTFI (R215): Conversions between integer and floating point. -/
  | fCvtInt (y : Syl) (toInt : Bool) (dbl : Bool) (d a : BitVec 6)
  /-- FMOVGF_FMOVFG (R206): Bit copies between g and f registers. -/
  | fMov (y : Syl) (fromF : Bool) (dbl : Bool) (d a : BitVec 6)
  /-- FNEG_FABS (R215): Sign operations without flags. -/
  | fSign (y : Syl) (abs : Bool) (dbl : Bool) (d a : BitVec 6)
  /-- FCVTDS_FCVTSD (R215): Precision conversions. -/
  | fCvtPrec (y : Syl) (toDouble : Bool) (d a : BitVec 6)
  /-- FMA_FMS_FNMA_FNMS (R206): Fused multiply-add forms with one rounding. -/
  | fFma (y : Syl) (op : FmaOp) (dbl : Bool) (d a b : BitVec 6)
  /-- BR (R207): Unconditional relative branch. -/
  | br (y : Syl) (disp : BitVec 24)
  /-- CALL (R200): Relative call pushing the return address. -/
  | call (y : Syl) (disp : BitVec 24)
  /-- CALLR (R200): Register call pushing the return address. -/
  | callr (y : Syl) (a : BitVec 6)
  /-- JMPR (R200): Register jump. -/
  | jmpr (y : Syl) (a : BitVec 6)
  /-- RET (R200): Return popping the address from the stack. -/
  | ret (y : Syl)
  /-- BEQ_BNE_BLT_BGE_BLTU_BGEU (R207): Conditional branches. -/
  | bcond (y : Syl) (op : BrCond) (a b : BitVec 6) (disp : BitVec 12)
  /-- LOOP (R198): Arm the loop registers with a count from a register. -/
  | loop (y : Syl) (a : BitVec 6) (disp : BitVec 12)
  /-- LOOPI (R198): Arm the loop registers with an immediate count. -/
  | loopi (y : Syl) (count : BitVec 12) (disp : BitVec 12)
  /-- KCALL (R201): Call from U to K of the same world. -/
  | kcall (y : Syl) (imm : BitVec 12)
  /-- HCALL (R201): Call from N-K to H. -/
  | hcall (y : Syl) (imm : BitVec 12)
  /-- MCALL (R201): Call from K or H to M. -/
  | mcall (y : Syl) (imm : BitVec 12)
  /-- XRET (R225): Return from a handler, restoring saved state or tail-chaining a pending source. -/
  | xret (y : Syl)
  /-- TBEGIN (R202): Open or nest a hardware transaction, saving the checkpoint at depth 0. -/
  | tbegin (y : Syl) (d : BitVec 6) (disp : BitVec 12)
  /-- TCOMMIT (R257): End a transaction, making the write set visible at depth 0. -/
  | tcommit (y : Syl)
  /-- TABORT (R202): Abandon an open transaction with a user code. -/
  | tabort (y : Syl) (imm : BitVec 12)
  /-- FENCE (R203): Order every earlier access before every later one. -/
  | fence (y : Syl)
  /-- DSYNC (R203): Wait for every earlier access, drain and maintenance to complete. -/
  | dsync (y : Syl)
  /-- ISYNC (R203): Discard fetched bundles and bring control state into force. -/
  | isync (y : Syl)
  /-- PCLR_OWN (R203): PCLR 0 clears predictor entries of the current world and basin. -/
  | pclrOwn (y : Syl)
  /-- PCLR_ALL (R203): PCLR 1 clears every predictor entry, at M only. -/
  | pclrAll (y : Syl)
  /-- MFCR (R187): Read a control register that has no row of its own. -/
  | mfcr (y : Syl) (d : BitVec 6) (num : BitVec 12)
  /-- MTCR (R188): Write a control register that has no row of its own, in force after 4 bundles. -/
  | mtcr (y : Syl) (d : BitVec 6) (num : BitVec 12)
  /-- CACHECTL_WRITE (R243): An MTCR to CACHECTL enables or bypasses L1I, L1D or L2. -/
  | cachectlWrite (y : Syl) (d : BitVec 6)
  /-- TLBINV_REGIME (R288): TLBINV OP 0 removes every entry of the issuer's regime. -/
  | tlbinvRegime (y : Syl) (d : BitVec 6)
  /-- TLBINV_ASID (R288): TLBINV OP 1 removes non-global entries of an ASID. -/
  | tlbinvAsid (y : Syl) (d : BitVec 6)
  /-- TLBINV_VA_ASID (R288): TLBINV OP 2 removes entries for a page with an ASID or global. -/
  | tlbinvVaAsid (y : Syl) (d : BitVec 6)
  /-- TLBINV_VA (R288): TLBINV OP 3 removes entries for a page whatever their ASID. -/
  | tlbinvVa (y : Syl) (d : BitVec 6)
  /-- TLBINV_VMID (R288): TLBINV OP 4 removes every entry of a VMID. -/
  | tlbinvVmid (y : Syl) (d : BitVec 6)
  /-- TLBINV_IPA (R288): TLBINV OP 5 removes stage-2 entries of an IPA page and combined entries of a VMID. -/
  | tlbinvIpa (y : Syl) (d : BitVec 6)
  /-- TLBINV_WORLD (R288): TLBINV OP 6 removes every entry of a world. -/
  | tlbinvWorld (y : Syl) (d : BitVec 6)
  /-- DTBNOW (R347): An MFCR of DTBNOW returns the island's time and latches the seconds for DTBSEC. -/
  | dtbNow (y : Syl) (d : BitVec 6)
  /-- SPT_CLAIM (R311): An MFCR of SPT_CLAIM takes one event of the active source of the level. -/
  | sptClaim (y : Syl) (d : BitVec 6)
  /-- INTERRUPT_ENTRY (R222): The core accepts a visible source and runs the 10-cycle entry, with takeover in cycles 1-6. -/
  | interruptEntry (core : CoreId) (first : BitVec 10)
  /-- LONG_OP_LAND (R192): A long operation's result lands and clears its pending mark. -/
  | longOpLand (core : CoreId) (index : Nat)
  /-- MB_ENTRY_DRAIN (R234): A merging-buffer entry drains when full, aged 64 cycles, under pressure or on demand. -/
  | mbEntryDrain (core : CoreId) (index : Nat)
  /-- RD_S (R251): A shared-read request is served at the home node. -/
  | rdS (core : CoreId) (line : BitVec 40) (fetch : Bool)
  /-- RD_U (R251): A unique-read request is served at the home node, invalidating other copies. -/
  | rdU (core : CoreId) (line : BitVec 40)
  /-- UPGRADE (R251): An upgrade of a shared line to M is served at the home node. -/
  | upgrade (core : CoreId) (line : BitVec 40)
  /-- WB (R251): A dirty eviction is written to the Pool, or handled as stale. -/
  | wb (core : CoreId) (line : BitVec 40)
  /-- WBK (R251): A clean-in-place of a dirty line is written to the Pool while the core keeps it. -/
  | wbk (core : CoreId) (line : BitVec 40)
  /-- EVICT (R251): A clean eviction clears the requester's directory bit. -/
  | evict (core : CoreId) (line : BitVec 40)
  /-- RD_NC (R233): A NORMAL-NC read is served coherently at the home node. -/
  | rdNc (line : BitVec 40)
  /-- WR_NC (R233): A NORMAL-NC write invalidates cached copies and is performed at the home node. -/
  | wrNc (line : BitVec 40) (mask : BitVec 64) (data : LineData)
  /-- AMO_AT_HOME (R256): An AMO request is performed indivisibly at the home slice or cistern controller. -/
  | amoAtHome (nc : Bool) (addr : BitVec 46) (fn : BitVec 6) (opnd cmp : Word)
  /-- SNP_SHARE (R251): A share snoop moves the core's copy to S and returns dirty data. -/
  | snpShare (core : CoreId) (line : BitVec 40)
  /-- SNP_INV (R258): An invalidate snoop removes the core's copy, aborting a conflicting transaction. -/
  | snpInv (core : CoreId) (line : BitVec 40)
  /-- UNPIN (R262): A slice drops the directory pins of a core's transaction sequence. -/
  | unpin (slice : SliceId) (core : CoreId) (seq : BitVec 4)
  /-- ABORT_ORDER (R262): A directory-pressure abort order aborts the youngest pinning transaction. -/
  | abortOrder (slice : SliceId) (set : BitVec 11) (requester : Option CoreId)
  /-- L2OP_CLEAN (R245): TRN_L2OP OP 1 starts a walk writing every dirty L2 line to its home slice. -/
  | l2opClean (core : CoreId) (w : RegW)
  /-- L2OP_CLEAN_INVALIDATE (R245): TRN_L2OP OP 2 starts a walk writing back and invalidating every L2 and L1D line. -/
  | l2opCleanInvalidate (core : CoreId) (w : RegW)
  /-- L2_WALK_DONE (R245): An L2 walk ends and BUSY clears. -/
  | l2WalkDone (core : CoreId)
  /-- POL_SRAM_WRITE (R244): A write of POL_SRAM.WAYS starts converting ways to SRAM or returns them to the cache. -/
  | polSramWrite (slice : SliceId) (w : RegW)
  /-- SRAM_CONVERSION_DONE (R244): Converted ways are written back and BUSY clears. -/
  | sramConversionDone (slice : SliceId)
  /-- CIS_TRAIN_DONE (R266): A cistern stack finishes training, mapping out failed pseudo-channels and setting readiness. -/
  | cisTrainDone (stack : Fin 2) (failed : BitVec 32)
  /-- CIS_READ (R268): A pseudo-channel read is decoded under DEC-TED, corrected, poisoned or counted. -/
  | cisRead (addr : BitVec 35) (errors : Nat)
  /-- CIS_WRITE (R269): A pseudo-channel write stores a codeword, merging partial words. -/
  | cisWrite (addr : BitVec 35) (mask : BitVec 8) (data : Word) (errors : Nat)
  /-- SCRUB_READ (R271): Patrol scrub reads the next line of a pseudo-channel at its pace. -/
  | scrubRead (addr : BitVec 35) (errors : Nat) (lastOfPass : Bool)
  /-- MAPOUT (R274): CIS_CMD OP MAPOUT maps out a named pseudo-channel. -/
  | mapout (stack : Fin 2) (w : RegW)
  /-- RESERVE_SET (R273): Setting CIS_CTRL.RESERVE withholds the top 512 MiB and starts the poison fill. -/
  | reserveSet (w : RegW)
  /-- RESERVE_FILL_DONE (R273): The reserve poison fill completes and FILLING clears. -/
  | reserveFillDone
  /-- CAIRN_BOUNDARY (R316): A cairn boundary falls due and the pair drains and commits a checkpoint. -/
  | cairnBoundary (pair : Fin 16)
  /-- LOCKSTEP_MISMATCH (R319): The comparator flags a difference and the pair restarts from its active checkpoint. -/
  | lockstepMismatch (pair : Fin 16)
  /-- CAIRN_RESTART_DONE (R319): State reload completes, the pair resumes and a LOCKSTEP record is written. -/
  | cairnRestartDone (pair : Fin 16)
  /-- COMPARATOR_TEST_DONE (R320): The comparator test of a locked pair leaving reset passes or fails. -/
  | comparatorTestDone (pair : Fin 16) (pass : Bool)
  /-- CRN_OUT (R321): CRN_CMD OUT takes a pair or core out of service. -/
  | crnOut (pair : Fin 16) (w : RegW)
  /-- CRN_TEST (R321): CRN_CMD TEST starts a logic self-test of a pair or core. -/
  | crnTest (pair : Fin 16) (w : RegW)
  /-- CRN_TEST_DONE (R321): A pair or core self-test ends with pass or fail. -/
  | crnTestDone (core : CoreId) (pass : Bool)
  /-- CRN_RETURN (R321): CRN_CMD RETURN resets and starts a pair or core. -/
  | crnReturn (pair : Fin 16) (w : RegW)
  /-- CRN_INJECT_FLIP (R319): CRN_INJECT.FLIP flips a bit of T2n+1's next register write, triggering a mismatch. -/
  | crnInjectFlip (pair : Fin 16) (w : RegW)
  /-- CHANNEL_FAIL (R322): A Cascade channel fails, its frames are replayed through failover and a CHANNEL record is written. -/
  | channelFail (ch : ChanId) (tier : Fin 8) (cause : ChanFailCause)
  /-- CAS_QUIESCE (R325): CAS_CMD QUIESCE stops new frames entering a channel. -/
  | casQuiesce (ch : ChanId) (w : RegW)
  /-- CHANNEL_QUIESCED (R325): The frames in a quiescing channel finish and STATE becomes quiesced. -/
  | channelQuiesced (ch : ChanId)
  /-- CAS_TEST (R325): CAS_CMD TEST starts a self-test of a quiesced or failed channel. -/
  | casTest (ch : ChanId) (w : RegW)
  /-- CAS_TEST_DONE (R325): A channel self-test ends with pass or failure. -/
  | casTestDone (ch : ChanId) (pass : Bool)
  /-- CAS_RETURN (R325): CAS_CMD RETURN puts a quiesced channel back in service. -/
  | casReturn (ch : ChanId) (w : RegW)
  /-- POOL_SLICE_UE (R326): An uncorrectable error in a slice's directory, tags or tracker starts its fencing. -/
  | poolSliceUe (slice : SliceId)
  /-- POOL_FENCE_CMD (R326): A write of POL_FENCE.FENCE = 1 starts fencing of a slice. -/
  | poolFenceCmd (slice : SliceId) (w : RegW)
  /-- POOL_FENCE_DONE (R326): Fencing completes, homes move to the substitute and waiting requests proceed. -/
  | poolFenceDone (slice : SliceId)
  /-- SPILL_BANK_FAIL (R327): A spillway bank controller parity error fences the bank and drops its frames. -/
  | spillBankFail (bank : Fin 4)
  /-- ERR_REC3_READ (R330): An aligned 8-byte read of ERR_REC3 moves the oldest NEW record to READ. -/
  | errRec3Read (r : RegR)
  /-- ERR_DONE (R330): A write of ERR_DONE frees the slot holding the named SEQ. -/
  | errDone (w : RegW)
  /-- SOURCE_EVENT (R303): A source input changes, counting an edge event or changing a level and waking or offering to its target. -/
  | sourceEvent (core : Option CoreId) (source : BitVec 10)
  /-- TIMER_COMPARE (R307): The island DTB reaches a Spout timer compare value and the timer source is raised. -/
  | timerCompare (core : CoreId) (secure : Bool)
  /-- SPT_RAISE (R308): A write to SPT_RAISE adds one event to a software source. -/
  | sptRaise (w : RegW)
  /-- SPT_IPI (R308): A write to SPT_IPI adds one event to an IPI of a core, or is refused. -/
  | sptIpi (w : RegW)
  /-- SPT_CLR (R303): A write of CLR = 1 sets a source's COUNT and OVF to 0. -/
  | sptClr (core : Option CoreId) (source : BitVec 5) (w : RegW)
  /-- SPT_SENSE_CHANGE (R303): A write that changes SENSE sets COUNT and OVF to 0. -/
  | sptSenseChange (w : RegW)
  /-- SPT_RETARGET (R309): A write that changes TARGET moves the source and its pending state to a new core. -/
  | sptRetarget (w : RegW)
  /-- THAW_RESUME (R297): GRD_THAW OP resume thaws a frozen master, delivering GUARD to a core. -/
  | thawResume (guard : Fin 113) (w : RegW)
  /-- THAW_RESET (R296): GRD_THAW OP reset thaws a frozen master by resetting it. -/
  | thawReset (guard : Fin 113) (w : RegW)
  /-- POWER_ON (R334): The AON supplies rise and the device runs its power-on reset from boot step 1. -/
  | powerOn
  /-- RESET_N (R334): The rising edge of RESET_N after at least 1 µs low releases a device reset. -/
  | resetN
  /-- PWR_RESET (R334): A write of PWR_RESET with the correct key from M resets the device. -/
  | pwrReset (w : RegW)
  /-- MESH_UE (R334): An uncorrectable mesh flit header resets the device. -/
  | meshUe
  /-- CONTROL_PARITY (R334): A parity error in the Sluice, SPP engine, weirs or Spout hub resets the device. -/
  | controlParity
  /-- SUPPLY (R371): A rail stays below its monitor threshold for 2 µs and the device resets. -/
  | supply
  /-- IMAGE_STREAM_START (R341): Once the cistern reports ready, the boot image streams from the source into the cistern. -/
  | imageStreamStart (dir image : List Byte)
  /-- IMAGE_VERIFY_DONE (R340): The boot image is verified, or the secondary is tried, or boot waits. -/
  | imageVerifyDone (secondary : List Byte)
  /-- PWR_START (R336): A write to PWR_START records a start address and starts a core waiting in reset. -/
  | pwrStart (w : RegW)
  /-- PWR_BASINRST (R337): An S-world write to PWR_BASINRST resets the named basins. -/
  | pwrBasinrst (w : RegW)
  /-- KEY_REVOKE (R342): A write of PWR_KEYS.REVOKE from M revokes an owner key slot permanently. -/
  | keyRevoke (w : RegW)
  /-- PWR_REQ (R343): A write to PWR_REQ asks a domain to change power state, or is refused. -/
  | pwrReq (w : RegW)
  /-- DOMAIN_CHANGE_DONE (R343): A domain completes its change of power state. -/
  | domainChangeDone (pd : Fin 96)
  /-- CORE_WAKE (R344): A sleeping core wakes on a source or request and resumes, or restarts after WAKE_LOST. -/
  | coreWake (core : CoreId)
  /-- CLK_FREQ_WRITE (R346): A write of CLK_FREQn requests a new core clock code. -/
  | clkFreqWrite (pair : Fin 16) (w : RegW)
  /-- CLK_FREQ_APPLY (R346): A requested frequency applies once the voltage allows it. -/
  | clkFreqApply (pair : Fin 16)
  /-- DTB_SET (R348): An S-world write to DTB_SET0 schedules a step of the device time base. -/
  | dtbSet (w : RegW)
  /-- DTB_STEP_APPLY (R348): 1 µs after the write the step is applied at every island copy and STEP_DONE is set. -/
  | dtbStepApply
  /-- DTB_ADJ (R348): A write to DTB_ADJ changes the master's rate from the next nanosecond. -/
  | dtbAdj (w : RegW)
  /-- PPS_EDGE (R349): A rising PPS_IN edge is timestamped, or ignored as a glitch. -/
  | ppsEdge
  /-- AVS_POLL (R350): Every 10 ms the controller reads the regulator and recomputes the target voltage. -/
  | avsPoll (reading : AvsReading)
  /-- VOUT_COMMAND (R350): The controller moves the core rail by at most 10 mV towards the target. -/
  | voutCommand (acked : Bool)
  /-- REFCLK_SYS_STOP (R377): REFCLK_SYS stops in service and every non-AON island stops until RESET_N. -/
  | refclkSysStop
  /-- REFCLK_SRD_STOP (R377): REFCLK_SRD stops and every lane loses lock, retraining when it returns. -/
  | refclkSrdStop
  /-- THERMTRIP (R383): A sensor reads 125 °C or more and THERMTRIP_N goes low. -/
  | thermtrip
  /-- BYPASS (R356): JTAG BYPASS selects the 1-bit register. -/
  | bypass (tdi : List Bool)
  /-- IDCODE (R356): JTAG IDCODE returns the device identification code. -/
  | idcode
  /-- SAMPLE_PRELOAD (R356): JTAG SAMPLE/PRELOAD captures or preloads the boundary scan. -/
  | samplePreload (pins load : List Bool)
  /-- EXTEST (R356): JTAG EXTEST drives low-speed pins from the boundary scan. -/
  | extest (pins load : List Bool)
  /-- CLAMP (R356): JTAG CLAMP holds the boundary scan outputs with bypass. -/
  | clamp (tdi : List Bool)
  /-- HIGHZ (R356): JTAG HIGHZ places low-speed outputs in high impedance. -/
  | highz (tdi : List Bool)
  /-- EXTEST_PULSE (R356): JTAG IEEE 1149.6 pulse test of serial lanes. -/
  | extestPulse (pins load : List Bool)
  /-- EXTEST_TRAIN (R356): JTAG IEEE 1149.6 train test of serial lanes. -/
  | extestTrain (pins load : List Bool)
  /-- DAP (R357): A DAP access at Update-DR to the DBG or TRC block. -/
  | dap (write trc : Bool) (offset : BitVec 12) (data : Word)
  /-- NONCE (R356): JTAG NONCE reads the current debug nonce. -/
  | nonce
  /-- AUTH (R354): JTAG AUTH checks a debug certificate, ORs its grant and renews the nonce. -/
  | auth (cert : List Byte)
  /-- LOAD (R356): JTAG LOAD supplies a boot image while the device waits, checked as for flash. -/
  | jtagLoad (image : List Byte)
  /-- FUSE (R356): JTAG FUSE blows a fuse word when permitted. -/
  | fuse (word : FuseWord)
  /-- JTAG_RESET (R356): The JTAG RESET instruction resets the device with cause 8. -/
  | jtagReset
  /-- DBG_AUTH_WRITE (R353): A write to DBG_AUTH from M sets GRANT, ending debug in states whose grant clears. -/
  | dbgAuthWrite (w : RegW)
  /-- HALT (R358): DBG_CTRL HALT requests that the selected core halt. -/
  | halt (w : RegW)
  /-- HALT_ACCEPT (R358): A pending halt is accepted at a permitted bundle boundary and the core halts. -/
  | haltAccept (core : CoreId)
  /-- RESUME (R358): DBG_CTRL RESUME continues a halted core. -/
  | resume (w : RegW)
  /-- STEP (R358): DBG_CTRL STEP issues one bundle and halts again. -/
  | debugStep (w : RegW)
  /-- ITR_INJECT (R359): A write to DBG_ITR runs a bundle on the halted core. -/
  | itrInject (core : CoreId) (w : Option RegW)
  /-- BREAKPOINT_HIT (R358): A bundle-address match halts the core before the bundle issues. -/
  | breakpointHit (core : CoreId)
  /-- WATCHPOINT_HIT (R358): A read or write match halts the core after the matching bundle. -/
  | watchpointHit (core : CoreId) (entry : Fin 6)
  /-- TRACE_OVERFLOW (R363): A trace buffer regains 1 KiB after overflowing and emits OVERFLOW, ALIGN and SYNC. -/
  | traceOverflow (core : CoreId)
  /-- TRACE_SYNC_TIMER (R362): 1 s since the last SYNC passes and ALIGN and SYNC are emitted. -/
  | traceSyncTimer (core : CoreId)
  /-- TRACE_DMA_WRITE (R366): The trace DMA writes a frame into its buffer, wrapping or stopping at the end. -/
  | traceDmaWrite (core : CoreId)
  /-- FUNCTION_READY (R27): A function such as the Sluice, SPP engine, Spout hub, DTB, trace unit, a Pool slice, a spillway bank, a jet or a split core finishes its own initialisation or self-test and its readiness bit is set. -/
  | functionReady (unit : FnUnit)
  /-- ILLEGAL_BUNDLE (R184): The core issues a bundle that meets a condition of R184, no syllable takes effect and ILLEGAL is taken. -/
  | illegalBundle (core : CoreId)
  /-- IABORT (R287): A bundle fetch faults in translation, guard or type, or returns poison, and the core takes an instruction abort on that bundle. -/
  | iabort (core : CoreId)
  /-- SA_BAD_OP (R116): The SA block takes a command whose block cannot be read or whose OP is not 1–9, and ends it with READ_FAIL or BAD_OP. -/
  | saBadOp
  /-- SLU_BAD_OP (R150): The Sluice takes a command whose block cannot be read or whose OP is not 1–4, and ends it with READ_FAIL or BAD_OP. -/
  | sluBadOp
  /-- FLIT_CRC_ERROR (R170): A flit arrives with a CRC error, a malformed TYPE or LEN above 240, is discarded and counted, and the receiver sends a LINK flit naming its last in-order SEQ. -/
  | flitCrcError (link : LinkId)
  /-- RL_DETECT (R168): The lanes of a ridge link in DETECT detect the neighbour's signal, correct lane order and polarity, and training moves to EXCHANGE. -/
  | rlDetect (link : LinkId) (lanes : BitVec 4)
  /-- LENT_XOFF_FLIT (R178): A CTRL flit carrying an XOFF change for a borrowed MAC reaches the carrier, which answers the partner under R44. -/
  | lentXoffFlit (link : LinkId) (f : Flit)
  /-- CAIRN_ABORT (R263): The interval from the previous cairn commit reaches 8 µs while a deferred boundary waits on an open transaction, which aborts with cause CAIRN before the commit follows. -/
  | cairnAbort (pair : Fin 16)
  /-- SUPPLY_RESTORED (R371): A rail that caused a SUPPLY reset has been back above its threshold plus 20 mV for 1 ms, and the device leaves reset and boots from step 2. -/
  | supplyRestored
  /-- PMB_ALERT (R350): PMB_ALERT_N goes low and AVS fails: commands stop and core clocks above code 16 are lowered. -/
  | pmbAlert
  deriving DecidableEq, Repr

end Sys2Proof
end

