-- ==== Sys2Proof/Decode.lean ====
section
/-! DEFINITION. The commands that a word spells by the opcode table's bits: no row of the table gives bits. -/

namespace Sys2Proof

/-- The command of a table word: none, since no row of spec/opcode_table.json gives a field or a bit. The syllables of
the Tarn cores have their own decoder, Sys2Proof.Machine.decodeSyl, which injected bundles use (R359). -/
def decodeTableWord (nbits w : Nat) : Option Instr :=
  match nbits, w with
  | _, _ => none

end Sys2Proof
end

