-- ==== Sys2Proof/Config.lean ====
section
/-! DEFINITION. What the spec leaves open: free values, which nothing in Lean can evaluate, and the functions whose
definition the spec leaves to a cited standard (hash, signature check, random number generator). -/

namespace Sys2Proof.Config

/-- The `n`-th free 64-bit value: a value the spec leaves undefined (R11, R186, R268). DESIGN CHOICE, notes/assumptions/8.md. -/
opaque freeWord : Nat → BitVec 64

/-- The `n`-th word of the random number generator (R62, R354). DESIGN CHOICE, notes/assumptions/8.md. -/
opaque rng : Nat → BitVec 64

/-- Byte `n` of the boot ROM, whose contents the spec does not give (R18). DESIGN CHOICE, notes/assumptions/11.md. -/
opaque romByte : Nat → BitVec 8

/-- SHA-384 of a string of bytes (R77), which the spec names and does not give. PRESUMED, notes/assumptions/11.md. -/
opaque sha384 : List (BitVec 8) → BitVec 384

/-- The ECDSA P-384 check of a signature over a digest with a public key (R77). PRESUMED, notes/assumptions/11.md. -/
opaque ecdsaOk : (key digest sig : List (BitVec 8)) → Bool

/-- The ML-DSA-87 check of a signature over a message with a public key (R77). PRESUMED, notes/assumptions/11.md. -/
opaque mldsaOk : (key message sig : List (BitVec 8)) → Bool

/-- Whether a fused product of zero and infinity with a quiet NaN addend raises NV (IEEE 754-2019 leaves it open).
DESIGN CHOICE, notes/assumptions/21.md. -/
opaque fmaNv : Bool

/-- The target voltage in mV that a part's delay monitors give a core clock code (R374). DESIGN CHOICE,
notes/assumptions/8.md. -/
opaque codeTarget : Nat → Nat

end Sys2Proof.Config
end

