-- ==== Sys2Proof/Machine/Bits.lean ====
section
/-! DEFINITION. Bit fields, byte order (R5, R388), sparse canonical lists, LFSRs (R231), population counts. -/

namespace Sys2Proof.Machine

/-- Bits `hi` to `lo` of a number, as a number (the bits(x, m, l) of 00_scope.md). -/
def bits (x hi lo : Nat) : Nat := (x >>> lo) % 2 ^ (hi + 1 - lo)

/-- Bit `i` of a word. -/
def bitAt {w : Nat} (x : BitVec w) (i : Nat) : Bool := x.getLsbD i

/-- A word with bit `i` set to `b`. -/
def setBit {w : Nat} (x : BitVec w) (i : Nat) (b : Bool) : BitVec w :=
  if b then x ||| (BitVec.ofNat w (2 ^ i)) else x &&& ~~~(BitVec.ofNat w (2 ^ i))

/-- The number of bits set. -/
def popc {w : Nat} (x : BitVec w) : Nat := ((List.range w).filter (fun i => x.getLsbD i)).length

/-- The indexes of the bits set, rising. -/
def bitList {w : Nat} (x : BitVec w) : List Nat := (List.range w).filter (fun i => x.getLsbD i)

/-- A number as `n` bytes, least significant first (R5). -/
def leBytes : Nat → Nat → List Byte
  | 0, _ => []
  | n + 1, v => BitVec.ofNat 8 v :: leBytes n (v / 256)

/-- The number a little-endian list of bytes holds (R5). -/
def leNat : List Byte → Nat
  | [] => 0
  | b :: t => b.toNat + 256 * leNat t

/-- The number a list of bytes holds, most significant first, as in a frame (R5). -/
def beNat (l : List Byte) : Nat := leNat l.reverse

/-- A number as `n` bytes, most significant first (R5). -/
def beBytes (n v : Nat) : List Byte := (leBytes n v).reverse

/-- `n` bytes from byte `i` of a list on. -/
def slice (l : List Byte) (i n : Nat) : List Byte := (l.drop i).take n

/-- The little-endian field of `n` bytes at byte `i` of a structure in memory. -/
def leAt (l : List Byte) (i n : Nat) : Nat := leNat (slice l i n)

/-- The most-significant-first field of `n` bytes at byte `i` of a frame. -/
def beAt (l : List Byte) (i n : Nat) : Nat := beNat (slice l i n)

/-- The bytes `new` put over a list from byte `i` on. -/
def patch (l : List Byte) (i : Nat) (new : List Byte) : List Byte :=
  l.take i ++ new ++ l.drop (i + new.length)

/-- The value at a key of a sparse list. -/
def sparseGet {α : Type} (d : α) (k : Nat) : List (Nat × α) → α
  | [] => d
  | (k', v) :: t => if k' = k then v else sparseGet d k t

/-- A sparse list with the value at a key changed: keys strictly rising, no entry equal to the default of its key. -/
def sparsePut {α : Type} [DecidableEq α] (d : α) (k : Nat) (v : α) : List (Nat × α) → List (Nat × α)
  | [] => if v = d then [] else [(k, v)]
  | (k', v') :: t =>
    if k < k' then (if v = d then (k', v') :: t else (k, v) :: (k', v') :: t)
    else if k = k' then (if v = d then t else (k, v) :: t)
    else (k', v') :: sparsePut d k v t

/-- Every key of a sparse list is above `k`. -/
def keysAbove {α : Type} (k : Nat) (l : List (Nat × α)) : Bool := l.all (fun e => decide (k < e.1))

/-- The canonical form of a sparse list: keys strictly rising, no entry equal to its key's default. -/
def sparseWf {α : Type} [DecidableEq α] (d : Nat → α) : List (Nat × α) → Bool
  | [] => true
  | (k, v) :: t => keysAbove k t && decide (v ≠ d k) && sparseWf d t

/-- A key put into a strictly rising list of keys. -/
def keyPut (k : Nat) : List Nat → List Nat
  | [] => [k]
  | k' :: t => if k < k' then k :: k' :: t else if k = k' then k' :: t else k' :: keyPut k t

/-- A key taken out of a list of keys. -/
def keyDel (k : Nat) (l : List Nat) : List Nat := l.filter (fun x => x ≠ k)

/-- One step of the LFSR x^16 + x^14 + x^13 + x^11 + 1, shifting toward bit 0, feedback into bit 15 (R231). -/
def lfsrStep (l : BitVec 16) : BitVec 16 :=
  let fb := (bitAt l 0) ^^ (bitAt l 2) ^^ (bitAt l 3) ^^ (bitAt l 5)
  setBit (l >>> 1) 15 fb

/-- The way an LFSR value chooses among `k`: ⌊L × k / 65,536⌋ (R231). -/
def lfsrWay (l : BitVec 16) (k : Nat) : Nat := l.toNat * k / 65536

/-- The lowest of the ways 0 to k − 1 that is not in a list. -/
def freeWay (used : List Nat) (k : Nat) : Option Nat := (List.range k).find? (fun w => !(used.contains w))

/-- Byte `i` of a line. -/
def lineByte (d : LineData) (i : Nat) : Byte := BitVec.ofNat 8 (d.toNat >>> (8 * i))

/-- A line with byte `i` changed. -/
def lineSetByte (d : LineData) (i : Nat) (b : Byte) : LineData :=
  (d &&& ~~~((BitVec.ofNat 512 255) <<< (8 * i))) ||| ((BitVec.ofNat 512 b.toNat) <<< (8 * i))

/-- The bytes of `new` that a mask names, over a line. -/
def lineMerge (old new : LineData) (mask : BitVec 64) : LineData :=
  (bitList mask).foldl (fun d i => lineSetByte d i (lineByte new i)) old

/-- 64 bytes as a line. -/
def lineOfBytes (l : List Byte) : LineData := BitVec.ofNat 512 (leNat l)

/-- A line as 64 bytes. -/
def bytesOfLine (d : LineData) : List Byte := leBytes 64 d.toNat

/-- A 64-bit word sign-extended from its low `n` bits. -/
def sext (n : Nat) (x : Word) : Word := ((x <<< (64 - n)).sshiftRight (64 - n))

/-- A 64-bit word zero-extended from its low `n` bits. -/
def zext (n : Nat) (x : Word) : Word := ((x <<< (64 - n)) >>> (64 - n))

end Sys2Proof.Machine
end

