-- ==== Sys2Proof/Machine/Float.lean ====
section
/-! DEFINITION. Floating point of IEEE 754-2019 as 11_tarn_pipeline.md R215-R221 fix it, by exact integer arithmetic
and one rounding. Flags are five bits NV DZ OF UF NX, NV highest, as in FPC (R187). -/

namespace Sys2Proof.Machine

/-- The two formats (R215). -/
inductive Fmt where
  | s
  | d
  deriving DecidableEq, Repr

/-- Significand bits, the leading one included. -/
def Fmt.prec : Fmt → Nat
  | .s => 24
  | .d => 53
/-- The exponent of the lowest bit of a subnormal. -/
def Fmt.emin : Fmt → Int
  | .s => -149
  | .d => -1074
/-- The exponent of the leading bit of the largest finite value. -/
def Fmt.emax : Fmt → Int
  | .s => 127
  | .d => 1023
/-- The exponent field's width. -/
def Fmt.ebits : Fmt → Nat
  | .s => 8
  | .d => 11
/-- The encoding of +infinity. -/
def Fmt.inf : Fmt → Nat
  | .s => 0x7F800000
  | .d => 0x7FF0000000000000
/-- The canonical quiet NaN (R215). -/
def Fmt.nan : Fmt → Nat
  | .s => 0x7FC00000
  | .d => 0x7FF8000000000000
/-- The sign bit. -/
def Fmt.signBit : Fmt → Nat
  | .s => 0x80000000
  | .d => 0x8000000000000000

def fNV : BitVec 5 := 16
def fDZ : BitVec 5 := 8
def fOF : BitVec 5 := 4
def fUF : BitVec 5 := 2
def fNX : BitVec 5 := 1

/-- Rounding modes of FPC.RM; values 5 to 7 act as 0 (R187). -/
inductive Rm where
  | rne
  | rtz
  | rdn
  | rup
  | rmm
  deriving DecidableEq, Repr

def rmOf (n : Nat) : Rm :=
  if n = 1 then .rtz else if n = 2 then .rdn else if n = 3 then .rup else if n = 4 then .rmm else .rne

/-- An operand: NaN (quiet or signalling), infinity, or `m × 2^e`, zero with m = 0. -/
inductive Fp where
  | nan (signalling : Bool)
  | inf (neg : Bool)
  | num (neg : Bool) (m : Nat) (e : Int)
  deriving DecidableEq, Repr

/-- An operand read from its encoding; with FTZ a subnormal is a zero of its sign (R216). A single-precision operand
is bits 31:0 (R186). -/
def unpack (f : Fmt) (ftz : Bool) (x : Word) : Fp :=
  let v := x.toNat % (2 * f.signBit)
  let neg := decide (f.signBit ≤ v)
  let fb := f.prec - 1
  let ex := (v >>> fb) % 2 ^ f.ebits
  let fr := v % 2 ^ fb
  if ex = 2 ^ f.ebits - 1 then
    (if fr = 0 then .inf neg else .nan (decide (fr < 2 ^ (fb - 1))))
  else if ex = 0 then (if ftz then .num neg 0 0 else .num neg fr f.emin)
  else .num neg (fr + 2 ^ fb) (f.emin + ((ex : Int) - 1))

/-- A result with the flags it raises. -/
abbrev FpRes := Word × BitVec 5

def signed (f : Fmt) (neg : Bool) (v : Nat) : Word := BitVec.ofNat 64 (v + if neg then f.signBit else 0)

def fpNan (f : Fmt) (fl : BitVec 5) : FpRes := (BitVec.ofNat 64 f.nan, fl)
def fpInf (f : Fmt) (neg : Bool) (fl : BitVec 5) : FpRes := (signed f neg f.inf, fl)
def fpZero (f : Fmt) (neg : Bool) : FpRes := (signed f neg 0, 0)

/-- Whether a magnitude with remainder `rem` out of `2 × half` is rounded up. -/
def roundsUp (rm : Rm) (neg odd : Bool) (rem half : Nat) (sticky : Bool) : Bool :=
  let inexact := decide (rem ≠ 0) || sticky
  match rm with
  | .rne => decide (half < rem) || (decide (rem = half) && (sticky || odd))
  | .rtz => false
  | .rdn => neg && inexact
  | .rup => !neg && inexact
  | .rmm => decide (half ≤ rem)

/-- `m × 2^e`, with something more below its last bit when `sticky`, rounded to a multiple of `2^q`: the quotient and
whether it is inexact. -/
def roundAt (rm : Rm) (neg : Bool) (m : Nat) (e q : Int) (sticky : Bool) : Nat × Bool :=
  if q ≤ e then (m * 2 ^ (e - q).toNat, sticky)
  else
    let d := (q - e).toNat
    let sig := m / 2 ^ d
    let rem := m % 2 ^ d
    let up := roundsUp rm neg (decide (sig % 2 = 1)) rem (2 ^ (d - 1)) sticky
    (if up then sig + 1 else sig, decide (rem ≠ 0) || sticky)

/-- The encoding of `sig × 2^q` whose leading bit fits the format. -/
def encode (f : Fmt) (sig : Nat) (q : Int) : Nat :=
  let fb := f.prec - 1
  if sig < 2 ^ fb then sig else sig + ((q - f.emin).toNat) * 2 ^ fb

/-- A nonzero exact value rounded to a format (R215, R216): tininess is detected after rounding, overflow by mode. -/
def roundFp (f : Fmt) (rm : Rm) (ftz : Bool) (neg : Bool) (m : Nat) (e : Int) (sticky : Bool) : FpRes :=
  let top := e + (m.log2 : Int)
  let p : Int := (f.prec : Int) - 1
  let q := if top - p < f.emin then f.emin else top - p
  let r := roundAt rm neg m e q sticky
  let carry := decide (r.1 = 2 ^ f.prec)
  let sig := if carry then r.1 / 2 else r.1
  let q := if carry then q + 1 else q
  let minNorm := f.emin + p
  let unb := roundAt rm neg m e (top - p) sticky
  let tiny := decide (top < minNorm) && !(decide (top + 1 = minNorm) && decide (unb.1 = 2 ^ f.prec))
  if f.emax < q + p ∧ 2 ^ (f.prec - 1) ≤ sig then
    let toInf : Bool := match rm with
      | .rne => true
      | .rmm => true
      | .rtz => false
      | .rdn => neg
      | .rup => !neg
    (signed f neg (if toInf then f.inf else f.inf - 1), fOF ||| fNX)
  else if ftz && decide (sig < 2 ^ (f.prec - 1)) && decide (0 < sig) then (signed f neg 0, fUF ||| fNX)
  else
    (signed f neg (encode f sig q),
      (if r.2 then fNX else 0) ||| (if tiny && r.2 then fUF else 0))

def Fp.isSnan : Fp → Bool
  | .nan s => s
  | _ => false
def Fp.isNan : Fp → Bool
  | .nan _ => true
  | _ => false
def Fp.neg : Fp → Fp
  | .nan s => .nan s
  | .inf n => .inf (!n)
  | .num n m e => .num (!n) m e

/-- The sum of two finite values, exact, then rounded; an exact zero is −0 only when both are −0 or, in RDN, when the
operands differ in sign. -/
def addNum (f : Fmt) (rm : Rm) (ftz : Bool) (na : Bool) (ma : Nat) (ea : Int) (nb : Bool) (mb : Nat) (eb : Int) : FpRes :=
  if ma = 0 ∧ mb = 0 then fpZero f (if na = nb then na else decide (rm = .rdn))
  else
    let e := if ma = 0 then eb else if mb = 0 then ea else if ea ≤ eb then ea else eb
    let a := if ma = 0 then 0 else ma * 2 ^ (ea - e).toNat
    let b := if mb = 0 then 0 else mb * 2 ^ (eb - e).toNat
    let x : Int := (if na then -(a : Int) else (a : Int)) + (if nb then -(b : Int) else (b : Int))
    if x = 0 then fpZero f (decide (rm = .rdn))
    else roundFp f rm ftz (decide (x < 0)) x.natAbs e false

/-- NV for a signalling operand. -/
def nvOf (l : List Fp) : BitVec 5 := if l.any Fp.isSnan then fNV else 0

/-- FADD of unpacked operands. -/
def fpAdd (f : Fmt) (rm : Rm) (ftz : Bool) (a b : Fp) : FpRes :=
  if a.isNan || b.isNan then fpNan f (nvOf [a, b])
  else match a, b with
    | .inf na, .inf nb => if na = nb then fpInf f na 0 else fpNan f fNV
    | .inf n, _ => fpInf f n 0
    | _, .inf n => fpInf f n 0
    | .num na ma ea, .num nb mb eb => addNum f rm ftz na ma ea nb mb eb
    | _, _ => fpNan f 0

/-- FMUL of unpacked operands. -/
def fpMul (f : Fmt) (rm : Rm) (ftz : Bool) (a b : Fp) : FpRes :=
  if a.isNan || b.isNan then fpNan f (nvOf [a, b])
  else match a, b with
    | .inf na, .inf nb => fpInf f (na != nb) 0
    | .inf na, .num nb mb _ => if mb = 0 then fpNan f fNV else fpInf f (na != nb) 0
    | .num na ma _, .inf nb => if ma = 0 then fpNan f fNV else fpInf f (na != nb) 0
    | .num na ma ea, .num nb mb eb =>
      if ma * mb = 0 then fpZero f (na != nb) else roundFp f rm ftz (na != nb) (ma * mb) (ea + eb) false
    | _, _ => fpNan f 0

/-- FDIV of unpacked operands. -/
def fpDiv (f : Fmt) (rm : Rm) (ftz : Bool) (a b : Fp) : FpRes :=
  if a.isNan || b.isNan then fpNan f (nvOf [a, b])
  else match a, b with
    | .inf _, .inf _ => fpNan f fNV
    | .inf na, .num nb _ _ => fpInf f (na != nb) 0
    | .num na _ _, .inf nb => fpZero f (na != nb)
    | .num na ma ea, .num nb mb eb =>
      if mb = 0 then (if ma = 0 then fpNan f fNV else fpInf f (na != nb) fDZ)
      else if ma = 0 then fpZero f (na != nb)
      else
        let n := ma * 2 ^ 128
        roundFp f rm ftz (na != nb) (n / mb) (ea - eb - 128) (decide (n % mb ≠ 0))
    | _, _ => fpNan f 0

/-- The integer square root by bits, the highest first. -/
def isqrt (n : Nat) : Nat → Nat → Nat
  | 0, r => r
  | k + 1, r => isqrt n k (if (r + 2 ^ k) * (r + 2 ^ k) ≤ n then r + 2 ^ k else r)

/-- FSQRT of an unpacked operand. -/
def fpSqrt (f : Fmt) (rm : Rm) (ftz : Bool) (a : Fp) : FpRes :=
  match a with
  | .nan s => fpNan f (if s then fNV else 0)
  | .inf n => if n then fpNan f fNV else fpInf f false 0
  | .num n m e =>
    if m = 0 then fpZero f n
    else if n then fpNan f fNV
    else
      let odd := decide (e % 2 ≠ 0)
      let m := (if odd then 2 * m else m) * 2 ^ 128
      let e := (if odd then e - 1 else e) - 128
      let r := isqrt m 96 0
      roundFp f rm ftz false r (e / 2) (decide (r * r ≠ m))

/-- The exact order of two numbers: a < b. -/
def numLt (na : Bool) (ma : Nat) (ea : Int) (nb : Bool) (mb : Nat) (eb : Int) : Bool :=
  let e := if ea ≤ eb then ea else eb
  let a : Int := (ma * 2 ^ (ea - e).toNat : Nat)
  let b : Int := (mb * 2 ^ (eb - e).toNat : Nat)
  decide ((if na then -a else a) < (if nb then -b else b))

/-- a < b for operands that are no NaN. -/
def fpLt (a b : Fp) : Bool :=
  match a, b with
  | .inf na, .inf nb => na && !nb
  | .inf na, _ => na
  | _, .inf nb => !nb
  | .num na ma ea, .num nb mb eb => numLt na ma ea nb mb eb
  | _, _ => false

/-- Comparison results (R215): EQ raises NV only for a signalling NaN, LT and LE for any NaN. -/
def fpCmp (op : Nat) (a b : Fp) : Bool × BitVec 5 :=
  if a.isNan || b.isNan then (false, if op = 0 then nvOf [a, b] else fNV)
  else
    let lt := fpLt a b
    let gt := fpLt b a
    (if op = 0 then !lt && !gt else if op = 1 then lt else !gt, 0)

/-- The encoding of an operand as it stands after FTZ. -/
def fpBits (f : Fmt) (a : Fp) : Word :=
  match a with
  | .nan _ => BitVec.ofNat 64 f.nan
  | .inf n => signed f n f.inf
  | .num n m e => if m = 0 then signed f n 0 else signed f n (encode f m e)

/-- FMIN and FMAX (R215): minimumNumber and maximumNumber, −0 below +0. -/
def fpMinMax (f : Fmt) (isMax : Bool) (a b : Fp) : FpRes :=
  let fl := nvOf [a, b]
  if a.isNan && b.isNan then fpNan f fl
  else if a.isNan then (fpBits f b, fl)
  else if b.isNan then (fpBits f a, fl)
  else
    let negOf : Fp → Bool := fun x => match x with
      | .num n _ _ => n
      | .inf n => n
      | .nan _ => false
    let aLess := fpLt a b || (!(fpLt b a) && negOf a && !(negOf b))
    (fpBits f (if aLess = isMax then b else a), fl)

/-- FCVTIF: a signed 64-bit integer to floating point. -/
def fpOfInt (f : Fmt) (rm : Rm) (ftz : Bool) (x : Word) : FpRes :=
  let v := x.toInt
  if v = 0 then fpZero f false else roundFp f rm ftz (decide (v < 0)) v.natAbs 0 false

/-- FCVTFI: floating point to a signed 64-bit integer (R215). -/
def fpToInt (rm : Rm) (a : Fp) : Word × BitVec 5 :=
  match a with
  | .nan _ => (0x7FFFFFFFFFFFFFFF, fNV)
  | .inf n => (if n then 0x8000000000000000 else 0x7FFFFFFFFFFFFFFF, fNV)
  | .num n m e =>
    let r := roundAt rm n m e 0 false
    let v : Int := if n then -(r.1 : Int) else (r.1 : Int)
    if v ≥ 2 ^ 63 then (0x7FFFFFFFFFFFFFFF, fNV)
    else if v < -(2 ^ 63) then (0x8000000000000000, fNV)
    else (BitVec.ofInt 64 v, if r.2 then fNX else 0)

/-- FCVTDS and FCVTSD: an operand of one format rounded to the other. -/
def fpConvert (f : Fmt) (rm : Rm) (ftz : Bool) (a : Fp) : FpRes :=
  match a with
  | .nan s => fpNan f (if s then fNV else 0)
  | .inf n => fpInf f n 0
  | .num n m e => if m = 0 then fpZero f n else roundFp f rm ftz n m e false

/-- The fused product and sum with one rounding (R206). Whether 0 × infinity with a quiet NaN addend raises NV is left
to the implementation by the standard: Config.fmaNv, notes/assumptions/21.md. -/
def fpFma (f : Fmt) (rm : Rm) (ftz : Bool) (a b c : Fp) : FpRes :=
  let zeroInf : Bool := match a, b with
    | .inf _, .num _ m _ => decide (m = 0)
    | .num _ m _, .inf _ => decide (m = 0)
    | _, _ => false
  if a.isNan || b.isNan || c.isNan then
    fpNan f (nvOf [a, b, c] ||| (if zeroInf && Config.fmaNv then fNV else 0))
  else if zeroInf then fpNan f fNV
  else
    match a, b with
    | .num na ma ea, .num nb mb eb =>
      match c with
      | .inf n => fpInf f n 0
      | .num nc mc ec =>
        if ma * mb = 0 then
          if mc = 0 then fpZero f (if (na != nb) = nc then nc else decide (rm = .rdn))
          else roundFp f rm ftz nc mc ec false
        else addNum f rm ftz (na != nb) (ma * mb) (ea + eb) nc mc ec
      | .nan _ => fpNan f 0
    | .inf na, .inf nb => fpAdd f rm ftz (.inf (na != nb)) c
    | .inf na, .num nb _ _ => fpAdd f rm ftz (.inf (na != nb)) c
    | .num na _ _, .inf nb => fpAdd f rm ftz (.inf (na != nb)) c
    | _, _ => fpNan f 0

end Sys2Proof.Machine
end

