-- ==== Sys2Proof/Machine/CoreTypes.lean ====
section
/-! DEFINITION. The state of one Tarn core and of one core pair, as plain data: register files (10_tarn_isa.md
R186-R188), the bundle being issued (R182-R185), results still to land (R191, R192), translation and handling
registers (15_worlds_basins.md R284), caches, merging buffer and transaction (12_memory_system.md R228-R246,
13_coherence_transactions.md R257-R262), private sources (16_spout_interrupts.md R301-R307), cairn checkpoint
(17_fault_tolerance.md R316). -/

namespace Sys2Proof.Machine

/-- The four region types of R232, in the order of their codes. -/
inductive RType where
  | device
  | deviceE
  | normalNC
  | normalWB
  deriving DecidableEq, Repr

/-- A register that a result can land in: a g-register (`g63` goes to the bank of a state), an f-register, an
accumulator. Bank numbers follow R284: 0 S-U, 1 S-K, 2 S-M, 3 N-U, 4 N-K, 5 N-H. -/
inductive Dst where
  | g (n : Fin 64)
  | bank (i : Fin 6)
  | f (n : Fin 32)
  | acc (n : Fin 4)
  deriving DecidableEq, Repr

/-- A fixed-latency result on its way (R191): the bundle number for which it becomes visible, and the
floating-point flags NV DZ OF UF NX that merge when it lands (R217). -/
structure PendWrite where
  dst : Dst
  val : BitVec 128
  due : Nat
  flags : BitVec 5
  deriving DecidableEq, Repr

/-- The units a long operation occupies (R192, R209). -/
inductive LUnit where
  | div
  | fdiv
  | miss
  deriving DecidableEq, Repr

/-- A long operation in flight (R192): its destination, value and flags; `blocks` is the first bundle that its
pending mark stalls; `await` names the ridge requests whose answers it waits for (R174); `abort` holds the VA of a
load that received poison (R328). `fill` shapes the answer of a ridge read: its size and whether it is signed. -/
structure LongOp where
  dst : Dst
  val : BitVec 128
  flags : BitVec 5
  unit : LUnit
  blocks : Nat
  await : List Nat
  abort : Option Word
  fill : Nat × Bool
  inTxn : Bool
  deriving DecidableEq, Repr

/-- A read or atomic through a ridge window that a bundle needs before it comes about (R174, R318): its OP, its place, its
request (none where no flit could leave), and its answer: none not yet, otherwise the bytes of one that came back with
STATUS 0. -/
structure RFetch where
  op : Nat
  pa : Nat
  len : Nat
  req : Option Nat
  ans : Option (Option (List Byte))
  deriving DecidableEq, Repr

/-- A control-register write that is not yet in force (R188): `due` is the bundle it takes effect for. -/
structure CtlWrite where
  num : BitVec 12
  val : Word
  due : Nat
  deriving DecidableEq, Repr

/-- One handling set (R280, R284): EPC, ESTAT, ECAUSE, EADDR, EVEC. -/
structure HSet where
  epc : Word
  estat : Word
  ecause : Word
  eaddr : Word
  evec : Word
  deriving DecidableEq, Repr

/-- The architectural registers of a core: what a cairn checkpoint holds (R316). -/
structure CoreArch where
  g : Vector Word 64
  banks : Vector Word 6
  f : Vector Word 32
  acc : Vector (BitVec 128) 4
  flC : Bool
  flOV : Bool
  fpc : Word
  lpc : Word
  lps : BitVec 48
  lpe : BitVec 48
  ctlS : Word
  ctlN : Word
  nk : HSet
  sk : HSet
  hs : HSet
  ms : HSet
  s1tb0N : Word
  s1tb1N : Word
  s1tb0S : Word
  s1tb1S : Word
  htb : Word
  mtb : Word
  s2tb : Word
  vmctl : Word
  mctl : Word
  cachectl : Word
  sptIe : Word
  world : World
  level : Level
  pc : Word
  deriving DecidableEq, Repr

/-- What TBEGIN saves (R202): g with the own level's bank, f, acc, FL, FPC, LPC, LPS, LPE. -/
structure TxnSave where
  g : Vector Word 64
  banks : Vector Word 6
  f : Vector Word 32
  acc : Vector (BitVec 128) 4
  flC : Bool
  flOV : Bool
  fpc : Word
  lpc : Word
  lps : BitVec 48
  lpe : BitVec 48
  deriving DecidableEq, Repr

/-- An open transaction (R202, R262). -/
structure Txn where
  depth : Nat
  dst : Option Dst
  fallback : Word
  stamp : BitVec 32
  save : TxnSave
  deriving DecidableEq, Repr

/-- MESI states of a held line (R250). -/
inductive Mesi where
  | M
  | E
  | S
  deriving DecidableEq, Repr

/-- A line of a core's L2 (R228): data, poison of its 8 words, read, write and held marks (R257, R317), and the
rights the guard granted at the fill (R294). -/
structure L2Line where
  line : Nat
  way : Nat
  st : Mesi
  data : LineData
  poison : BitVec 8
  rmark : Bool
  wmark : Bool
  held : Bool
  r : Bool
  w : Bool
  x : Bool
  deriving DecidableEq, Repr

/-- A line of an L1: its physical line, its set from VA[13:6] and its way; its data are those of the L2 (R228, R250). -/
structure L1Line where
  line : Nat
  set : Nat
  way : Nat
  deriving DecidableEq, Repr

/-- An entry of the merging buffer (R234): a NORMAL entry covers a 64-byte line, a DEVICE one a single access, whose
offset in the line and size `dev` gives. `refused` marks the entry that the guard refused (R296). -/
structure MbEntry where
  line : Nat
  ty : RType
  mask : BitVec 64
  data : LineData
  dev : Option (Nat × Nat)
  acc : Access
  inTxn : Bool
  refused : Bool
  deriving DecidableEq, Repr

/-- The translation regimes of R285. -/
inductive Regime where
  | nku
  | sku
  | h
  | m
  deriving DecidableEq, Repr

/-- A TLB entry (R288): tags, the tables of both stages it was built from, the page it covers, the output, the rights and
types of both stages and the level of the final descriptor of each stage. -/
structure TlbEntry where
  regime : Regime
  root1 : Word
  root2 : Word
  vmid : BasinId
  asid : BitVec 16
  global : Bool
  vpage : Nat
  pages : Nat
  ppage : Nat
  u : Bool
  w : Bool
  uxn : Bool
  kxn : Bool
  ty : RType
  lvl1 : Nat
  r2 : Bool
  w2 : Bool
  xn2 : Bool
  lvl2 : Nat
  ipage : Nat
  deriving DecidableEq, Repr

/-- A predictor entry, tagged with world and basin (R289). -/
structure PredTag where
  world : World
  basin : BasinId
  at_ : Word
  deriving DecidableEq, Repr

/-- An interrupt source (R301-R303). `seen` is the input level of the last SOURCE_EVENT. -/
structure Source where
  count : Nat
  ovf : Bool
  seen : Bool
  owner : BasinId
  world : World
  target : CoreId
  tlevel : Nat
  sense : Nat
  en : Bool
  deriving DecidableEq, Repr

/-- Cause codes of ECAUSE.CODE (R284). -/
inductive Cause where
  | illegal
  | privileged
  | align
  | divzero
  | fptrap
  | iabort
  | dabort
  | translation
  | accessFlag
  | permission
  | kcall
  | hcall
  | mcall
  | interrupt
  | guard
  | nested
  | xworld
  deriving DecidableEq, Repr

/-- A synchronous exception as it is reported (R279, R280, R284). -/
structure Exc where
  cause : Cause
  addr : Word
  kind : AccKind
  walk : Nat
  stage2 : Bool
  s1walk : Bool
  imm : BitVec 12
  fpflags : BitVec 5
  imprecise : Bool
  deriving DecidableEq, Repr

/-- A memory operation of a bundle, performed when the bundle's stop syllable has issued (R185). `va` is the
effective address; sizes are in bytes. -/
inductive MemOp where
  | load (dst : Dst) (va : Word) (size : Nat) (signed : Bool)
  | store (va : Word) (size : Nat) (val : Word)
  | amo (dst : Dst) (va : Word) (fn : BitVec 6) (opnd cmp : Word)
  | cmo (code : Nat) (va : Word)
  | prf (va : Word)
  | macd (n : Fin 4) (c : Dst) (acc : BitVec 128) (cIn : Word) (va vb : Word) (pa pb : PendWrite)
  | block (op : Nat) (d a b : Fin 64) (vd va vb : Word)
  | pushRet (va : Word)
  | popRet (va : Word)
  deriving DecidableEq, Repr

/-- What the B-class or system syllable of a bundle does when the bundle completes (R200-R203, R207). -/
inductive BOp where
  | jump (target : Word)
  | ret
  | loopArm (count : Word) (disp : Nat)
  | levelCall (cause : Cause) (imm : BitVec 12)
  | xret
  | tbegin (dst : Dst) (disp : Word)
  | tcommit
  | tabort (imm : BitVec 8)
  | fence
  | dsync
  | isync
  | pclr (all : Bool)
  | mtcr (num : BitVec 12) (val : Word)
  | claim (dst : Dst)
  | now (dst : Dst)
  deriving DecidableEq, Repr

/-- The bundle being issued: the slots taken so far, the registers it writes, and its effects, which come about
together when the stop syllable has issued (R182-R185); `atom` tells what its conditional branch does, `ind` that its branch is
indirect (R362). -/
structure Bundle where
  syls : Nat
  nI : Nat
  nM : Nat
  nX : Nat
  nB : Nat
  alone : Bool
  dsts : List Dst
  flWriters : Nat
  illegal : Bool
  exc : Option Exc
  writes : List PendWrite
  longs : List LongOp
  fl : Option (Option Bool × Bool)
  mem : List MemOp
  bop : Option BOp
  atom : Option Bool
  ind : Bool
  deriving DecidableEq, Repr

/-- The debug logic of a core (R357-R360): a halt pending, halted, a step under way, FORCED, ERRCODE, DBG_DATA,
DBG_MATCH0-5, the core's own copy of DBG_SEL, the last word written to DBG_ITR that has not run, and whether the bundle
that runs was injected, and the watchpoints that the last bundle hit. -/
structure CoreDbg where
  halt : Bool
  halted : Bool
  stepping : Bool
  forced : Bool
  errcode : BitVec 8
  data : Word
  matches_ : Vector Word 6
  sel : BitVec 5
  itr : Option Word
  inject : Bool
  watched : BitVec 6
  deriving DecidableEq, Repr

/-- What a core whose bundle waits for a ridge read had before that bundle: a read that fails is a synchronous abort of
it (R174); `inject` tells that it was injected (R359). -/
structure CoreUndo where
  arch : CoreArch
  pend : List PendWrite
  longs : List LongOp
  ctl : List CtlWrite
  bn : Nat
  inject : Bool
  deriving DecidableEq, Repr

/-- One Tarn core with its L1s, merging buffer, L2, TLB and per-core Spout (R12). `saved` is the checkpoint of its save
area with the number of the first free value of the bytes written there, `deep` that its sleep is DORMANT (R345); `fetched`
holds the ridge reads that its bundle has asked for, and `waiting` the stop bit of a bundle that waits for them (R174). -/
structure Core where
  arch : CoreArch
  bundle : Bundle
  bn : Nat
  pend : List PendWrite
  ctl : List CtlWrite
  longs : List LongOp
  txSeq : BitVec 4
  txn : Option Txn
  dtbSec : BitVec 48
  mb : List MbEntry
  l1d : List L1Line
  l1i : List L1Line
  l2 : List L2Line
  lfsrI : BitVec 16
  lfsrD : BitVec 16
  lfsr2 : BitVec 16
  tlb : List TlbEntry
  pred : List PredTag
  start : Option Word
  saved : Option (CoreArch × Nat)
  deep : Bool
  actNK : BitVec 10
  actSK : BitVec 10
  actH : BitVec 10
  actM : BitVec 10
  priv : List (Nat × Source)
  sptSel : BitVec 10
  dbg : CoreDbg
  undo : Option CoreUndo
  fetched : List RFetch
  waiting : Option Bool
  deriving DecidableEq, Repr

/-- A core pair's cairn (R316-R319): the active checkpoint, the basin carried when a
difference was flagged, and the test under way: 1 logic test of TEST, 2 comparator test of TEST, 3 comparator test at
a start (R320, R321). -/
structure Pair where
  ckpt : Option CoreArch
  restartBasin : BasinId
  restartWorld : World
  basins : BitVec 64
  sok : Bool
  phase : Nat
  deriving DecidableEq, Repr

/-- A line of a Pool slice's cache ways (R228). -/
structure PoolLine where
  line : Nat
  way : Nat
  data : LineData
  poison : BitVec 8
  dirty : Bool
  deriving DecidableEq, Repr

/-- A pin of R262: the core, its sequence number and its stamp. -/
structure Pin where
  core : CoreId
  seq : BitVec 4
  stamp : BitVec 32
  deriving DecidableEq, Repr

/-- A directory entry (R248): state S with its sharers, or EM with its owner. -/
structure DirEnt where
  line : Nat
  way : Nat
  em : Bool
  sharers : BitVec 32
  owner : CoreId
  pins : List Pin
  deriving DecidableEq, Repr

/-- A Pool slice with its home node (R228, R248). -/
structure Slice where
  lines : List PoolLine
  dir : List DirEnt
  oldWays : Nat
  sramGen : Nat
  deriving DecidableEq, Repr

end Sys2Proof.Machine
end

