-- ==== Sys2Proof/Machine/Regs.lean ====
section
/-! DEFINITION. The register fields of every function register block (R22, R25), written from the register
tables and counter tables of spec/01 to spec/19: one constant per field, and one table of descriptors per
kind of block, with each field's place, access type (R8) and reset value. -/

namespace Sys2Proof.Machine

/-- A field of a register: the register's byte offset in its block, and the field's top and bottom bit. -/
structure Fld where
  off : Nat
  hi : Nat
  lo : Nat
  deriving DecidableEq, Repr

/-- The same field of the `i`-th register of a row of registers 8 bytes apart. -/
def Fld.nth (f : Fld) (i : Nat) : Fld := ⟨f.off + 8 * i, f.hi, f.lo⟩

/-- The access types of R8. -/
inductive AccType where
  | rw
  | ro
  | wo
  | w1c
  | w1s
  | rwl
  | rwx
  deriving DecidableEq, Repr

/-- One field of a register table: bits, access, reset. -/
structure FieldDesc where
  hi : Nat
  lo : Nat
  acc : AccType
  reset : Nat
  deriving DecidableEq, Repr

/-- A register, or a row of `count` registers 8 bytes apart, with its fields (reserved bits are left out). -/
structure RegDesc where
  off : Nat
  count : Nat
  fields : List FieldDesc
  deriving DecidableEq, Repr

/-! Fields of the registers of spec/01_device_organisation.md -/
def Reg.FUNC_ID_STEP : Fld := ⟨0x3f0, 23, 16⟩
def Reg.FUNC_ID_INDEX : Fld := ⟨0x3f0, 9, 0⟩
def Reg.FUNC_MODE_LOCK : Fld := ⟨0x3f8, 2, 2⟩
def Reg.FUNC_MODE_IGNORED : Fld := ⟨0x3f8, 1, 1⟩
def Reg.FUNC_MODE_EXPERT : Fld := ⟨0x3f8, 0, 0⟩
def Reg.RDY_BOARD0_MAC : Fld := ⟨0x0, 63, 32⟩
def Reg.RDY_BOARD0_LANE : Fld := ⟨0x0, 31, 0⟩
def Reg.RDY_BOARD1_POOL : Fld := ⟨0x8, 63, 32⟩
def Reg.RDY_BOARD1_CORE : Fld := ⟨0x8, 31, 0⟩
def Reg.RDY_BOARD2_TIER : Fld := ⟨0x10, 63, 0⟩
def Reg.RDY_BOARD3_BOOTIMG : Fld := ⟨0x18, 37, 37⟩
def Reg.RDY_BOARD3_PLATFORM : Fld := ⟨0x18, 36, 36⟩
def Reg.RDY_BOARD3_TRACE : Fld := ⟨0x18, 35, 35⟩
def Reg.RDY_BOARD3_WEIRS : Fld := ⟨0x18, 34, 34⟩
def Reg.RDY_BOARD3_SPP : Fld := ⟨0x18, 33, 33⟩
def Reg.RDY_BOARD3_DTB : Fld := ⟨0x18, 32, 32⟩
def Reg.RDY_BOARD3_SPOUTHUB : Fld := ⟨0x18, 31, 31⟩
def Reg.RDY_BOARD3_SLUICE : Fld := ⟨0x18, 30, 30⟩
def Reg.RDY_BOARD3_MG : Fld := ⟨0x18, 29, 28⟩
def Reg.RDY_BOARD3_RL : Fld := ⟨0x18, 27, 24⟩
def Reg.RDY_BOARD3_CIS : Fld := ⟨0x18, 23, 22⟩
def Reg.RDY_BOARD3_SPL : Fld := ⟨0x18, 21, 18⟩
def Reg.RDY_BOARD3_JET : Fld := ⟨0x18, 17, 8⟩
def Reg.RDY_BOARD3_CH : Fld := ⟨0x18, 7, 0⟩
def Reg.RDY_RISE_same : Fld := ⟨0x40, 63, 0⟩
def Reg.RDY_FALL_same : Fld := ⟨0x60, 63, 0⟩
/-! Fields of the registers of spec/02_ports_and_lanes.md -/
def Reg.PRT_CTRL_RX_INVERT : Fld := ⟨0x0, 4, 4⟩
def Reg.PRT_CTRL_TX_INVERT : Fld := ⟨0x0, 3, 3⟩
def Reg.PRT_CTRL_LOOPBACK : Fld := ⟨0x0, 2, 1⟩
def Reg.PRT_CTRL_ENABLE : Fld := ⟨0x0, 0, 0⟩
def Reg.PRT_STATUS_BOUND : Fld := ⟨0x8, 15, 15⟩
def Reg.PRT_STATUS_MAC : Fld := ⟨0x8, 12, 8⟩
def Reg.PRT_STATUS_TRAINED : Fld := ⟨0x8, 2, 2⟩
def Reg.PRT_STATUS_CDR_LOCK : Fld := ⟨0x8, 1, 1⟩
def Reg.PRT_STATUS_SIGNAL : Fld := ⟨0x8, 0, 0⟩
def Reg.PRT_TEST_RATE : Fld := ⟨0x400, 48, 32⟩
def Reg.PRT_TEST_PRBS : Fld := ⟨0x400, 7, 5⟩
def Reg.PRT_TEST_MOD : Fld := ⟨0x400, 4, 3⟩
def Reg.PRT_TEST_EN : Fld := ⟨0x400, 0, 0⟩
def Reg.PRT_TEST_ERR_COUNT : Fld := ⟨0x408, 63, 0⟩
def Reg.PRT_TXEQ_PRE2 : Fld := ⟨0x410, 31, 24⟩
def Reg.PRT_TXEQ_PRE1 : Fld := ⟨0x410, 23, 16⟩
def Reg.PRT_TXEQ_MAIN : Fld := ⟨0x410, 15, 8⟩
def Reg.PRT_TXEQ_POST : Fld := ⟨0x410, 7, 0⟩
def Reg.MAC_CTRL_MAXLEN : Fld := ⟨0x0, 47, 32⟩
def Reg.MAC_CTRL_ABILITY : Fld := ⟨0x0, 20, 8⟩
def Reg.MAC_CTRL_MEDIUM : Fld := ⟨0x0, 5, 5⟩
def Reg.MAC_CTRL_RESTART : Fld := ⟨0x0, 3, 3⟩
def Reg.MAC_CTRL_ENABLE : Fld := ⟨0x0, 0, 0⟩
def Reg.MAC_FLOOR_FLOOR : Fld := ⟨0x8, 3, 0⟩
def Reg.MAC_STATUS_ROLE : Fld := ⟨0x10, 31, 30⟩
def Reg.MAC_STATUS_BASE_LANE : Fld := ⟨0x10, 29, 24⟩
def Reg.MAC_STATUS_WIDTH : Fld := ⟨0x10, 23, 20⟩
def Reg.MAC_STATUS_MODE : Fld := ⟨0x10, 19, 16⟩
def Reg.MAC_STATUS_STATE : Fld := ⟨0x10, 11, 8⟩
def Reg.MAC_STATUS_HIBER : Fld := ⟨0x10, 1, 1⟩
def Reg.MAC_STATUS_LINK : Fld := ⟨0x10, 0, 0⟩
def Reg.MAC_EVENT_TS_OVF : Fld := ⟨0x18, 5, 5⟩
def Reg.MAC_EVENT_TS_AVAIL : Fld := ⟨0x18, 4, 4⟩
def Reg.MAC_EVENT_TRAIN_FAIL : Fld := ⟨0x18, 3, 3⟩
def Reg.MAC_EVENT_FLOOR_FAIL : Fld := ⟨0x18, 2, 2⟩
def Reg.MAC_EVENT_LINK_DOWN : Fld := ⟨0x18, 1, 1⟩
def Reg.MAC_EVENT_LINK_UP : Fld := ⟨0x18, 0, 0⟩
def Reg.MAC_FC_QUANTA : Fld := ⟨0x20, 63, 48⟩
def Reg.MAC_FC_REFRESH : Fld := ⟨0x20, 47, 32⟩
def Reg.MAC_FC_TX_EN : Fld := ⟨0x20, 31, 24⟩
def Reg.MAC_FC_RX_EN : Fld := ⟨0x20, 23, 16⟩
def Reg.MAC_FC_MODE : Fld := ⟨0x20, 1, 0⟩
def Reg.MAC_FC_STATE_TX_XOFF : Fld := ⟨0x28, 15, 8⟩
def Reg.MAC_FC_STATE_RX_PAUSED : Fld := ⟨0x28, 7, 0⟩
def Reg.MAC_PTP_ONESTEP : Fld := ⟨0x30, 2, 2⟩
def Reg.MAC_PTP_TWOSTEP : Fld := ⟨0x30, 1, 1⟩
def Reg.MAC_PTP_EN : Fld := ⟨0x30, 0, 0⟩
def Reg.MAC_TXTS0_NS : Fld := ⟨0x38, 63, 32⟩
def Reg.MAC_TXTS0_FRAC : Fld := ⟨0x38, 31, 16⟩
def Reg.MAC_TXTS0_SEQID : Fld := ⟨0x38, 15, 0⟩
def Reg.MAC_TXTS1_VALID : Fld := ⟨0x40, 63, 63⟩
def Reg.MAC_TXTS1_MSGTYPE : Fld := ⟨0x40, 59, 56⟩
def Reg.MAC_TXTS1_DOMAIN : Fld := ⟨0x40, 55, 48⟩
def Reg.MAC_TXTS1_SECONDS : Fld := ⟨0x40, 47, 0⟩
def Reg.MAC_TS_ADJ_RX_ADJ : Fld := ⟨0x400, 31, 16⟩
def Reg.MAC_TS_ADJ_TX_ADJ : Fld := ⟨0x400, 15, 0⟩
def Ctr.MAC_RX_FRAMES : Fld := ⟨0x100, 63, 0⟩
def Ctr.MAC_RX_BYTES : Fld := ⟨0x108, 63, 0⟩
def Ctr.MAC_TX_FRAMES : Fld := ⟨0x110, 63, 0⟩
def Ctr.MAC_TX_BYTES : Fld := ⟨0x118, 63, 0⟩
def Ctr.MAC_RX_FCS : Fld := ⟨0x120, 63, 0⟩
def Ctr.MAC_RX_RUNT : Fld := ⟨0x128, 63, 0⟩
def Ctr.MAC_RX_LONG : Fld := ⟨0x130, 63, 0⟩
def Ctr.MAC_RX_PCSERR : Fld := ⟨0x138, 63, 0⟩
def Ctr.MAC_DROP_NOSA : Fld := ⟨0x140, 63, 0⟩
def Ctr.MAC_DROP_LINKDOWN : Fld := ⟨0x148, 63, 0⟩
def Ctr.MAC_TX_TRUNC : Fld := ⟨0x150, 63, 0⟩
def Ctr.MAC_RX_FC : Fld := ⟨0x158, 63, 0⟩
def Ctr.MAC_TX_FC : Fld := ⟨0x160, 63, 0⟩
def Ctr.MAC_FC_WRONGMODE : Fld := ⟨0x168, 63, 0⟩
def Ctr.MAC_FEC_CORR : Fld := ⟨0x170, 63, 0⟩
def Ctr.MAC_FEC_UNCORR : Fld := ⟨0x178, 63, 0⟩
def Ctr.MAC_TS_LOST : Fld := ⟨0x180, 63, 0⟩
def Ctr.MAC_ONESTEP_SKIP : Fld := ⟨0x188, 63, 0⟩
def Reg.MAC_RXRING_SIZE : Fld := ⟨0x200, 63, 48⟩
def Reg.MAC_RXRING_BASE : Fld := ⟨0x200, 45, 5⟩
def Reg.MAC_TXRING_SIZE : Fld := ⟨0x208, 63, 48⟩
def Reg.MAC_TXRING_BASE : Fld := ⟨0x208, 45, 5⟩
def Reg.MAC_RINGPTR_TX_TAIL : Fld := ⟨0x210, 63, 48⟩
def Reg.MAC_RINGPTR_TX_HEAD : Fld := ⟨0x210, 47, 32⟩
def Reg.MAC_RINGPTR_RX_TAIL : Fld := ⟨0x210, 31, 16⟩
def Reg.MAC_RINGPTR_RX_HEAD : Fld := ⟨0x210, 15, 0⟩
/-! Fields of the registers of spec/03_peer_negotiation.md -/
def Reg.SPP_ID_ID : Fld := ⟨0x0, 63, 0⟩
def Reg.SPP_ETYPE_ETYPE : Fld := ⟨0x8, 15, 0⟩
def Reg.SPP_CTRL_STEP_MS : Fld := ⟨0x10, 41, 32⟩
def Reg.SPP_CTRL_HELLO_US : Fld := ⟨0x10, 31, 16⟩
def Reg.SPP_CTRL_PRIO : Fld := ⟨0x10, 15, 13⟩
def Reg.SPP_CTRL_VLAN : Fld := ⟨0x10, 12, 12⟩
def Reg.SPP_CTRL_VID : Fld := ⟨0x10, 11, 0⟩
def Reg.SPP_DA_DA : Fld := ⟨0x18, 47, 0⟩
def Reg.SPP_SRCMAC_SA : Fld := ⟨0x20, 47, 0⟩
def Reg.SPP_EVENT0_DOWN : Fld := ⟨0x28, 63, 32⟩
def Reg.SPP_EVENT0_UP : Fld := ⟨0x28, 31, 0⟩
def Reg.SPP_EVENT1_CLASH : Fld := ⟨0x30, 63, 32⟩
def Reg.SPP_EVENT1_NOMODE : Fld := ⟨0x30, 31, 0⟩
def Reg.SPP_SESS_CTRL_BEAT_US : Fld := ⟨0x300, 41, 32⟩
def Reg.SPP_SESS_CTRL_FLOOR : Fld := ⟨0x300, 12, 8⟩
def Reg.SPP_SESS_CTRL_SCI_REQ : Fld := ⟨0x300, 4, 4⟩
def Reg.SPP_SESS_CTRL_RENEG : Fld := ⟨0x300, 3, 3⟩
def Reg.SPP_SESS_CTRL_DOWN_ACT : Fld := ⟨0x300, 2, 2⟩
def Reg.SPP_SESS_CTRL_AUTH_REQ : Fld := ⟨0x300, 1, 1⟩
def Reg.SPP_SESS_CTRL_EN : Fld := ⟨0x300, 0, 0⟩
def Reg.SPP_SESS_PREF_ENTRY : Fld := ⟨0x308, 63, 0⟩
def Reg.SPP_SESS_STATUS_BEAT_US : Fld := ⟨0x310, 41, 32⟩
def Reg.SPP_SESS_STATUS_SA_SEEN : Fld := ⟨0x310, 31, 31⟩
def Reg.SPP_SESS_STATUS_KEY1 : Fld := ⟨0x310, 30, 30⟩
def Reg.SPP_SESS_STATUS_KEY0 : Fld := ⟨0x310, 29, 29⟩
def Reg.SPP_SESS_STATUS_TXKN : Fld := ⟨0x310, 28, 28⟩
def Reg.SPP_SESS_STATUS_SCI : Fld := ⟨0x310, 27, 27⟩
def Reg.SPP_SESS_STATUS_MODE : Fld := ⟨0x310, 20, 16⟩
def Reg.SPP_SESS_STATUS_ROLE : Fld := ⟨0x310, 9, 8⟩
def Reg.SPP_SESS_STATUS_STATE : Fld := ⟨0x310, 3, 0⟩
def Reg.SPP_SESS_PEER_PEER : Fld := ⟨0x318, 63, 0⟩
def Reg.SPP_SESS_RTT_RTT_NS : Fld := ⟨0x320, 31, 0⟩
def Ctr.MACSPP_SPP_TX : Fld := ⟨0x340, 63, 0⟩
def Ctr.MACSPP_RX_OK : Fld := ⟨0x348, 63, 0⟩
def Ctr.MACSPP_RX_MALFORMED : Fld := ⟨0x350, 63, 0⟩
def Ctr.MACSPP_RX_MISDIR : Fld := ⟨0x358, 63, 0⟩
def Ctr.MACSPP_RX_BADAUTH : Fld := ⟨0x360, 63, 0⟩
def Ctr.MACSPP_RX_REPLAY : Fld := ⟨0x368, 63, 0⟩
def Ctr.MACSPP_RX_STALE : Fld := ⟨0x370, 63, 0⟩
def Ctr.MACSPP_RX_UNEXP : Fld := ⟨0x378, 63, 0⟩
def Ctr.MACSPP_BEAT_MISS : Fld := ⟨0x380, 63, 0⟩
def Ctr.MACSPP_DROP_PEERDOWN : Fld := ⟨0x388, 63, 0⟩
def Ctr.MACSPP_SPP_TXDROP : Fld := ⟨0x390, 63, 0⟩
/-! Fields of the registers of spec/04_structural_bitstream.md -/
def Reg.BIT_CMD_STAGE : Fld := ⟨0x0, 47, 32⟩
def Reg.BIT_CMD_OP : Fld := ⟨0x0, 3, 0⟩
def Reg.BIT_SRC_ADDR : Fld := ⟨0x8, 45, 6⟩
def Reg.BIT_LEN_LEN : Fld := ⟨0x10, 26, 0⟩
def Reg.BIT_STATUS_FAIL_OFFSET : Fld := ⟨0x18, 63, 32⟩
def Reg.BIT_STATUS_CODE : Fld := ⟨0x18, 23, 16⟩
def Reg.BIT_STATUS_DEFAULT : Fld := ⟨0x18, 8, 8⟩
def Reg.BIT_STATUS_STATE : Fld := ⟨0x18, 3, 0⟩
def Reg.BIT_EVENT_DISCARDED : Fld := ⟨0x20, 3, 3⟩
def Reg.BIT_EVENT_REFUSED : Fld := ⟨0x20, 2, 2⟩
def Reg.BIT_EVENT_REJECTED : Fld := ⟨0x20, 1, 1⟩
def Reg.BIT_EVENT_DONE : Fld := ⟨0x20, 0, 0⟩
def Reg.BIT_BOOT_FAIL_OFFSET : Fld := ⟨0x28, 63, 32⟩
def Reg.BIT_BOOT_CODE : Fld := ⟨0x28, 7, 0⟩
def Reg.BIT_SVN_LOADED_SVN : Fld := ⟨0x30, 63, 32⟩
def Reg.BIT_SVN_SVN_MIN : Fld := ⟨0x30, 31, 0⟩
def Reg.BIT_PDIG_DIGEST : Fld := ⟨0x38, 63, 0⟩
def Reg.BIT_GEN_GEN_ODD : Fld := ⟨0x100, 63, 32⟩
def Reg.BIT_GEN_GEN_EVEN : Fld := ⟨0x100, 31, 0⟩
def Reg.BIT_XCTRL_RATE : Fld := ⟨0x400, 47, 32⟩
def Reg.BIT_XCTRL_DRYRUN : Fld := ⟨0x400, 0, 0⟩
/-! Fields of the registers of spec/05_cascade_fabric.md -/
def Reg.CAS_STATUS_OWNER : Fld := ⟨0x0, 9, 4⟩
def Reg.CAS_STATUS_STATE : Fld := ⟨0x0, 3, 0⟩
def Reg.CAS_CTRL_INTAKE_MAX : Fld := ⟨0x8, 15, 0⟩
/-! Fields of the registers of spec/17_fault_tolerance.md -/
def Reg.CAS_CMD_OP : Fld := ⟨0x10, 3, 0⟩
/-! Fields of the registers of spec/05_cascade_fabric.md -/
def Ctr.CAS_FRAMES_IN : Fld := ⟨0x100, 63, 0⟩
def Ctr.CAS_FRAMES_OUT : Fld := ⟨0x108, 63, 0⟩
def Ctr.CAS_PUNTED : Fld := ⟨0x110, 63, 0⟩
def Ctr.CAS_DROP_INTAKE : Fld := ⟨0x118, 63, 0⟩
def Ctr.CAS_DROP_PARSE : Fld := ⟨0x120, 63, 0⟩
def Ctr.CAS_DROP_MISS : Fld := ⟨0x128, 63, 0⟩
def Ctr.CAS_DROP_ACTION : Fld := ⟨0x130, 63, 0⟩
def Ctr.CAS_DROP_BASIN : Fld := ⟨0x138, 63, 0⟩
def Ctr.CAS_DROP_METER : Fld := ⟨0x140, 63, 0⟩
def Ctr.CAS_A_MISS : Fld := ⟨0x148, 63, 0⟩
/-! Fields of the registers of spec/06_jets_and_macsec.md -/
def Ctr.CAS_DROP_NOJET : Fld := ⟨0x150, 63, 0⟩
def Ctr.CAS_DROP_PNEXH : Fld := ⟨0x158, 63, 0⟩
def Ctr.CAS_RX_BADTAG : Fld := ⟨0x160, 63, 0⟩
def Ctr.CAS_RX_LATE : Fld := ⟨0x168, 63, 0⟩
def Ctr.CAS_RX_NOTVALID : Fld := ⟨0x170, 63, 0⟩
/-! Fields of the registers of spec/17_fault_tolerance.md -/
def Ctr.CAS_DROP_CHFAIL : Fld := ⟨0x178, 63, 0⟩
def Ctr.CAS_REPLAYED_CH : Fld := ⟨0x180, 63, 0⟩
/-! Fields of the registers of spec/05_cascade_fabric.md -/
def Reg.SPL_DEEP_BASE_BASE : Fld := ⟨0x0, 34, 21⟩
def Reg.SPL_DEEP_SIZE_SIZE : Fld := ⟨0x8, 34, 21⟩
def Reg.SPL_DEEP_TH_GLOBAL : Fld := ⟨0x10, 63, 48⟩
def Reg.SPL_DEEP_TH_ON : Fld := ⟨0x10, 31, 16⟩
def Reg.SPL_DEEP_TH_OFF : Fld := ⟨0x10, 15, 0⟩
def Reg.SPL_RESERVE_DATA : Fld := ⟨0x18, 31, 16⟩
def Reg.SPL_RESERVE_CTRL : Fld := ⟨0x18, 15, 0⟩
def Reg.SPL_STATUS_FREE : Fld := ⟨0x20, 48, 32⟩
def Reg.SPL_STATUS_DEEP_USED : Fld := ⟨0x20, 31, 0⟩
def Ctr.SPL_DROP_NOBUF : Fld := ⟨0x100, 63, 0⟩
def Ctr.SPL_DROP_DEEPFULL : Fld := ⟨0x108, 63, 0⟩
def Ctr.SPL_DEEP_FRAMES : Fld := ⟨0x110, 63, 0⟩
def Ctr.SPL_DEEP_ENTRIES : Fld := ⟨0x118, 63, 0⟩
/-! Fields of the registers of spec/17_fault_tolerance.md -/
def Ctr.SPL_DROP_BANKFAIL : Fld := ⟨0x120, 63, 0⟩
/-! Fields of the registers of spec/05_cascade_fabric.md -/
def Reg.WER_PUNT_RING_SIZE : Fld := ⟨0x380, 63, 48⟩
def Reg.WER_PUNT_RING_BASE : Fld := ⟨0x380, 45, 5⟩
def Reg.WER_INJ_RING_SIZE : Fld := ⟨0x388, 63, 48⟩
def Reg.WER_INJ_RING_BASE : Fld := ⟨0x388, 45, 5⟩
def Reg.WER_RINGPTR_INJ_TAIL : Fld := ⟨0x390, 63, 48⟩
def Reg.WER_RINGPTR_INJ_HEAD : Fld := ⟨0x390, 47, 32⟩
def Reg.WER_RINGPTR_PUNT_TAIL : Fld := ⟨0x390, 31, 16⟩
def Reg.WER_RINGPTR_PUNT_HEAD : Fld := ⟨0x390, 15, 0⟩
def Reg.WER_FRAME_CTRL_INJ_CH : Fld := ⟨0x398, 18, 16⟩
def Reg.WER_FRAME_CTRL_MISS : Fld := ⟨0x398, 0, 0⟩
/-! Fields of the registers of spec/06_jets_and_macsec.md -/
def Reg.WER_SA_EVT_VALID : Fld := ⟨0x3b0, 63, 63⟩
def Reg.WER_SA_EVT_LOST : Fld := ⟨0x3b0, 62, 62⟩
def Reg.WER_SA_EVT_AN : Fld := ⟨0x3b0, 61, 60⟩
def Reg.WER_SA_EVT_KIND : Fld := ⟨0x3b0, 59, 56⟩
def Reg.WER_SA_EVT_SC : Fld := ⟨0x3b0, 49, 32⟩
def Reg.WER_SA_EVT_NS : Fld := ⟨0x3b0, 31, 0⟩
/-! Fields of the registers of spec/07_weirs.md -/
def Reg.WER_CIS_SHARE_MAX_GBPS : Fld := ⟨0x0, 47, 32⟩
def Reg.WER_CIS_SHARE_WEIGHT : Fld := ⟨0x0, 7, 0⟩
def Reg.WER_DEEP_QUOTA_MAX : Fld := ⟨0x8, 31, 0⟩
def Reg.WER_DEEP_USE_RATE_GBPS : Fld := ⟨0x10, 63, 48⟩
def Reg.WER_DEEP_USE_USED : Fld := ⟨0x10, 31, 0⟩
/-! Fields of the registers of spec/05_cascade_fabric.md -/
def Ctr.BW_WER_PUNT_LOST : Fld := ⟨0x3a0, 63, 0⟩
def Ctr.BW_WER_INJ_ERR : Fld := ⟨0x3a8, 63, 0⟩
/-! Fields of the registers of spec/07_weirs.md -/
def Ctr.BW_DROP_DEEPQ : Fld := ⟨0x3b8, 63, 0⟩
/-! Fields of the registers of spec/06_jets_and_macsec.md -/
def Reg.SA_CMD_STAGE : Fld := ⟨0x0, 63, 48⟩
def Reg.SA_CMD_ADDR : Fld := ⟨0x0, 45, 6⟩
def Reg.SA_REGION_BASE : Fld := ⟨0x8, 34, 28⟩
def Reg.SA_REGION_VALID : Fld := ⟨0x8, 0, 0⟩
def Reg.SA_CTRL_LEASE : Fld := ⟨0x10, 12, 0⟩
def Reg.SA_PN_WARN_WARN32 : Fld := ⟨0x18, 63, 32⟩
def Reg.SA_PN_WARN_WARN64 : Fld := ⟨0x18, 31, 0⟩
def Reg.SA_USAGE_SC_USED : Fld := ⟨0x20, 50, 32⟩
def Reg.SA_USAGE_SA_USED : Fld := ⟨0x20, 20, 0⟩
def Reg.SA_STATUS_QUEUED : Fld := ⟨0x28, 6, 0⟩
def Reg.JET_STATUS_PLACE : Fld := ⟨0x0, 11, 8⟩
def Reg.JET_STATUS_STATE : Fld := ⟨0x0, 3, 0⟩
def Reg.JET_CMD_OP : Fld := ⟨0x8, 3, 0⟩
def Reg.JET_EVENT_TEST_FAIL : Fld := ⟨0x10, 3, 3⟩
def Reg.JET_EVENT_TEST_PASS : Fld := ⟨0x10, 2, 2⟩
def Reg.JET_EVENT_ROTATED : Fld := ⟨0x10, 1, 1⟩
def Reg.JET_EVENT_FAULT : Fld := ⟨0x10, 0, 0⟩
def Reg.JET_INJECT_PARITY : Fld := ⟨0x400, 0, 0⟩
def Ctr.JET_FRAMES : Fld := ⟨0x100, 63, 0⟩
def Ctr.JET_BUSY_CYCLES : Fld := ⟨0x108, 63, 0⟩
def Ctr.JET_FAULTS : Fld := ⟨0x110, 63, 0⟩
def Ctr.JET_REPLAYED : Fld := ⟨0x118, 63, 0⟩
def Ctr.JET_TESTS : Fld := ⟨0x120, 63, 0⟩
def Reg.JET_ROT_INTERVAL_MS : Fld := ⟨0x18, 15, 0⟩
/-! Fields of the registers of spec/07_weirs.md -/
def Reg.WER_QCFG_RATE : Fld := ⟨0x0, 63, 32⟩
def Reg.WER_QCFG_BURST : Fld := ⟨0x0, 31, 16⟩
def Reg.WER_QCFG_WEIGHT : Fld := ⟨0x0, 15, 8⟩
def Reg.WER_QCFG_STRICT : Fld := ⟨0x0, 0, 0⟩
def Reg.WER_PORT_SHAPE_RATE : Fld := ⟨0x40, 63, 32⟩
def Reg.WER_PORT_SHAPE_BURST : Fld := ⟨0x40, 31, 16⟩
def Reg.WER_PFC_TH_HEADROOM : Fld := ⟨0x80, 59, 40⟩
def Reg.WER_PFC_TH_XOFF : Fld := ⟨0x80, 39, 20⟩
def Reg.WER_PFC_TH_XON : Fld := ⟨0x80, 19, 0⟩
def Reg.WER_PORT_CTRL_DEF_PRIO : Fld := ⟨0xc0, 2, 0⟩
def Reg.WER_ACCT_XOFF : Fld := ⟨0x100, 63, 63⟩
def Reg.WER_ACCT_BYTES : Fld := ⟨0x100, 39, 0⟩
def Reg.WER_QOCC_DEEP : Fld := ⟨0x140, 63, 63⟩
def Reg.WER_QOCC_BYTES : Fld := ⟨0x140, 39, 0⟩
def Reg.WER_XPCP_MAP : Fld := ⟨0x400, 23, 0⟩
def Reg.WER_XQUANT_UNIT : Fld := ⟨0x408, 15, 0⟩
def Ctr.PW_DROP_HEADROOM : Fld := ⟨0x180, 63, 0⟩
def Ctr.PW_XOFF_RAISED : Fld := ⟨0x188, 63, 0⟩
def Ctr.PW_SHAPED_WAIT : Fld := ⟨0x190, 63, 0⟩
def Reg.WER_GLOBAL_XOFF_CELLS : Fld := ⟨0xc8, 47, 32⟩
def Reg.WER_GLOBAL_XON_CELLS : Fld := ⟨0xc8, 31, 16⟩
def Reg.WER_DEEP_RATE : Fld := ⟨0xd0, 15, 0⟩
/-! Fields of the registers of spec/08_sluice_commit.md -/
def Reg.SLU_OPEN_VALID : Fld := ⟨0x0, 63, 63⟩
def Reg.SLU_OPEN_HANDLE : Fld := ⟨0x0, 15, 0⟩
def Reg.SLU_CMD_STAGE : Fld := ⟨0x8, 63, 48⟩
def Reg.SLU_CMD_ADDR : Fld := ⟨0x8, 45, 6⟩
def Reg.SLU_CTRL_ARM_TIMEOUT_MS : Fld := ⟨0x10, 47, 32⟩
def Reg.SLU_CTRL_TENANT_MAX : Fld := ⟨0x10, 3, 0⟩
def Reg.SLU_AREA_BASE_BASE : Fld := ⟨0x18, 34, 21⟩
def Reg.SLU_AREA_SIZE_SIZE : Fld := ⟨0x20, 34, 21⟩
def Reg.SLU_DOMAIN_INDEX : Fld := ⟨0x28, 45, 32⟩
def Reg.SLU_DOMAIN_UP : Fld := ⟨0x28, 21, 16⟩
def Reg.SLU_DOMAIN_HOP_US : Fld := ⟨0x28, 15, 0⟩
def Reg.SLU_DOM_EDGES_DOWN_RL : Fld := ⟨0x30, 35, 32⟩
def Reg.SLU_DOM_EDGES_DOWN_MAC : Fld := ⟨0x30, 31, 0⟩
def Reg.SLU_DOM_TIME_PROP_US : Fld := ⟨0x38, 63, 48⟩
def Reg.SLU_DOM_TIME_GUARD_US : Fld := ⟨0x38, 47, 32⟩
def Reg.SLU_DOM_TIME_WINDOW_US : Fld := ⟨0x38, 15, 0⟩
def Reg.SLU_GRP_TIME_PROP_US : Fld := ⟨0x40, 63, 48⟩
def Reg.SLU_GRP_TIME_GUARD_US : Fld := ⟨0x40, 47, 32⟩
def Reg.SLU_GRP_TIME_WINDOW_US : Fld := ⟨0x40, 15, 0⟩
def Reg.SLU_EVENT_DIVERGED : Fld := ⟨0x48, 1, 1⟩
def Reg.SLU_EVENT_LATE : Fld := ⟨0x48, 0, 0⟩
def Reg.SLU_DONE_SLOT : Fld := ⟨0x50, 63, 0⟩
def Reg.SLU_LASTREL_NS : Fld := ⟨0x58, 63, 32⟩
def Reg.SLU_LASTREL_SECONDS : Fld := ⟨0x58, 31, 0⟩
def Reg.SLU_STAGE_HANDLE : Fld := ⟨0x100, 63, 48⟩
def Reg.SLU_STAGE_OWNER : Fld := ⟨0x100, 47, 42⟩
def Reg.SLU_STAGE_WORLD : Fld := ⟨0x100, 41, 41⟩
def Reg.SLU_STAGE_CAUSE : Fld := ⟨0x100, 39, 32⟩
def Reg.SLU_STAGE_STATE : Fld := ⟨0x100, 31, 28⟩
def Reg.SLU_STAGE_LATE : Fld := ⟨0x100, 24, 24⟩
def Reg.SLU_STAGE_DIVERGED : Fld := ⟨0x100, 23, 23⟩
def Reg.SLU_STAGE_PRESUMED : Fld := ⟨0x100, 22, 22⟩
def Reg.SLU_STAGE_DECIDED : Fld := ⟨0x100, 21, 21⟩
def Reg.SLU_STAGE_YES : Fld := ⟨0x100, 14, 0⟩
def Ctr.SLU_SWITCHES : Fld := ⟨0x300, 63, 0⟩
def Ctr.SLU_RELEASED : Fld := ⟨0x308, 63, 0⟩
def Ctr.SLU_DISCARDED : Fld := ⟨0x310, 63, 0⟩
def Ctr.SLU_MSG_UNEXP : Fld := ⟨0x318, 63, 0⟩
def Ctr.SLU_LATE_VOTE : Fld := ⟨0x320, 63, 0⟩
def Ctr.SLU_LATE_ABORT : Fld := ⟨0x328, 63, 0⟩
def Ctr.SLU_PRESUMED : Fld := ⟨0x330, 63, 0⟩
/-! Fields of the registers of spec/09_ridge_links.md -/
def Reg.RDG_GROUP_TAG : Fld := ⟨0x0, 63, 32⟩
def Reg.RDG_GROUP_PRESENT : Fld := ⟨0x0, 23, 16⟩
def Reg.RDG_GROUP_EN : Fld := ⟨0x0, 8, 8⟩
def Reg.RDG_GROUP_INDEX : Fld := ⟨0x0, 2, 0⟩
def Reg.RDG_ROUTE_ENTRY : Fld := ⟨0x8, 63, 0⟩
def Reg.RDG_DB_SEND_VALUE : Fld := ⟨0x10, 63, 48⟩
def Reg.RDG_DB_SEND_CORE : Fld := ⟨0x10, 44, 40⟩
def Reg.RDG_DB_SEND_DEVICE : Fld := ⟨0x10, 2, 0⟩
def Reg.RDG_DB_RX_VALID : Fld := ⟨0x200, 63, 63⟩
def Reg.RDG_DB_RX_LOST : Fld := ⟨0x200, 62, 62⟩
def Reg.RDG_DB_RX_WORLD : Fld := ⟨0x200, 61, 61⟩
def Reg.RDG_DB_RX_DEVICE : Fld := ⟨0x200, 60, 58⟩
def Reg.RDG_DB_RX_BASIN : Fld := ⟨0x200, 53, 48⟩
def Reg.RDG_DB_RX_VALUE : Fld := ⟨0x200, 15, 0⟩
def Reg.RDG_LANE_ROLE_ODD : Fld := ⟨0x300, 63, 62⟩
def Reg.RDG_LANE_DEVICE_ODD : Fld := ⟨0x300, 58, 56⟩
def Reg.RDG_LANE_MAC_ODD : Fld := ⟨0x300, 52, 48⟩
def Reg.RDG_LANE_ROLE_EVEN : Fld := ⟨0x300, 31, 30⟩
def Reg.RDG_LANE_DEVICE_EVEN : Fld := ⟨0x300, 26, 24⟩
def Reg.RDG_LANE_MAC_EVEN : Fld := ⟨0x300, 20, 16⟩
def Ctr.RDG0_DROP_HOPS : Fld := ⟨0x180, 63, 0⟩
def Ctr.RDG0_DROP_REROUTE : Fld := ⟨0x188, 63, 0⟩
def Ctr.RDG0_DROP_RIDGE : Fld := ⟨0x190, 63, 0⟩
def Ctr.RDG0_DB_REFUSED : Fld := ⟨0x198, 63, 0⟩
def Ctr.RDG0_REQ_REFUSED : Fld := ⟨0x1a0, 63, 0⟩
def Reg.RDG_LCTRL_ABILITY : Fld := ⟨0x40, 13, 8⟩
def Reg.RDG_LCTRL_FLOOR : Fld := ⟨0x40, 6, 4⟩
def Reg.RDG_LCTRL_ENABLE : Fld := ⟨0x40, 0, 0⟩
def Reg.RDG_LSTATUS_LANES : Fld := ⟨0x48, 19, 16⟩
def Reg.RDG_LSTATUS_NEIGHBOUR : Fld := ⟨0x48, 10, 8⟩
def Reg.RDG_LSTATUS_MODE : Fld := ⟨0x48, 6, 4⟩
def Reg.RDG_LSTATUS_STATE : Fld := ⟨0x48, 3, 0⟩
def Reg.RDG_LPEER_PEER : Fld := ⟨0x50, 63, 0⟩
def Reg.RDG_LEVENT_DEGRADED : Fld := ⟨0x58, 3, 3⟩
def Reg.RDG_LEVENT_MISMATCH : Fld := ⟨0x58, 2, 2⟩
def Reg.RDG_LEVENT_DOWN : Fld := ⟨0x58, 1, 1⟩
def Reg.RDG_LEVENT_UP : Fld := ⟨0x58, 0, 0⟩
def Ctr.RDG_FLITS_TX : Fld := ⟨0x100, 63, 0⟩
def Ctr.RDG_FLITS_RX : Fld := ⟨0x108, 63, 0⟩
def Ctr.RDG_CRC_ERR : Fld := ⟨0x110, 63, 0⟩
def Ctr.RDG_RESENDS : Fld := ⟨0x118, 63, 0⟩
def Ctr.RDG_DOWNS : Fld := ⟨0x120, 63, 0⟩
/-! Fields of the registers of spec/12_memory_system.md -/
def Reg.TRN_L2OP_BUSY : Fld := ⟨0x80, 8, 8⟩
def Reg.TRN_L2OP_OP : Fld := ⟨0x80, 1, 0⟩
def Reg.TRN_LFSR_SEED : Fld := ⟨0x400, 15, 0⟩
def Ctr.TRN_L1I_PERR : Fld := ⟨0x100, 63, 0⟩
def Ctr.TRN_L1D_PERR : Fld := ⟨0x108, 63, 0⟩
def Ctr.TRN_L2_MISS : Fld := ⟨0x110, 63, 0⟩
def Ctr.TRN_MB_STALL : Fld := ⟨0x118, 63, 0⟩
/-! Fields of the registers of spec/13_coherence_transactions.md -/
def Ctr.TRN_TX_BEGIN : Fld := ⟨0x120, 63, 0⟩
def Ctr.TRN_TX_COMMIT : Fld := ⟨0x128, 63, 0⟩
def Ctr.TRN_TX_ABORT : Fld := ⟨0x130, 63, 0⟩
def Ctr.TRN_TX_CONFLICT : Fld := ⟨0x138, 63, 0⟩
def Ctr.TRN_TX_CAPACITY : Fld := ⟨0x140, 63, 0⟩
def Ctr.TRN_EVICT_CROSS : Fld := ⟨0x148, 63, 0⟩
/-! Fields of the registers of spec/12_memory_system.md -/
def Reg.POL_SRAM_BUSY : Fld := ⟨0x0, 8, 8⟩
def Reg.POL_SRAM_WAYS : Fld := ⟨0x0, 3, 0⟩
def Reg.POL_LFSR_SEED : Fld := ⟨0x400, 15, 0⟩
/-! Fields of the registers of spec/13_coherence_transactions.md -/
def Reg.POL_DIR_PINNED : Fld := ⟨0x10, 47, 32⟩
def Reg.POL_DIR_USED : Fld := ⟨0x10, 15, 0⟩
/-! Fields of the registers of spec/17_fault_tolerance.md -/
def Reg.POL_FENCE_SUBST : Fld := ⟨0x18, 12, 8⟩
def Reg.POL_FENCE_STATE : Fld := ⟨0x18, 5, 4⟩
def Reg.POL_FENCE_FENCE : Fld := ⟨0x18, 0, 0⟩
/-! Fields of the registers of spec/12_memory_system.md -/
def Ctr.POL_HITS : Fld := ⟨0x100, 63, 0⟩
def Ctr.POL_MISSES : Fld := ⟨0x108, 63, 0⟩
def Ctr.POL_WRITEBACKS : Fld := ⟨0x110, 63, 0⟩
def Ctr.POL_CMO : Fld := ⟨0x118, 63, 0⟩
/-! Fields of the registers of spec/13_coherence_transactions.md -/
def Ctr.POL_DIR_EVICT : Fld := ⟨0x120, 63, 0⟩
def Ctr.POL_DIR_PRESSURE : Fld := ⟨0x128, 63, 0⟩
def Ctr.POL_STALE : Fld := ⟨0x130, 63, 0⟩
def Ctr.POL_AMO_HOME : Fld := ⟨0x138, 63, 0⟩
/-! Fields of the registers of spec/14_cistern.md -/
def Reg.CIS_CTRL_AUTO_MAPOUT : Fld := ⟨0x0, 1, 1⟩
def Reg.CIS_CTRL_RESERVE : Fld := ⟨0x0, 0, 0⟩
def Reg.CIS_CAP_FILLING : Fld := ⟨0x10, 40, 40⟩
def Reg.CIS_CAP_RELOC_VALID : Fld := ⟨0x10, 38, 38⟩
def Reg.CIS_CAP_RELOC_PC : Fld := ⟨0x10, 37, 32⟩
def Reg.CIS_CAP_CAP_MIB : Fld := ⟨0x10, 15, 0⟩
def Reg.CIS_SCRUB_PERIOD_H : Fld := ⟨0x28, 7, 0⟩
def Reg.CIS_THRESH_CE_LIMIT : Fld := ⟨0x30, 31, 16⟩
def Reg.CIS_THRESH_UE_LIMIT : Fld := ⟨0x30, 7, 0⟩
def Reg.CIS_ARB_DEEP_W : Fld := ⟨0x400, 15, 8⟩
def Reg.CIS_ARB_POOL_W : Fld := ⟨0x400, 7, 0⟩
def Ctr.CIS0_SCRUB_PASSES : Fld := ⟨0x300, 63, 0⟩
def Ctr.CIS0_LOST_WB : Fld := ⟨0x308, 63, 0⟩
def Reg.CIS_STATUS_TEMP : Fld := ⟨0x8, 39, 32⟩
def Reg.CIS_STATUS_IN_SERVICE : Fld := ⟨0x8, 21, 16⟩
def Reg.CIS_STATUS_TRAIN : Fld := ⟨0x8, 1, 0⟩
def Reg.CIS_PCSTATE_MAPPED : Fld := ⟨0x18, 31, 0⟩
def Reg.CIS_CMD_PC : Fld := ⟨0x20, 12, 8⟩
def Reg.CIS_CMD_OP : Fld := ⟨0x20, 1, 0⟩
def Reg.CIS_EVENT_MAPOUT : Fld := ⟨0x38, 2, 2⟩
def Reg.CIS_EVENT_UE : Fld := ⟨0x38, 1, 1⟩
def Reg.CIS_EVENT_CE_LIMIT : Fld := ⟨0x38, 0, 0⟩
def Ctr.CIS_CE_j : Fld := ⟨0x100, 63, 0⟩
def Ctr.CIS_UE_j : Fld := ⟨0x200, 63, 0⟩
/-! Fields of the registers of spec/15_worlds_basins.md -/
def Reg.GRD_STATUS_CAUSE : Fld := ⟨0x0, 2, 1⟩
def Reg.GRD_STATUS_FROZEN : Fld := ⟨0x0, 0, 0⟩
def Reg.GRD_FADDR_PA : Fld := ⟨0x8, 45, 0⟩
def Reg.GRD_FINFO_BASIN : Fld := ⟨0x10, 21, 16⟩
def Reg.GRD_FINFO_NOMATCH : Fld := ⟨0x10, 13, 13⟩
def Reg.GRD_FINFO_WORLD : Fld := ⟨0x10, 12, 12⟩
def Reg.GRD_FINFO_MBIT : Fld := ⟨0x10, 11, 11⟩
def Reg.GRD_FINFO_KIND : Fld := ⟨0x10, 9, 8⟩
def Reg.GRD_FINFO_ENTRY : Fld := ⟨0x10, 7, 0⟩
def Reg.GRD_THAW_TARGET : Fld := ⟨0x18, 5, 4⟩
def Reg.GRD_THAW_OP : Fld := ⟨0x18, 1, 0⟩
def Reg.GRD_CTRL_EN : Fld := ⟨0x20, 0, 0⟩
def Reg.GRD_REGION_LOG2SIZE : Fld := ⟨0x400, 63, 58⟩
def Reg.GRD_REGION_BASIN : Fld := ⟨0x400, 57, 52⟩
def Reg.GRD_REGION_S : Fld := ⟨0x400, 51, 51⟩
def Reg.GRD_REGION_N : Fld := ⟨0x400, 50, 50⟩
def Reg.GRD_REGION_ANYB : Fld := ⟨0x400, 49, 49⟩
def Reg.GRD_REGION_X : Fld := ⟨0x400, 48, 48⟩
def Reg.GRD_REGION_W : Fld := ⟨0x400, 47, 47⟩
def Reg.GRD_REGION_R : Fld := ⟨0x400, 46, 46⟩
def Reg.GRD_REGION_BASE : Fld := ⟨0x400, 45, 12⟩
def Reg.GRD_REGION_V : Fld := ⟨0x400, 0, 0⟩
def Ctr.GRD_VIOLATIONS : Fld := ⟨0x100, 63, 0⟩
def Reg.PWR_OWN0_PD : Fld := ⟨0x300, 63, 0⟩
def Reg.PWR_OWN1_PD : Fld := ⟨0x308, 31, 0⟩
/-! Fields of the registers of spec/18_bringup_power.md -/
def Reg.PWR_RESET_CAUSE_CAUSE : Fld := ⟨0x0, 7, 0⟩
def Reg.PWR_BOOT_FAIL_OFFSET : Fld := ⟨0x8, 63, 32⟩
def Reg.PWR_BOOT_CODE_SEC : Fld := ⟨0x8, 31, 24⟩
def Reg.PWR_BOOT_CODE_PRI : Fld := ⟨0x8, 23, 16⟩
def Reg.PWR_BOOT_COPY : Fld := ⟨0x8, 3, 2⟩
def Reg.PWR_BOOT_SRC : Fld := ⟨0x8, 1, 0⟩
def Reg.PWR_START_CORE : Fld := ⟨0x10, 52, 48⟩
def Reg.PWR_START_ADDR : Fld := ⟨0x10, 45, 2⟩
def Reg.PWR_REQ_STATE : Fld := ⟨0x18, 9, 8⟩
def Reg.PWR_REQ_PD : Fld := ⟨0x18, 6, 0⟩
def Reg.PWR_STATE0_PD : Fld := ⟨0x20, 63, 0⟩
def Reg.PWR_STATE1_PD : Fld := ⟨0x28, 63, 0⟩
def Reg.PWR_STATE2_PD : Fld := ⟨0x30, 63, 0⟩
def Reg.PWR_EVENT_AVS_FAIL : Fld := ⟨0x38, 2, 2⟩
def Reg.PWR_EVENT_WAKE_LOST : Fld := ⟨0x38, 1, 1⟩
def Reg.PWR_EVENT_REFUSED : Fld := ⟨0x38, 0, 0⟩
def Reg.PWR_SAVE_BASE : Fld := ⟨0x40, 45, 16⟩
def Reg.PWR_SAVE_VALID : Fld := ⟨0x40, 0, 0⟩
def Reg.PWR_BASINRST_BASIN : Fld := ⟨0x48, 63, 0⟩
def Reg.PWR_BASINLOG_BASIN : Fld := ⟨0x50, 63, 0⟩
def Reg.PWR_KEYS_REVOKE : Fld := ⟨0x58, 10, 8⟩
def Reg.PWR_KEYS_REVOKED : Fld := ⟨0x58, 7, 4⟩
def Reg.PWR_KEYS_PROGRAMMED : Fld := ⟨0x58, 3, 0⟩
def Reg.PWR_BOOTSVN_LOADED : Fld := ⟨0x60, 63, 32⟩
def Reg.PWR_BOOTSVN_MIN : Fld := ⟨0x60, 31, 0⟩
def Reg.PWR_AVS_VOUT : Fld := ⟨0x68, 63, 48⟩
def Reg.PWR_AVS_TARGET : Fld := ⟨0x68, 47, 32⟩
def Reg.PWR_AVS_VMAX : Fld := ⟨0x68, 31, 16⟩
def Reg.PWR_AVS_VMIN : Fld := ⟨0x68, 15, 0⟩
def Reg.PWR_RESET_KEY : Fld := ⟨0x70, 15, 0⟩
def Reg.PWR_XPMB_ADDR : Fld := ⟨0x400, 6, 0⟩
def Ctr.PWR_REFUSED : Fld := ⟨0x100, 63, 0⟩
def Ctr.PWR_WAKES_DORMANT : Fld := ⟨0x108, 63, 0⟩
def Ctr.PWR_AVS_CMDS : Fld := ⟨0x110, 63, 0⟩
/-! Fields of the registers of spec/15_worlds_basins.md -/
def Reg.CLK_OWN0_IS : Fld := ⟨0x300, 63, 0⟩
def Reg.CLK_OWN1_IS : Fld := ⟨0x308, 19, 0⟩
/-! Fields of the registers of spec/18_bringup_power.md -/
def Reg.CLK_FREQ_CUR : Fld := ⟨0x0, 15, 8⟩
def Reg.CLK_FREQ_CODE : Fld := ⟨0x0, 7, 0⟩
/-! Fields of the registers of spec/16_spout_interrupts.md -/
def Reg.SPT_SEL_SOURCE : Fld := ⟨0x0, 9, 0⟩
def Reg.SPT_SRC_COUNT : Fld := ⟨0x8, 63, 60⟩
def Reg.SPT_SRC_OVF : Fld := ⟨0x8, 59, 59⟩
def Reg.SPT_SRC_LIVE : Fld := ⟨0x8, 58, 58⟩
def Reg.SPT_SRC_OWNER : Fld := ⟨0x8, 57, 52⟩
def Reg.SPT_SRC_WORLD : Fld := ⟨0x8, 51, 51⟩
def Reg.SPT_SRC_CLR : Fld := ⟨0x8, 41, 41⟩
def Reg.SPT_SRC_TARGET : Fld := ⟨0x8, 40, 36⟩
def Reg.SPT_SRC_TLEVEL : Fld := ⟨0x8, 35, 34⟩
def Reg.SPT_SRC_SENSE : Fld := ⟨0x8, 33, 31⟩
def Reg.SPT_SRC_EN : Fld := ⟨0x8, 0, 0⟩
def Reg.SPT_RAISE_SOURCE : Fld := ⟨0x10, 9, 0⟩
def Reg.SPT_IPI_CORE : Fld := ⟨0x18, 12, 8⟩
def Reg.SPT_IPI_N : Fld := ⟨0x18, 2, 0⟩
def Ctr.HUB_IPI_REFUSED : Fld := ⟨0x100, 63, 0⟩
def Ctr.HUB_OVERFLOWS : Fld := ⟨0x108, 63, 0⟩
def Reg.SPT_ACTIVE_M : Fld := ⟨0x0, 39, 30⟩
def Reg.SPT_ACTIVE_H : Fld := ⟨0x0, 29, 20⟩
def Reg.SPT_ACTIVE_SK : Fld := ⟨0x0, 19, 10⟩
def Reg.SPT_ACTIVE_NK : Fld := ⟨0x0, 9, 0⟩
def Reg.SPT_TMR_S_SECONDS : Fld := ⟨0x10, 63, 32⟩
def Reg.SPT_TMR_S_NS : Fld := ⟨0x10, 31, 0⟩
def Reg.SPT_TMR_N_SECONDS : Fld := ⟨0x18, 63, 32⟩
def Reg.SPT_TMR_N_NS : Fld := ⟨0x18, 31, 0⟩
def Reg.SPT_VMPEND_BASIN : Fld := ⟨0x20, 63, 0⟩
def Reg.SPT_PRIV_COUNT : Fld := ⟨0x100, 63, 60⟩
def Reg.SPT_PRIV_OVF : Fld := ⟨0x100, 59, 59⟩
def Reg.SPT_PRIV_CLR : Fld := ⟨0x100, 41, 41⟩
def Reg.SPT_PRIV_WORLD : Fld := ⟨0x100, 36, 36⟩
def Reg.SPT_PRIV_TLEVEL : Fld := ⟨0x100, 35, 34⟩
def Reg.SPT_PRIV_SENSE : Fld := ⟨0x100, 33, 31⟩
def Reg.SPT_PRIV_EN : Fld := ⟨0x100, 0, 0⟩
def Ctr.SPT_ENTRIES : Fld := ⟨0x200, 63, 0⟩
def Ctr.SPT_TAKEOVERS : Fld := ⟨0x208, 63, 0⟩
def Ctr.SPT_CHAINED : Fld := ⟨0x210, 63, 0⟩
def Ctr.SPT_EMPTY : Fld := ⟨0x218, 63, 0⟩
def Ctr.SPT_WAKES : Fld := ⟨0x220, 63, 0⟩
/-! Fields of the registers of spec/17_fault_tolerance.md -/
def Reg.CRN_CTRL_INTERVAL_US : Fld := ⟨0x0, 6, 0⟩
def Reg.CRN_STATUS_STATE1 : Fld := ⟨0x8, 19, 16⟩
def Reg.CRN_STATUS_STATE : Fld := ⟨0x8, 11, 8⟩
def Reg.CRN_STATUS_TEST_OK : Fld := ⟨0x8, 1, 1⟩
def Reg.CRN_STATUS_MODE : Fld := ⟨0x8, 0, 0⟩
def Reg.CRN_CMD_CORE : Fld := ⟨0x10, 4, 4⟩
def Reg.CRN_CMD_OP : Fld := ⟨0x10, 3, 0⟩
def Reg.CRN_EVENT_TEST_FAIL : Fld := ⟨0x18, 3, 3⟩
def Reg.CRN_EVENT_TEST_PASS : Fld := ⟨0x18, 2, 2⟩
def Reg.CRN_EVENT_RESTARTED : Fld := ⟨0x18, 1, 1⟩
def Reg.CRN_EVENT_MISMATCH : Fld := ⟨0x18, 0, 0⟩
def Reg.CRN_LAST_NS : Fld := ⟨0x20, 63, 32⟩
def Reg.CRN_LAST_SECONDS : Fld := ⟨0x20, 31, 0⟩
def Reg.CRN_INJECT_FLIP : Fld := ⟨0x400, 0, 0⟩
def Ctr.CRN_COMMITS : Fld := ⟨0x100, 63, 0⟩
def Ctr.CRN_FORCED : Fld := ⟨0x108, 63, 0⟩
def Ctr.CRN_MISMATCHES : Fld := ⟨0x110, 63, 0⟩
def Ctr.CRN_TX_DEFER : Fld := ⟨0x118, 63, 0⟩
def Reg.ERR_STATUS_OVF : Fld := ⟨0x0, 31, 31⟩
def Reg.ERR_STATUS_ESC : Fld := ⟨0x0, 30, 30⟩
def Reg.ERR_STATUS_OCCUPIED : Fld := ⟨0x0, 20, 16⟩
def Reg.ERR_STATUS_NEW : Fld := ⟨0x0, 4, 0⟩
def Reg.ERR_REC0_VALID : Fld := ⟨0x10, 63, 63⟩
def Reg.ERR_REC0_ESC : Fld := ⟨0x10, 62, 62⟩
def Reg.ERR_REC0_LOST_BEFORE : Fld := ⟨0x10, 61, 61⟩
def Reg.ERR_REC0_CLASS : Fld := ⟨0x10, 55, 48⟩
def Reg.ERR_REC0_SEV : Fld := ⟨0x10, 47, 46⟩
def Reg.ERR_REC0_SEQ : Fld := ⟨0x10, 15, 0⟩
def Reg.ERR_REC1_INFO : Fld := ⟨0x18, 63, 48⟩
def Reg.ERR_REC1_BASIN : Fld := ⟨0x18, 41, 36⟩
def Reg.ERR_REC1_WORLD : Fld := ⟨0x18, 35, 35⟩
def Reg.ERR_REC1_KIND : Fld := ⟨0x18, 27, 24⟩
def Reg.ERR_REC1_INDEX : Fld := ⟨0x18, 15, 0⟩
def Reg.ERR_REC2_ADDR : Fld := ⟨0x20, 45, 0⟩
def Reg.ERR_REC3_NS : Fld := ⟨0x28, 63, 32⟩
def Reg.ERR_REC3_SECONDS : Fld := ⟨0x28, 31, 0⟩
def Reg.ERR_DONE_SEQ : Fld := ⟨0x30, 15, 0⟩
def Reg.ERR_CTRL_ESC_EN : Fld := ⟨0x38, 0, 0⟩
def Ctr.ERR_RECORDS : Fld := ⟨0x100, 63, 0⟩
def Ctr.ERR_LOST : Fld := ⟨0x108, 63, 0⟩
def Ctr.ERR_ESCALATIONS : Fld := ⟨0x110, 63, 0⟩
/-! Fields of the registers of spec/18_bringup_power.md -/
def Reg.DTB_SET0_NS : Fld := ⟨0x0, 63, 32⟩
def Reg.DTB_SET1_SECONDS : Fld := ⟨0x8, 47, 0⟩
def Reg.DTB_ADJ_ADJ : Fld := ⟨0x10, 31, 0⟩
def Reg.DTB_PPS0_NS : Fld := ⟨0x18, 63, 32⟩
def Reg.DTB_PPS0_FRAC : Fld := ⟨0x18, 31, 16⟩
def Reg.DTB_PPS1_SECONDS : Fld := ⟨0x20, 47, 0⟩
def Reg.DTB_EVENT_PPS_GLITCH : Fld := ⟨0x28, 2, 2⟩
def Reg.DTB_EVENT_STEP_DONE : Fld := ⟨0x28, 1, 1⟩
def Reg.DTB_EVENT_PPS : Fld := ⟨0x28, 0, 0⟩
def Ctr.DTB_STEPS : Fld := ⟨0x100, 63, 0⟩
/-! Fields of the registers of spec/19_debug_trace.md -/
def Reg.DBG_FUSE_DENY : Fld := ⟨0x0, 11, 0⟩
def Reg.DBG_AUTH_LOCK : Fld := ⟨0x8, 31, 31⟩
def Reg.DBG_AUTH_GRANT : Fld := ⟨0x8, 12, 0⟩
def Reg.DBG_NONCE0_NONCE : Fld := ⟨0x10, 63, 0⟩
def Reg.DBG_NONCE1_NONCE : Fld := ⟨0x18, 63, 0⟩
def Reg.DBG_SEL_CORE : Fld := ⟨0x20, 4, 0⟩
def Reg.DBG_CTRL_OP : Fld := ⟨0x28, 1, 0⟩
def Reg.DBG_STATUS_ERRCODE : Fld := ⟨0x30, 15, 8⟩
def Reg.DBG_STATUS_FORCED : Fld := ⟨0x30, 2, 2⟩
def Reg.DBG_STATUS_STATE : Fld := ⟨0x30, 1, 0⟩
def Reg.DBG_ITR_SYL1 : Fld := ⟨0x38, 63, 32⟩
def Reg.DBG_ITR_SYL0 : Fld := ⟨0x38, 31, 0⟩
def Reg.DBG_DATA_DATA : Fld := ⟨0x40, 63, 0⟩
def Reg.DBG_MATCH_KIND : Fld := ⟨0x80, 63, 62⟩
def Reg.DBG_MATCH_ADDR : Fld := ⟨0x80, 47, 2⟩
def Reg.TRC_CTRL_IRQ_CORE : Fld := ⟨0x0, 12, 8⟩
def Reg.TRC_CTRL_TS : Fld := ⟨0x0, 5, 4⟩
def Reg.TRC_CTRL_OUT : Fld := ⟨0x0, 3, 2⟩
def Reg.TRC_CTRL_EN : Fld := ⟨0x0, 0, 0⟩
def Reg.TRC_CORES_CORE : Fld := ⟨0x8, 31, 0⟩
def Reg.TRC_BUF_BASE_WORLD : Fld := ⟨0x10, 63, 63⟩
def Reg.TRC_BUF_BASE_BASIN : Fld := ⟨0x10, 61, 56⟩
def Reg.TRC_BUF_BASE_BASE : Fld := ⟨0x10, 45, 12⟩
def Reg.TRC_BUF_SIZE_SIZE : Fld := ⟨0x18, 45, 12⟩
def Reg.TRC_BUF_SIZE_MODE : Fld := ⟨0x18, 0, 0⟩
def Reg.TRC_BUF_PTR_WRAPPED : Fld := ⟨0x20, 63, 63⟩
def Reg.TRC_BUF_PTR_PTR : Fld := ⟨0x20, 45, 0⟩
def Reg.TRC_STATUS_STOPPED : Fld := ⟨0x28, 2, 2⟩
def Reg.TRC_STATUS_HALF : Fld := ⟨0x28, 1, 1⟩
def Reg.TRC_STATUS_OVERFLOW : Fld := ⟨0x28, 0, 0⟩
def Ctr.TRC_FRAMES : Fld := ⟨0x100, 63, 0⟩
def Ctr.TRC_LOST : Fld := ⟨0x108, 63, 0⟩

/-- Registers of ALL. -/
def regsALL : List RegDesc :=
  [
    ⟨0x3f0, 1, [⟨23, 16, .ro, 0xb0⟩, ⟨9, 0, .ro, 0x0⟩]⟩,
    ⟨0x3f8, 1, [⟨2, 2, .w1s, 0x0⟩, ⟨1, 1, .w1c, 0x0⟩, ⟨0, 0, .rw, 0x0⟩]⟩]

/-- Registers of RDY. -/
def regsRDY : List RegDesc :=
  [
    ⟨0x0, 1, [⟨63, 32, .ro, 0x0⟩, ⟨31, 0, .ro, 0x0⟩]⟩,
    ⟨0x8, 1, [⟨63, 32, .ro, 0x0⟩, ⟨31, 0, .ro, 0x0⟩]⟩,
    ⟨0x10, 1, [⟨63, 0, .ro, 0x0⟩]⟩,
    ⟨0x18, 1, [⟨37, 37, .ro, 0x0⟩, ⟨36, 36, .ro, 0x0⟩, ⟨35, 35, .ro, 0x0⟩, ⟨34, 34, .ro, 0x0⟩, ⟨33, 33, .ro, 0x0⟩, ⟨32, 32, .ro, 0x0⟩, ⟨31, 31, .ro, 0x0⟩, ⟨30, 30, .ro, 0x0⟩, ⟨29, 28, .ro, 0x0⟩, ⟨27, 24, .ro, 0x0⟩, ⟨23, 22, .ro, 0x0⟩, ⟨21, 18, .ro, 0x0⟩, ⟨17, 8, .ro, 0x0⟩, ⟨7, 0, .ro, 0x0⟩]⟩,
    ⟨0x40, 4, [⟨63, 0, .w1c, 0x0⟩]⟩,
    ⟨0x60, 4, [⟨63, 0, .w1c, 0x0⟩]⟩]

/-- Registers of PRT. -/
def regsPRT : List RegDesc :=
  [
    ⟨0x0, 1, [⟨4, 4, .rw, 0x0⟩, ⟨3, 3, .rw, 0x0⟩, ⟨2, 1, .rw, 0x0⟩, ⟨0, 0, .rw, 0x1⟩]⟩,
    ⟨0x8, 1, [⟨15, 15, .ro, 0x0⟩, ⟨12, 8, .ro, 0x0⟩, ⟨2, 2, .ro, 0x0⟩, ⟨1, 1, .ro, 0x0⟩, ⟨0, 0, .ro, 0x0⟩]⟩,
    ⟨0x400, 1, [⟨48, 32, .rwx, 0x64b5⟩, ⟨7, 5, .rwx, 0x0⟩, ⟨4, 3, .rwx, 0x0⟩, ⟨0, 0, .rwx, 0x0⟩]⟩,
    ⟨0x408, 1, [⟨63, 0, .ro, 0x0⟩]⟩,
    ⟨0x410, 1, [⟨31, 24, .rwx, 0x0⟩, ⟨23, 16, .rwx, 0xf4⟩, ⟨15, 8, .rwx, 0x54⟩, ⟨7, 0, .rwx, 0xfc⟩]⟩]

/-- Registers of MAC. -/
def regsMAC : List RegDesc :=
  [
    ⟨0x0, 1, [⟨47, 32, .rw, 0x2400⟩, ⟨20, 8, .rw, 0x1fff⟩, ⟨5, 5, .rw, 0x0⟩, ⟨3, 3, .wo, 0x0⟩, ⟨0, 0, .rw, 0x1⟩]⟩,
    ⟨0x8, 1, [⟨3, 0, .rwl, 0x0⟩]⟩,
    ⟨0x10, 1, [⟨31, 30, .ro, 0x3⟩, ⟨29, 24, .ro, 0x0⟩, ⟨23, 20, .ro, 0x0⟩, ⟨19, 16, .ro, 0xf⟩, ⟨11, 8, .ro, 0x0⟩, ⟨1, 1, .ro, 0x0⟩, ⟨0, 0, .ro, 0x0⟩]⟩,
    ⟨0x18, 1, [⟨5, 5, .w1c, 0x0⟩, ⟨4, 4, .w1c, 0x0⟩, ⟨3, 3, .w1c, 0x0⟩, ⟨2, 2, .w1c, 0x0⟩, ⟨1, 1, .w1c, 0x0⟩, ⟨0, 0, .w1c, 0x0⟩]⟩,
    ⟨0x20, 1, [⟨63, 48, .rw, 0xffff⟩, ⟨47, 32, .rw, 0x8000⟩, ⟨31, 24, .rw, 0x0⟩, ⟨23, 16, .rw, 0xff⟩, ⟨1, 0, .rw, 0x0⟩]⟩,
    ⟨0x28, 1, [⟨15, 8, .ro, 0x0⟩, ⟨7, 0, .ro, 0x0⟩]⟩,
    ⟨0x30, 1, [⟨2, 2, .rw, 0x1⟩, ⟨1, 1, .rw, 0x1⟩, ⟨0, 0, .rw, 0x1⟩]⟩,
    ⟨0x38, 1, [⟨63, 32, .ro, 0x0⟩, ⟨31, 16, .ro, 0x0⟩, ⟨15, 0, .ro, 0x0⟩]⟩,
    ⟨0x40, 1, [⟨63, 63, .ro, 0x0⟩, ⟨59, 56, .ro, 0x0⟩, ⟨55, 48, .ro, 0x0⟩, ⟨47, 0, .ro, 0x0⟩]⟩,
    ⟨0x400, 1, [⟨31, 16, .rwx, 0x0⟩, ⟨15, 0, .rwx, 0x0⟩]⟩,
    ⟨0x100, 1, [⟨63, 0, .ro, 0x0⟩]⟩,
    ⟨0x108, 1, [⟨63, 0, .ro, 0x0⟩]⟩,
    ⟨0x110, 1, [⟨63, 0, .ro, 0x0⟩]⟩,
    ⟨0x118, 1, [⟨63, 0, .ro, 0x0⟩]⟩,
    ⟨0x120, 1, [⟨63, 0, .ro, 0x0⟩]⟩,
    ⟨0x128, 1, [⟨63, 0, .ro, 0x0⟩]⟩,
    ⟨0x130, 1, [⟨63, 0, .ro, 0x0⟩]⟩,
    ⟨0x138, 1, [⟨63, 0, .ro, 0x0⟩]⟩,
    ⟨0x140, 1, [⟨63, 0, .ro, 0x0⟩]⟩,
    ⟨0x148, 1, [⟨63, 0, .ro, 0x0⟩]⟩,
    ⟨0x150, 1, [⟨63, 0, .ro, 0x0⟩]⟩,
    ⟨0x158, 1, [⟨63, 0, .ro, 0x0⟩]⟩,
    ⟨0x160, 1, [⟨63, 0, .ro, 0x0⟩]⟩,
    ⟨0x168, 1, [⟨63, 0, .ro, 0x0⟩]⟩] ++
  [
    ⟨0x170, 1, [⟨63, 0, .ro, 0x0⟩]⟩,
    ⟨0x178, 1, [⟨63, 0, .ro, 0x0⟩]⟩,
    ⟨0x180, 1, [⟨63, 0, .ro, 0x0⟩]⟩,
    ⟨0x188, 1, [⟨63, 0, .ro, 0x0⟩]⟩]

/-- Registers of MG. -/
def regsMG : List RegDesc :=
  [
    ⟨0x200, 1, [⟨63, 48, .rw, 0x0⟩, ⟨45, 5, .rw, 0x0⟩]⟩,
    ⟨0x208, 1, [⟨63, 48, .rw, 0x0⟩, ⟨45, 5, .rw, 0x0⟩]⟩,
    ⟨0x210, 1, [⟨63, 48, .rw, 0x0⟩, ⟨47, 32, .ro, 0x0⟩, ⟨31, 16, .rw, 0x0⟩, ⟨15, 0, .ro, 0x0⟩]⟩]

/-- Registers of SPP. -/
def regsSPP : List RegDesc :=
  [
    ⟨0x0, 1, [⟨63, 0, .ro, 0x0⟩]⟩,
    ⟨0x8, 1, [⟨15, 0, .rwl, 0x88b5⟩]⟩,
    ⟨0x10, 1, [⟨41, 32, .rw, 0xa⟩, ⟨31, 16, .rw, 0x3e8⟩, ⟨15, 13, .rw, 0x7⟩, ⟨12, 12, .rw, 0x0⟩, ⟨11, 0, .rw, 0x0⟩]⟩,
    ⟨0x18, 1, [⟨47, 0, .rw, 0x180c2000003⟩]⟩,
    ⟨0x20, 1, [⟨47, 0, .rwl, 0x20000000000⟩]⟩,
    ⟨0x28, 1, [⟨63, 32, .w1c, 0x0⟩, ⟨31, 0, .w1c, 0x0⟩]⟩,
    ⟨0x30, 1, [⟨63, 32, .w1c, 0x0⟩, ⟨31, 0, .w1c, 0x0⟩]⟩]

/-- Registers of MACSPP. -/
def regsMACSPP : List RegDesc :=
  [
    ⟨0x300, 1, [⟨41, 32, .rw, 0xa⟩, ⟨12, 8, .rwl, 0x0⟩, ⟨4, 4, .rw, 0x0⟩, ⟨3, 3, .wo, 0x0⟩, ⟨2, 2, .rw, 0x0⟩, ⟨1, 1, .rwl, 0x1⟩, ⟨0, 0, .rw, 0x1⟩]⟩,
    ⟨0x308, 1, [⟨63, 0, .rw, 0x70a0d10⟩]⟩,
    ⟨0x310, 1, [⟨41, 32, .ro, 0x0⟩, ⟨31, 31, .ro, 0x0⟩, ⟨30, 30, .ro, 0x0⟩, ⟨29, 29, .ro, 0x0⟩, ⟨28, 28, .ro, 0x0⟩, ⟨27, 27, .ro, 0x0⟩, ⟨20, 16, .ro, 0x0⟩, ⟨9, 8, .ro, 0x0⟩, ⟨3, 0, .ro, 0x0⟩]⟩,
    ⟨0x318, 1, [⟨63, 0, .ro, 0x0⟩]⟩,
    ⟨0x320, 1, [⟨31, 0, .ro, 0xffffffff⟩]⟩,
    ⟨0x340, 1, [⟨63, 0, .ro, 0x0⟩]⟩,
    ⟨0x348, 1, [⟨63, 0, .ro, 0x0⟩]⟩,
    ⟨0x350, 1, [⟨63, 0, .ro, 0x0⟩]⟩,
    ⟨0x358, 1, [⟨63, 0, .ro, 0x0⟩]⟩,
    ⟨0x360, 1, [⟨63, 0, .ro, 0x0⟩]⟩,
    ⟨0x368, 1, [⟨63, 0, .ro, 0x0⟩]⟩,
    ⟨0x370, 1, [⟨63, 0, .ro, 0x0⟩]⟩,
    ⟨0x378, 1, [⟨63, 0, .ro, 0x0⟩]⟩,
    ⟨0x380, 1, [⟨63, 0, .ro, 0x0⟩]⟩,
    ⟨0x388, 1, [⟨63, 0, .ro, 0x0⟩]⟩,
    ⟨0x390, 1, [⟨63, 0, .ro, 0x0⟩]⟩]

/-- Registers of BIT. -/
def regsBIT : List RegDesc :=
  [
    ⟨0x0, 1, [⟨47, 32, .wo, 0x0⟩, ⟨3, 0, .wo, 0x0⟩]⟩,
    ⟨0x8, 1, [⟨45, 6, .rw, 0x0⟩]⟩,
    ⟨0x10, 1, [⟨26, 0, .rw, 0x0⟩]⟩,
    ⟨0x18, 1, [⟨63, 32, .ro, 0x0⟩, ⟨23, 16, .ro, 0x0⟩, ⟨8, 8, .ro, 0x0⟩, ⟨3, 0, .ro, 0x0⟩]⟩,
    ⟨0x20, 1, [⟨3, 3, .w1c, 0x0⟩, ⟨2, 2, .w1c, 0x0⟩, ⟨1, 1, .w1c, 0x0⟩, ⟨0, 0, .w1c, 0x0⟩]⟩,
    ⟨0x28, 1, [⟨63, 32, .ro, 0x0⟩, ⟨7, 0, .ro, 0x0⟩]⟩,
    ⟨0x30, 1, [⟨63, 32, .ro, 0x0⟩, ⟨31, 0, .ro, 0x0⟩]⟩,
    ⟨0x38, 6, [⟨63, 0, .ro, 0x0⟩]⟩,
    ⟨0x100, 32, [⟨63, 32, .ro, 0x0⟩, ⟨31, 0, .ro, 0x0⟩]⟩,
    ⟨0x400, 1, [⟨47, 32, .rwx, 0x0⟩, ⟨0, 0, .rwx, 0x0⟩]⟩]

/-- Registers of CAS. -/
def regsCAS : List RegDesc :=
  [
    ⟨0x0, 1, [⟨9, 4, .ro, 0x0⟩, ⟨3, 0, .ro, 0x0⟩]⟩,
    ⟨0x8, 1, [⟨15, 0, .rw, 0x400⟩]⟩,
    ⟨0x10, 1, [⟨3, 0, .wo, 0x0⟩]⟩,
    ⟨0x100, 1, [⟨63, 0, .ro, 0x0⟩]⟩,
    ⟨0x108, 1, [⟨63, 0, .ro, 0x0⟩]⟩,
    ⟨0x110, 1, [⟨63, 0, .ro, 0x0⟩]⟩,
    ⟨0x118, 1, [⟨63, 0, .ro, 0x0⟩]⟩,
    ⟨0x120, 1, [⟨63, 0, .ro, 0x0⟩]⟩,
    ⟨0x128, 1, [⟨63, 0, .ro, 0x0⟩]⟩,
    ⟨0x130, 1, [⟨63, 0, .ro, 0x0⟩]⟩,
    ⟨0x138, 1, [⟨63, 0, .ro, 0x0⟩]⟩,
    ⟨0x140, 1, [⟨63, 0, .ro, 0x0⟩]⟩,
    ⟨0x148, 1, [⟨63, 0, .ro, 0x0⟩]⟩,
    ⟨0x150, 1, [⟨63, 0, .ro, 0x0⟩]⟩,
    ⟨0x158, 1, [⟨63, 0, .ro, 0x0⟩]⟩,
    ⟨0x160, 1, [⟨63, 0, .ro, 0x0⟩]⟩,
    ⟨0x168, 1, [⟨63, 0, .ro, 0x0⟩]⟩,
    ⟨0x170, 1, [⟨63, 0, .ro, 0x0⟩]⟩,
    ⟨0x178, 1, [⟨63, 0, .ro, 0x0⟩]⟩,
    ⟨0x180, 1, [⟨63, 0, .ro, 0x0⟩]⟩]

/-- Registers of SPL. -/
def regsSPL : List RegDesc :=
  [
    ⟨0x0, 1, [⟨34, 21, .rwl, 0x0⟩]⟩,
    ⟨0x8, 1, [⟨34, 21, .rwl, 0x0⟩]⟩,
    ⟨0x10, 1, [⟨63, 48, .rw, 0x4000⟩, ⟨31, 16, .rw, 0x80⟩, ⟨15, 0, .rw, 0x20⟩]⟩,
    ⟨0x18, 1, [⟨31, 16, .rw, 0x800⟩, ⟨15, 0, .rw, 0x200⟩]⟩,
    ⟨0x20, 1, [⟨48, 32, .ro, 0x18000⟩, ⟨31, 0, .ro, 0x0⟩]⟩,
    ⟨0x100, 1, [⟨63, 0, .ro, 0x0⟩]⟩,
    ⟨0x108, 1, [⟨63, 0, .ro, 0x0⟩]⟩,
    ⟨0x110, 1, [⟨63, 0, .ro, 0x0⟩]⟩,
    ⟨0x118, 1, [⟨63, 0, .ro, 0x0⟩]⟩,
    ⟨0x120, 1, [⟨63, 0, .ro, 0x0⟩]⟩]

/-- Registers of BW. -/
def regsBW : List RegDesc :=
  [
    ⟨0x380, 1, [⟨63, 48, .rw, 0x0⟩, ⟨45, 5, .rw, 0x0⟩]⟩,
    ⟨0x388, 1, [⟨63, 48, .rw, 0x0⟩, ⟨45, 5, .rw, 0x0⟩]⟩,
    ⟨0x390, 1, [⟨63, 48, .rw, 0x0⟩, ⟨47, 32, .ro, 0x0⟩, ⟨31, 16, .rw, 0x0⟩, ⟨15, 0, .ro, 0x0⟩]⟩,
    ⟨0x398, 1, [⟨18, 16, .rw, 0x0⟩, ⟨0, 0, .rw, 0x0⟩]⟩,
    ⟨0x3b0, 1, [⟨63, 63, .ro, 0x0⟩, ⟨62, 62, .ro, 0x0⟩, ⟨61, 60, .ro, 0x0⟩, ⟨59, 56, .ro, 0x0⟩, ⟨49, 32, .ro, 0x0⟩, ⟨31, 0, .ro, 0x0⟩]⟩,
    ⟨0x0, 1, [⟨47, 32, .rw, 0x0⟩, ⟨7, 0, .rw, 0x1⟩]⟩,
    ⟨0x8, 1, [⟨31, 0, .rw, 0x0⟩]⟩,
    ⟨0x10, 1, [⟨63, 48, .ro, 0x0⟩, ⟨31, 0, .ro, 0x0⟩]⟩,
    ⟨0x3a0, 1, [⟨63, 0, .ro, 0x0⟩]⟩,
    ⟨0x3a8, 1, [⟨63, 0, .ro, 0x0⟩]⟩,
    ⟨0x3b8, 1, [⟨63, 0, .ro, 0x0⟩]⟩]

/-- Registers of SA. -/
def regsSA : List RegDesc :=
  [
    ⟨0x0, 1, [⟨63, 48, .wo, 0x0⟩, ⟨45, 6, .wo, 0x0⟩]⟩,
    ⟨0x8, 1, [⟨34, 28, .rwl, 0x0⟩, ⟨0, 0, .rwl, 0x0⟩]⟩,
    ⟨0x10, 1, [⟨12, 0, .rw, 0x100⟩]⟩,
    ⟨0x18, 1, [⟨63, 32, .rw, 0xc0000000⟩, ⟨31, 0, .rw, 0xc0000000⟩]⟩,
    ⟨0x20, 1, [⟨50, 32, .ro, 0x0⟩, ⟨20, 0, .ro, 0x0⟩]⟩,
    ⟨0x28, 1, [⟨6, 0, .ro, 0x0⟩]⟩]

/-- Registers of JET. -/
def regsJET : List RegDesc :=
  [
    ⟨0x0, 1, [⟨11, 8, .ro, 0xf⟩, ⟨3, 0, .ro, 0x0⟩]⟩,
    ⟨0x8, 1, [⟨3, 0, .wo, 0x0⟩]⟩,
    ⟨0x10, 1, [⟨3, 3, .w1c, 0x0⟩, ⟨2, 2, .w1c, 0x0⟩, ⟨1, 1, .w1c, 0x0⟩, ⟨0, 0, .w1c, 0x0⟩]⟩,
    ⟨0x400, 1, [⟨0, 0, .rwx, 0x0⟩]⟩,
    ⟨0x100, 1, [⟨63, 0, .ro, 0x0⟩]⟩,
    ⟨0x108, 1, [⟨63, 0, .ro, 0x0⟩]⟩,
    ⟨0x110, 1, [⟨63, 0, .ro, 0x0⟩]⟩,
    ⟨0x118, 1, [⟨63, 0, .ro, 0x0⟩]⟩,
    ⟨0x120, 1, [⟨63, 0, .ro, 0x0⟩]⟩]

/-- Registers of JET0. -/
def regsJET0 : List RegDesc :=
  [
    ⟨0x18, 1, [⟨15, 0, .rw, 0x64⟩]⟩]

/-- Registers of PW. -/
def regsPW : List RegDesc :=
  [
    ⟨0x0, 8, [⟨63, 32, .rw, 0x0⟩, ⟨31, 16, .rw, 0x10⟩, ⟨15, 8, .rw, 0x1⟩, ⟨0, 0, .rw, 0x0⟩]⟩,
    ⟨0x40, 1, [⟨63, 32, .rw, 0x0⟩, ⟨31, 16, .rw, 0x10⟩]⟩,
    ⟨0x80, 8, [⟨59, 40, .rw, 0x40⟩, ⟨39, 20, .rw, 0x100⟩, ⟨19, 0, .rw, 0x80⟩]⟩,
    ⟨0xc0, 1, [⟨2, 0, .rw, 0x0⟩]⟩,
    ⟨0x100, 8, [⟨63, 63, .ro, 0x0⟩, ⟨39, 0, .ro, 0x0⟩]⟩,
    ⟨0x140, 8, [⟨63, 63, .ro, 0x0⟩, ⟨39, 0, .ro, 0x0⟩]⟩,
    ⟨0x400, 1, [⟨23, 0, .rwx, 0xfac688⟩]⟩,
    ⟨0x408, 1, [⟨15, 0, .rwx, 0x100⟩]⟩,
    ⟨0x180, 1, [⟨63, 0, .ro, 0x0⟩]⟩,
    ⟨0x188, 1, [⟨63, 0, .ro, 0x0⟩]⟩,
    ⟨0x190, 1, [⟨63, 0, .ro, 0x0⟩]⟩]

/-- Registers of PW0. -/
def regsPW0 : List RegDesc :=
  [
    ⟨0xc8, 1, [⟨47, 32, .rw, 0x2000⟩, ⟨31, 16, .rw, 0x3000⟩]⟩,
    ⟨0xd0, 1, [⟨15, 0, .rw, 0x3e8⟩]⟩]

/-- Registers of SLU. -/
def regsSLU : List RegDesc :=
  [
    ⟨0x0, 1, [⟨63, 63, .ro, 0x0⟩, ⟨15, 0, .ro, 0x0⟩]⟩,
    ⟨0x8, 1, [⟨63, 48, .wo, 0x0⟩, ⟨45, 6, .wo, 0x0⟩]⟩,
    ⟨0x10, 1, [⟨47, 32, .rw, 0x3e8⟩, ⟨3, 0, .rwl, 0x4⟩]⟩,
    ⟨0x18, 1, [⟨34, 21, .rwl, 0x0⟩]⟩,
    ⟨0x20, 1, [⟨34, 21, .rwl, 0x0⟩]⟩,
    ⟨0x28, 1, [⟨45, 32, .rwl, 0x0⟩, ⟨21, 16, .rw, 0x3f⟩, ⟨15, 0, .rw, 0x14⟩]⟩,
    ⟨0x30, 1, [⟨35, 32, .rw, 0x0⟩, ⟨31, 0, .rw, 0x0⟩]⟩,
    ⟨0x38, 1, [⟨63, 48, .rw, 0xc8⟩, ⟨47, 32, .rw, 0x32⟩, ⟨15, 0, .rw, 0x1f4⟩]⟩,
    ⟨0x40, 1, [⟨63, 48, .rw, 0xa⟩, ⟨47, 32, .rw, 0x5⟩, ⟨15, 0, .rw, 0x14⟩]⟩,
    ⟨0x48, 1, [⟨1, 1, .w1c, 0x0⟩, ⟨0, 0, .w1c, 0x0⟩]⟩,
    ⟨0x50, 1, [⟨63, 0, .w1c, 0x0⟩]⟩,
    ⟨0x58, 1, [⟨63, 32, .ro, 0x0⟩, ⟨31, 0, .ro, 0x0⟩]⟩,
    ⟨0x100, 64, [⟨63, 48, .ro, 0x0⟩, ⟨47, 42, .ro, 0x0⟩, ⟨41, 41, .ro, 0x0⟩, ⟨39, 32, .ro, 0x0⟩, ⟨31, 28, .ro, 0x0⟩, ⟨24, 24, .ro, 0x0⟩, ⟨23, 23, .ro, 0x0⟩, ⟨22, 22, .ro, 0x0⟩, ⟨21, 21, .ro, 0x0⟩, ⟨14, 0, .ro, 0x0⟩]⟩,
    ⟨0x300, 1, [⟨63, 0, .ro, 0x0⟩]⟩,
    ⟨0x308, 1, [⟨63, 0, .ro, 0x0⟩]⟩,
    ⟨0x310, 1, [⟨63, 0, .ro, 0x0⟩]⟩,
    ⟨0x318, 1, [⟨63, 0, .ro, 0x0⟩]⟩,
    ⟨0x320, 1, [⟨63, 0, .ro, 0x0⟩]⟩,
    ⟨0x328, 1, [⟨63, 0, .ro, 0x0⟩]⟩,
    ⟨0x330, 1, [⟨63, 0, .ro, 0x0⟩]⟩]

/-- Registers of RDG0. -/
def regsRDG0 : List RegDesc :=
  [
    ⟨0x0, 1, [⟨63, 32, .rwl, 0x0⟩, ⟨23, 16, .ro, 0x0⟩, ⟨8, 8, .ro, 0x0⟩, ⟨2, 0, .ro, 0x0⟩]⟩,
    ⟨0x8, 1, [⟨63, 0, .rw, 0x0⟩]⟩,
    ⟨0x10, 1, [⟨63, 48, .wo, 0x0⟩, ⟨44, 40, .wo, 0x0⟩, ⟨2, 0, .wo, 0x0⟩]⟩,
    ⟨0x200, 32, [⟨63, 63, .ro, 0x0⟩, ⟨62, 62, .ro, 0x0⟩, ⟨61, 61, .ro, 0x0⟩, ⟨60, 58, .ro, 0x0⟩, ⟨53, 48, .ro, 0x0⟩, ⟨15, 0, .ro, 0x0⟩]⟩,
    ⟨0x300, 16, [⟨63, 62, .rwl, 0x0⟩, ⟨58, 56, .rwl, 0x0⟩, ⟨52, 48, .rwl, 0x0⟩, ⟨31, 30, .rwl, 0x0⟩, ⟨26, 24, .rwl, 0x0⟩, ⟨20, 16, .rwl, 0x0⟩]⟩,
    ⟨0x180, 1, [⟨63, 0, .ro, 0x0⟩]⟩,
    ⟨0x188, 1, [⟨63, 0, .ro, 0x0⟩]⟩,
    ⟨0x190, 1, [⟨63, 0, .ro, 0x0⟩]⟩,
    ⟨0x198, 1, [⟨63, 0, .ro, 0x0⟩]⟩,
    ⟨0x1a0, 1, [⟨63, 0, .ro, 0x0⟩]⟩]

/-- Registers of RDG. -/
def regsRDG : List RegDesc :=
  [
    ⟨0x40, 1, [⟨13, 8, .rw, 0x3f⟩, ⟨6, 4, .rwl, 0x1⟩, ⟨0, 0, .rw, 0x1⟩]⟩,
    ⟨0x48, 1, [⟨19, 16, .ro, 0x0⟩, ⟨10, 8, .ro, 0x0⟩, ⟨6, 4, .ro, 0x0⟩, ⟨3, 0, .ro, 0x0⟩]⟩,
    ⟨0x50, 1, [⟨63, 0, .ro, 0x0⟩]⟩,
    ⟨0x58, 1, [⟨3, 3, .w1c, 0x0⟩, ⟨2, 2, .w1c, 0x0⟩, ⟨1, 1, .w1c, 0x0⟩, ⟨0, 0, .w1c, 0x0⟩]⟩,
    ⟨0x100, 1, [⟨63, 0, .ro, 0x0⟩]⟩,
    ⟨0x108, 1, [⟨63, 0, .ro, 0x0⟩]⟩,
    ⟨0x110, 1, [⟨63, 0, .ro, 0x0⟩]⟩,
    ⟨0x118, 1, [⟨63, 0, .ro, 0x0⟩]⟩,
    ⟨0x120, 1, [⟨63, 0, .ro, 0x0⟩]⟩]

/-- Registers of TRN. -/
def regsTRN : List RegDesc :=
  [
    ⟨0x80, 1, [⟨8, 8, .ro, 0x0⟩, ⟨1, 0, .wo, 0x0⟩]⟩,
    ⟨0x400, 1, [⟨15, 0, .rwx, 0xace1⟩]⟩,
    ⟨0x100, 1, [⟨63, 0, .ro, 0x0⟩]⟩,
    ⟨0x108, 1, [⟨63, 0, .ro, 0x0⟩]⟩,
    ⟨0x110, 1, [⟨63, 0, .ro, 0x0⟩]⟩,
    ⟨0x118, 1, [⟨63, 0, .ro, 0x0⟩]⟩,
    ⟨0x120, 1, [⟨63, 0, .ro, 0x0⟩]⟩,
    ⟨0x128, 1, [⟨63, 0, .ro, 0x0⟩]⟩,
    ⟨0x130, 1, [⟨63, 0, .ro, 0x0⟩]⟩,
    ⟨0x138, 1, [⟨63, 0, .ro, 0x0⟩]⟩,
    ⟨0x140, 1, [⟨63, 0, .ro, 0x0⟩]⟩,
    ⟨0x148, 1, [⟨63, 0, .ro, 0x0⟩]⟩]

/-- Registers of POL. -/
def regsPOL : List RegDesc :=
  [
    ⟨0x0, 1, [⟨8, 8, .ro, 0x0⟩, ⟨3, 0, .rwl, 0x0⟩]⟩,
    ⟨0x400, 1, [⟨15, 0, .rwx, 0xace1⟩]⟩,
    ⟨0x10, 1, [⟨47, 32, .ro, 0x0⟩, ⟨15, 0, .ro, 0x0⟩]⟩,
    ⟨0x18, 1, [⟨12, 8, .ro, 0x0⟩, ⟨5, 4, .ro, 0x0⟩, ⟨0, 0, .wo, 0x0⟩]⟩,
    ⟨0x100, 1, [⟨63, 0, .ro, 0x0⟩]⟩,
    ⟨0x108, 1, [⟨63, 0, .ro, 0x0⟩]⟩,
    ⟨0x110, 1, [⟨63, 0, .ro, 0x0⟩]⟩,
    ⟨0x118, 1, [⟨63, 0, .ro, 0x0⟩]⟩,
    ⟨0x120, 1, [⟨63, 0, .ro, 0x0⟩]⟩,
    ⟨0x128, 1, [⟨63, 0, .ro, 0x0⟩]⟩,
    ⟨0x130, 1, [⟨63, 0, .ro, 0x0⟩]⟩,
    ⟨0x138, 1, [⟨63, 0, .ro, 0x0⟩]⟩]

/-- Registers of CIS0. -/
def regsCIS0 : List RegDesc :=
  [
    ⟨0x0, 1, [⟨1, 1, .rw, 0x1⟩, ⟨0, 0, .rwl, 0x0⟩]⟩,
    ⟨0x10, 1, [⟨40, 40, .ro, 0x0⟩, ⟨38, 38, .ro, 0x0⟩, ⟨37, 32, .ro, 0x0⟩, ⟨15, 0, .ro, 0x8000⟩]⟩,
    ⟨0x28, 1, [⟨7, 0, .rw, 0x18⟩]⟩,
    ⟨0x30, 1, [⟨31, 16, .rw, 0x3e8⟩, ⟨7, 0, .rw, 0x4⟩]⟩,
    ⟨0x400, 1, [⟨15, 8, .rwx, 0x1⟩, ⟨7, 0, .rwx, 0x1⟩]⟩,
    ⟨0x300, 1, [⟨63, 0, .ro, 0x0⟩]⟩,
    ⟨0x308, 1, [⟨63, 0, .ro, 0x0⟩]⟩]

/-- Registers of CIS. -/
def regsCIS : List RegDesc :=
  [
    ⟨0x8, 1, [⟨39, 32, .ro, 0x0⟩, ⟨21, 16, .ro, 0x0⟩, ⟨1, 0, .ro, 0x0⟩]⟩,
    ⟨0x18, 1, [⟨31, 0, .ro, 0x0⟩]⟩,
    ⟨0x20, 1, [⟨12, 8, .wo, 0x0⟩, ⟨1, 0, .wo, 0x0⟩]⟩,
    ⟨0x38, 1, [⟨2, 2, .w1c, 0x0⟩, ⟨1, 1, .w1c, 0x0⟩, ⟨0, 0, .w1c, 0x0⟩]⟩,
    ⟨0x100, 32, [⟨63, 0, .ro, 0x0⟩]⟩,
    ⟨0x200, 32, [⟨63, 0, .ro, 0x0⟩]⟩]

/-- Registers of GRD. -/
def regsGRD : List RegDesc :=
  [
    ⟨0x0, 1, [⟨2, 1, .ro, 0x0⟩, ⟨0, 0, .ro, 0x0⟩]⟩,
    ⟨0x8, 1, [⟨45, 0, .ro, 0x0⟩]⟩,
    ⟨0x10, 1, [⟨21, 16, .ro, 0x0⟩, ⟨13, 13, .ro, 0x0⟩, ⟨12, 12, .ro, 0x0⟩, ⟨11, 11, .ro, 0x0⟩, ⟨9, 8, .ro, 0x0⟩, ⟨7, 0, .ro, 0x0⟩]⟩,
    ⟨0x18, 1, [⟨5, 4, .wo, 0x0⟩, ⟨1, 0, .wo, 0x0⟩]⟩,
    ⟨0x20, 1, [⟨0, 0, .w1s, 0x0⟩]⟩,
    ⟨0x400, 256, [⟨63, 58, .rwx, 0x0⟩, ⟨57, 52, .rwx, 0x0⟩, ⟨51, 51, .rwx, 0x0⟩, ⟨50, 50, .rwx, 0x0⟩, ⟨49, 49, .rwx, 0x0⟩, ⟨48, 48, .rwx, 0x0⟩, ⟨47, 47, .rwx, 0x0⟩, ⟨46, 46, .rwx, 0x0⟩, ⟨45, 12, .rwx, 0x0⟩, ⟨0, 0, .rwx, 0x0⟩]⟩,
    ⟨0x100, 1, [⟨63, 0, .ro, 0x0⟩]⟩]

/-- Registers of PWR. -/
def regsPWR : List RegDesc :=
  [
    ⟨0x300, 1, [⟨63, 0, .rwl, 0xffffffffffffffff⟩]⟩,
    ⟨0x308, 1, [⟨31, 0, .rwl, 0xffffffff⟩]⟩,
    ⟨0x0, 1, [⟨7, 0, .ro, 0x0⟩]⟩,
    ⟨0x8, 1, [⟨63, 32, .ro, 0x0⟩, ⟨31, 24, .ro, 0x0⟩, ⟨23, 16, .ro, 0x0⟩, ⟨3, 2, .ro, 0x0⟩, ⟨1, 0, .ro, 0x0⟩]⟩,
    ⟨0x10, 1, [⟨52, 48, .wo, 0x0⟩, ⟨45, 2, .wo, 0x0⟩]⟩,
    ⟨0x18, 1, [⟨9, 8, .wo, 0x0⟩, ⟨6, 0, .wo, 0x0⟩]⟩,
    ⟨0x20, 1, [⟨63, 0, .ro, 0x0⟩]⟩,
    ⟨0x28, 1, [⟨63, 0, .ro, 0x0⟩]⟩,
    ⟨0x30, 1, [⟨63, 0, .ro, 0x0⟩]⟩,
    ⟨0x38, 1, [⟨2, 2, .w1c, 0x0⟩, ⟨1, 1, .w1c, 0x0⟩, ⟨0, 0, .w1c, 0x0⟩]⟩,
    ⟨0x40, 1, [⟨45, 16, .rwl, 0x0⟩, ⟨0, 0, .rwl, 0x0⟩]⟩,
    ⟨0x48, 1, [⟨63, 0, .wo, 0x0⟩]⟩,
    ⟨0x50, 1, [⟨63, 0, .w1c, 0x0⟩]⟩,
    ⟨0x58, 1, [⟨10, 8, .wo, 0x0⟩, ⟨7, 4, .ro, 0x0⟩, ⟨3, 0, .ro, 0x0⟩]⟩,
    ⟨0x60, 1, [⟨63, 32, .ro, 0x0⟩, ⟨31, 0, .ro, 0x0⟩]⟩,
    ⟨0x68, 1, [⟨63, 48, .ro, 0x0⟩, ⟨47, 32, .ro, 0x0⟩, ⟨31, 16, .rwl, 0x370⟩, ⟨15, 0, .rwl, 0x2bc⟩]⟩,
    ⟨0x70, 1, [⟨15, 0, .wo, 0x0⟩]⟩,
    ⟨0x400, 1, [⟨6, 0, .rwx, 0x40⟩]⟩,
    ⟨0x100, 1, [⟨63, 0, .ro, 0x0⟩]⟩,
    ⟨0x108, 1, [⟨63, 0, .ro, 0x0⟩]⟩,
    ⟨0x110, 1, [⟨63, 0, .ro, 0x0⟩]⟩]

/-- Registers of CLK. -/
def regsCLK : List RegDesc :=
  [
    ⟨0x300, 1, [⟨63, 0, .rwl, 0xffffffffffffffff⟩]⟩,
    ⟨0x308, 1, [⟨19, 0, .rwl, 0xfffff⟩]⟩,
    ⟨0x0, 16, [⟨15, 8, .ro, 0x16⟩, ⟨7, 0, .rw, 0x16⟩]⟩]

/-- Registers of HUB. -/
def regsHUB : List RegDesc :=
  [
    ⟨0x0, 1, [⟨9, 0, .rw, 0x20⟩]⟩,
    ⟨0x8, 1, [⟨63, 60, .ro, 0x0⟩, ⟨59, 59, .w1c, 0x0⟩, ⟨58, 58, .ro, 0x0⟩, ⟨57, 52, .ro, 0x0⟩, ⟨51, 51, .ro, 0x0⟩, ⟨41, 41, .wo, 0x0⟩, ⟨40, 36, .rw, 0x0⟩, ⟨35, 34, .rw, 0x1⟩, ⟨33, 31, .rw, 0x0⟩, ⟨0, 0, .rw, 0x0⟩]⟩,
    ⟨0x10, 1, [⟨9, 0, .wo, 0x0⟩]⟩,
    ⟨0x18, 1, [⟨12, 8, .wo, 0x0⟩, ⟨2, 0, .wo, 0x0⟩]⟩,
    ⟨0x100, 1, [⟨63, 0, .ro, 0x0⟩]⟩,
    ⟨0x108, 1, [⟨63, 0, .ro, 0x0⟩]⟩]

/-- Registers of SPT. -/
def regsSPT : List RegDesc :=
  [
    ⟨0x0, 1, [⟨39, 30, .ro, 0x3ff⟩, ⟨29, 20, .ro, 0x3ff⟩, ⟨19, 10, .ro, 0x3ff⟩, ⟨9, 0, .ro, 0x3ff⟩]⟩,
    ⟨0x10, 1, [⟨63, 32, .rw, 0x0⟩, ⟨31, 0, .rw, 0x0⟩]⟩,
    ⟨0x18, 1, [⟨63, 32, .rw, 0x0⟩, ⟨31, 0, .rw, 0x0⟩]⟩,
    ⟨0x20, 1, [⟨63, 0, .w1c, 0x0⟩]⟩,
    ⟨0x100, 32, [⟨63, 60, .ro, 0x0⟩, ⟨59, 59, .w1c, 0x0⟩, ⟨41, 41, .wo, 0x0⟩, ⟨36, 36, .rw, 0x0⟩, ⟨35, 34, .rw, 0x0⟩, ⟨33, 31, .ro, 0x0⟩, ⟨0, 0, .rw, 0x0⟩]⟩,
    ⟨0x200, 1, [⟨63, 0, .ro, 0x0⟩]⟩,
    ⟨0x208, 1, [⟨63, 0, .ro, 0x0⟩]⟩,
    ⟨0x210, 1, [⟨63, 0, .ro, 0x0⟩]⟩,
    ⟨0x218, 1, [⟨63, 0, .ro, 0x0⟩]⟩,
    ⟨0x220, 1, [⟨63, 0, .ro, 0x0⟩]⟩]

/-- Registers of CRN. -/
def regsCRN : List RegDesc :=
  [
    ⟨0x0, 1, [⟨6, 0, .rw, 0x4⟩]⟩,
    ⟨0x8, 1, [⟨19, 16, .ro, 0x0⟩, ⟨11, 8, .ro, 0x0⟩, ⟨1, 1, .ro, 0x0⟩, ⟨0, 0, .ro, 0x0⟩]⟩,
    ⟨0x10, 1, [⟨4, 4, .wo, 0x0⟩, ⟨3, 0, .wo, 0x0⟩]⟩,
    ⟨0x18, 1, [⟨3, 3, .w1c, 0x0⟩, ⟨2, 2, .w1c, 0x0⟩, ⟨1, 1, .w1c, 0x0⟩, ⟨0, 0, .w1c, 0x0⟩]⟩,
    ⟨0x20, 1, [⟨63, 32, .ro, 0x0⟩, ⟨31, 0, .ro, 0x0⟩]⟩,
    ⟨0x400, 1, [⟨0, 0, .rwx, 0x0⟩]⟩,
    ⟨0x100, 1, [⟨63, 0, .ro, 0x0⟩]⟩,
    ⟨0x108, 1, [⟨63, 0, .ro, 0x0⟩]⟩,
    ⟨0x110, 1, [⟨63, 0, .ro, 0x0⟩]⟩,
    ⟨0x118, 1, [⟨63, 0, .ro, 0x0⟩]⟩]

/-- Registers of ERR. -/
def regsERR : List RegDesc :=
  [
    ⟨0x0, 1, [⟨31, 31, .w1c, 0x0⟩, ⟨30, 30, .w1c, 0x0⟩, ⟨20, 16, .ro, 0x0⟩, ⟨4, 0, .ro, 0x0⟩]⟩,
    ⟨0x10, 1, [⟨63, 63, .ro, 0x0⟩, ⟨62, 62, .ro, 0x0⟩, ⟨61, 61, .ro, 0x0⟩, ⟨55, 48, .ro, 0x0⟩, ⟨47, 46, .ro, 0x0⟩, ⟨15, 0, .ro, 0x0⟩]⟩,
    ⟨0x18, 1, [⟨63, 48, .ro, 0x0⟩, ⟨41, 36, .ro, 0x0⟩, ⟨35, 35, .ro, 0x0⟩, ⟨27, 24, .ro, 0x0⟩, ⟨15, 0, .ro, 0x0⟩]⟩,
    ⟨0x20, 1, [⟨45, 0, .ro, 0x0⟩]⟩,
    ⟨0x28, 1, [⟨63, 32, .ro, 0x0⟩, ⟨31, 0, .ro, 0x0⟩]⟩,
    ⟨0x30, 1, [⟨15, 0, .wo, 0x0⟩]⟩,
    ⟨0x38, 1, [⟨0, 0, .rwl, 0x1⟩]⟩,
    ⟨0x100, 1, [⟨63, 0, .ro, 0x0⟩]⟩,
    ⟨0x108, 1, [⟨63, 0, .ro, 0x0⟩]⟩,
    ⟨0x110, 1, [⟨63, 0, .ro, 0x0⟩]⟩]

/-- Registers of DTB. -/
def regsDTB : List RegDesc :=
  [
    ⟨0x0, 1, [⟨63, 32, .rw, 0x0⟩]⟩,
    ⟨0x8, 1, [⟨47, 0, .rw, 0x0⟩]⟩,
    ⟨0x10, 1, [⟨31, 0, .rw, 0x0⟩]⟩,
    ⟨0x18, 1, [⟨63, 32, .ro, 0x0⟩, ⟨31, 16, .ro, 0x0⟩]⟩,
    ⟨0x20, 1, [⟨47, 0, .ro, 0x0⟩]⟩,
    ⟨0x28, 1, [⟨2, 2, .w1c, 0x0⟩, ⟨1, 1, .w1c, 0x0⟩, ⟨0, 0, .w1c, 0x0⟩]⟩,
    ⟨0x100, 1, [⟨63, 0, .ro, 0x0⟩]⟩]

/-- Registers of DBG. -/
def regsDBG : List RegDesc :=
  [
    ⟨0x0, 1, [⟨11, 0, .ro, 0x0⟩]⟩,
    ⟨0x8, 1, [⟨31, 31, .w1s, 0x0⟩, ⟨12, 0, .rw, 0x0⟩]⟩,
    ⟨0x10, 1, [⟨63, 0, .ro, 0x0⟩]⟩,
    ⟨0x18, 1, [⟨63, 0, .ro, 0x0⟩]⟩,
    ⟨0x20, 1, [⟨4, 0, .rw, 0x0⟩]⟩,
    ⟨0x28, 1, [⟨1, 0, .wo, 0x0⟩]⟩,
    ⟨0x30, 1, [⟨15, 8, .ro, 0x0⟩, ⟨2, 2, .w1c, 0x0⟩, ⟨1, 0, .ro, 0x0⟩]⟩,
    ⟨0x38, 1, [⟨63, 32, .wo, 0x0⟩, ⟨31, 0, .wo, 0x0⟩]⟩,
    ⟨0x40, 1, [⟨63, 0, .rw, 0x0⟩]⟩,
    ⟨0x80, 6, [⟨63, 62, .rw, 0x0⟩, ⟨47, 2, .rw, 0x0⟩]⟩]

/-- Registers of TRC. -/
def regsTRC : List RegDesc :=
  [
    ⟨0x0, 1, [⟨12, 8, .rw, 0x0⟩, ⟨5, 4, .rw, 0x1⟩, ⟨3, 2, .rw, 0x0⟩, ⟨0, 0, .rw, 0x0⟩]⟩,
    ⟨0x8, 1, [⟨31, 0, .rw, 0x0⟩]⟩,
    ⟨0x10, 1, [⟨63, 63, .rw, 0x1⟩, ⟨61, 56, .rw, 0x0⟩, ⟨45, 12, .rw, 0x0⟩]⟩,
    ⟨0x18, 1, [⟨45, 12, .rw, 0x0⟩, ⟨0, 0, .rw, 0x0⟩]⟩,
    ⟨0x20, 1, [⟨63, 63, .ro, 0x0⟩, ⟨45, 0, .ro, 0x0⟩]⟩,
    ⟨0x28, 1, [⟨2, 2, .w1c, 0x0⟩, ⟨1, 1, .w1c, 0x0⟩, ⟨0, 0, .w1c, 0x0⟩]⟩,
    ⟨0x100, 1, [⟨63, 0, .ro, 0x0⟩]⟩,
    ⟨0x108, 1, [⟨63, 0, .ro, 0x0⟩]⟩]

/-- The register tables that the block at an index of R22 holds; `none` where no block is assigned. -/
def blockTables (b : Nat) : Option (List (List RegDesc)) :=
  if b = 0 then some [regsRDY, regsALL]
  else if b = 1 then some [regsPWR, regsALL]
  else if b = 2 then some [regsCLK, regsALL]
  else if b = 3 then some [regsDTB, regsALL]
  else if b = 4 then some [regsERR, regsALL]
  else if b = 5 then some [regsBIT, regsALL]
  else if b = 6 then some [regsSLU, regsALL]
  else if b = 7 then some [regsSPP, regsALL]
  else if b = 8 then some [regsSA, regsALL]
  else if b = 9 then some [regsSPL, regsALL]
  else if b = 10 then some [regsCIS, regsCIS0, regsALL]
  else if b = 11 then some [regsCIS, regsALL]
  else if b = 12 then some [regsRDG, regsRDG0, regsALL]
  else if b < 16 then some [regsRDG, regsALL]
  else if b = 16 then some [regsTRC, regsALL]
  else if b = 17 then some [regsDBG, regsALL]
  else if b < 32 then none
  else if b < 64 then some [regsPRT, regsALL]
  else if b < 96 then some [regsMAC, regsMACSPP, regsALL]
  else if b < 98 then some [regsMAC, regsMG, regsALL]
  else if b < 128 then none
  else if b < 136 then some [regsCAS, regsALL]
  else if b = 136 then some [regsJET, regsJET0, regsALL]
  else if b < 146 then some [regsJET, regsALL]
  else if b < 192 then none
  else if b < 256 then some [regsALL]
  else if b = 256 then some [regsPW, regsPW0, regsALL]
  else if b < 288 then some [regsPW, regsALL]
  else if b < 352 then some [regsBW, regsALL]
  else if b < 384 then some [regsPOL, regsALL]
  else if b < 416 then some [regsTRN, regsALL]
  else if b < 432 then some [regsCRN, regsALL]
  else if b < 464 then some [regsSPT, regsALL]
  else if b = 464 then some [regsHUB, regsALL]
  else if b < 512 then none
  else if b < 625 then some [regsGRD, regsALL]
  else none

/-- Whether a register table row covers the register at a byte offset. -/
def RegDesc.covers (d : RegDesc) (off : Nat) : Bool :=
  decide (d.off ≤ off) && decide (off < d.off + 8 * d.count) && decide ((off - d.off) % 8 = 0)

/-- The fields of the register at a byte offset of a block; empty where the block or the register is absent. -/
def fieldsAt (b off : Nat) : List FieldDesc :=
  match blockTables b with
  | none => []
  | some ts =>
    match (ts.flatten).find? (fun d => d.covers off) with
    | none => []
    | some d => d.fields

/-- Bits `hi` to `lo` set in a 64-bit word. -/
def maskBits (hi lo : Nat) : BitVec 64 := ((BitVec.allOnes 64) >>> (63 - (hi - lo))) <<< lo

/-- The reset value the register tables give a register, FUNC_ID.INDEX (R25) and the role of a management
port (MAC_STATUS.ROLE) included. -/
def resetWord (b off : Nat) : BitVec 64 :=
  if off = 0x3F0 then BitVec.ofNat 64 (0xB00000 + b)
  else if (b = 96 ∨ b = 97) ∧ off = 0x010 then BitVec.ofNat 64 0x800F0000
  else (fieldsAt b off).foldl (fun w d => w ||| (BitVec.ofNat 64 d.reset <<< d.lo)) 0

end Sys2Proof.Machine
end

