-- ==== Sys2Proof/Machine/SysTypes.lean ====
section
/-! DEFINITION. Plain-data types of the error queue (17_fault_tolerance.md R330), the event queues
(06_jets_and_macsec.md R132, 09_ridge_links.md R176), fuses and pins (18_bringup_power.md R338, R342,
19_debug_trace.md R352), the boot progress (R338-R341), the time base (R347, R348) and adaptive voltage (R350). -/

namespace Sys2Proof.Machine

/-- An occupied error record slot (R330); `isNew` is state NEW, otherwise READ. -/
structure ErrRec where
  seq : Nat
  isNew : Bool
  cls : Nat
  esc : Bool
  lostBefore : Bool
  info : BitVec 16
  basin : BasinId
  world : World
  kind : Nat
  index : Nat
  addr : Nat
  ns : Nat
  sec : Nat
  deriving DecidableEq, Repr

/-- An entry of a basin's SA event queue (R132). -/
structure SaEvt where
  kind : Nat
  sc : Nat
  an : BitVec 2
  ns : Nat
  deriving DecidableEq, Repr

/-- A basin's SA event queue, and whether an event was lost since an entry was last read (R132). -/
structure SaEvq where
  q : List SaEvt
  lost : Bool
  deriving DecidableEq, Repr

/-- A doorbell in a core's queue (R176). -/
structure Doorbell where
  world : World
  device : Nat
  basin : BasinId
  value : BitVec 16
  deriving DecidableEq, Repr

/-- A core's doorbell queue, and whether a doorbell was lost since an entry was last read (R176). -/
structure Dbq where
  q : List Doorbell
  lost : Bool
  deriving DecidableEq, Repr

/-- The fuses: device identity (SPP_ID), minimum versions, owner key slots (R342), debug denials (R352). -/
structure Fuses where
  id : Word
  bitSvnMin : BitVec 32
  bootSvnMin : BitVec 32
  digests : Vector (BitVec 384) 4
  programmed : BitVec 4
  revoked : BitVec 4
  deny : BitVec 12
  deriving DecidableEq, Repr

/-- Levels of the low-speed pins the model samples or drives (R338, R167, R379, R383): `thermtripLow` is the
THERMTRIP_N output at 0, `bscan` the outputs held by the boundary scan register. -/
structure Pins where
  grpEn : Bool
  grpId : BitVec 3
  bootSrc : BitVec 2
  thermtripLow : Bool
  deriving DecidableEq, Repr

/-- Where the boot sequence of R341 stands. -/
inductive BootPhase where
  | inReset
  | waitCistern
  | streaming
  | waitJtag
  | stopped
  | imageOk
  | running
  deriving DecidableEq, Repr

/-- The boot progress: phase, the image being streamed, and what the accepted image's header gave (R339, R341). -/
structure Boot where
  phase : BootPhase
  image : List Byte
  entry : Word
  bitOff : Nat
  bitLen : Nat
  deriving DecidableEq, Repr

/-- The device time base (R347, R348): time in units of 2^-16 ns, the remainder of the rate change, and a scheduled
step with the time it is to set. `ticks` counts the nanoseconds of the model's own clock, which a step of the time
base does not move. -/
structure TimeBase where
  now : Nat
  ticks : Nat
  adjRem : Int
  step : Option Nat
  stepTick : Nat
  ppsTick : Option Nat
  deriving DecidableEq, Repr

/-- Adaptive voltage control (R350): the voltage commanded in mV, transactions failed in a row, failed. -/
structure Avs where
  cmd : Nat
  fails : Nat
  failed : Bool
  lastCmdTick : Nat
  deriving DecidableEq, Repr

/-- Per pseudo-channel history of counted errors (R272): pseudo-channel and tick of each. -/
structure CisLog where
  ce : List (Nat × Nat)
  ue : List (Nat × Nat)
  mute : List (Nat × Nat)
  filled : Bool
  deriving DecidableEq, Repr

end Sys2Proof.Machine
end

