-- ==== Sys2Proof/Machine/CfgTypes.lean ====
section
/-! DEFINITION. Plain-data types of the structural bitstream (04_structural_bitstream.md R69-R76), of the Sluice's
stages and transactions (08_sluice_commit.md R145-R160) and of a bitstream load in progress (R77-R84). -/

namespace Sys2Proof.Machine

/-- A MAC record of the platform section (R74). -/
structure MacRec where
  idx : Nat
  bound : Bool
  line : Bool
  base : Nat
  width : Nat
  owner : BasinId
  channels : BitVec 8
  deriving DecidableEq, Repr

/-- A member entry of a CHANNEL record (R74). -/
structure MemberRec where
  basin : BasinId
  baseRow : Nat
  rows : Nat
  deriving DecidableEq, Repr

/-- A CHANNEL record (R74). -/
structure ChanRec where
  ch : Nat
  owner : BasinId
  failover : BitVec 8
  members : List MemberRec
  deriving DecidableEq, Repr

/-- A JET record (R74). -/
structure JetRec where
  idx : Nat
  spare : Bool
  basins : BitVec 64
  deriving DecidableEq, Repr

/-- A PAIR record (R74). -/
structure PairRec where
  idx : Nat
  locked : Bool
  sok : Bool
  basins : BitVec 64
  deriving DecidableEq, Repr

/-- A SOURCE record (R74). -/
structure SrcRec where
  first : Nat
  count : Nat
  owner : BasinId
  world : World
  target : CoreId
  deriving DecidableEq, Repr

/-- A BASIN record (R74). -/
structure BasinRec where
  basin : BasinId
  present : Bool
  saQuota : Nat
  scQuota : Nat
  reloadKey : BitVec 384
  deriving DecidableEq, Repr

/-- An MGDMA record (R74). -/
structure MgRec where
  idx : Nat
  world : World
  basin : BasinId
  deriving DecidableEq, Repr

/-- The platform section in force (R74); empty lists are the absent records of its last column. -/
structure Platform where
  macs : List MacRec
  chans : List ChanRec
  jets : List JetRec
  pairs : List PairRec
  srcs : List SrcRec
  basins : List BasinRec
  mgs : List MgRec
  links : List Nat
  deriving DecidableEq, Repr

/-- Table kinds (R75). -/
inductive TableKind where
  | exact
  | ternary
  | direct
  | graph
  deriving DecidableEq, Repr

/-- A table of a basin on a tier (R75, R76) with the rows that are not all zero. -/
structure TableDef where
  tier : Nat
  id : Nat
  kind : TableKind
  keyBits : Nat
  entryBytes : Nat
  baseRow : Nat
  rows : Nat
  data : List (Nat × List Byte)
  deriving DecidableEq, Repr

/-- The configuration of one basin: the functions of the tiers of its channels (8 codes of R75 per TIER_FUNC record)
and its tables. -/
structure BasinCfg where
  basin : BasinId
  chains : List (Nat × List Nat)
  tables : List TableDef
  generation : Nat
  deriving DecidableEq, Repr

/-- A staged table row (R149 KIND 1). -/
structure StagedRow where
  basin : BasinId
  tier : Nat
  id : Nat
  row : Nat
  image : List Byte
  deriving DecidableEq, Repr

/-- A staged SA command (R115): its OP, its checked command block, and the SC and key bytes it carries. -/
structure StagedSa where
  op : Nat
  block : List Byte
  basin : BasinId
  deriving DecidableEq, Repr

/-- Edges of a Sluice transaction (R156): a line MAC, a ridge link, a device of the board group. -/
inductive Edge where
  | mac (m : PortId)
  | rl (l : LinkId)
  | dev (n : Fin 8)
  deriving DecidableEq, Repr

/-- The release scopes (R148). -/
inductive Scope where
  | localS
  | group
  | domain
  deriving DecidableEq, Repr

/-- A stage's content and course (R145-R160); its handle, owner, state, cause and marks stand in SLU_STAGEk. `die` and
`ext` are the bytes it holds on die and in the area (R147); `rowCount` counts its rows; times are in units of 2^-16 ns. -/
structure Stage where
  rows : List StagedRow
  rowCount : Nat
  weir : List (Nat × Nat × Word)
  sa : List StagedSa
  cfgs : List BasinCfg
  die : Nat
  ext : Nat
  scope : Scope
  arm : Bool
  txn : Nat
  origin : Nat
  atTime : Bool
  t : Nat
  parts : Nat
  due : Option Nat
  sealTick : Nat
  edges : List (Edge × Bool)
  yes : Nat
  no : Nat
  deadline : Nat
  guardT : Nat
  deriving DecidableEq, Repr

/-- A transaction record of R160; `stage` names the local stage and its handle, an edge is marked once its VOTE has come
or it has gone down. -/
structure TxnRec where
  origin : Nat
  txn : Nat
  t : Nat
  g : Nat
  deadline : Nat
  up : Edge
  edges : List (Edge × Bool)
  yes : Nat
  no : Nat
  firstNo : Nat
  noCause : Nat
  stage : Option (StageId × Nat)
  voted : Bool
  decided : Bool
  deriving DecidableEq, Repr

/-- A command waiting at the Sluice or at the SA block (R113, R148): block address, stage handle, issuer. -/
structure QCmd where
  addr : Nat
  handle : Nat
  acc : Access
  deriving DecidableEq, Repr

/-- A bitstream load in progress (R82): the issuer, the stage handle, the file's address and length. -/
structure BitLoad where
  acc : Access
  handle : Nat
  src : Nat
  len : Nat
  deriving DecidableEq, Repr

end Sys2Proof.Machine
end

