-- ==== Sys2Proof/Machine/FrameTypes.lean ====
section
/-! DEFINITION. Plain-data types of the ports (02_ports_and_lanes.md R34-R50), SPP sessions (03_peer_negotiation.md
R52-R67), frames and their descriptors (05_cascade_fabric.md R85-R103), secure channels and associations
(06_jets_and_macsec.md R111-R126), jets and weirs (07_weirs.md R134-R143). -/

namespace Sys2Proof.Machine

/-- A token bucket (R138, R142): content in units of 1/8000 byte, and the tick it was last filled at. -/
structure Bucket where
  have_ : Int
  last : Nat
  deriving DecidableEq, Repr

/-- An SPP key slot of a line MAC (R56, R57): the transmit and the receive key, the last SEQ sent and the highest SEQ
accepted. -/
structure KeySlot where
  valid : Bool
  tx : List Byte
  rx : List Byte
  txSeq : Nat
  rxHigh : Nat
  deriving DecidableEq, Repr

/-- An SPP message as R54 lays it out, after its checks; `at_` is the receive timestamp (R388). -/
structure SppMsg where
  ty : Nat
  sender : Nat
  target : Nat
  session : Nat
  payload : List Byte
  at_ : Nat
  deriving DecidableEq, Repr

/-- A message waiting in the SPP transmit slot (R53): its type, TARGET, SESSION and payload; a BEAT's payload is made as
it leaves (R55). -/
structure SppOut where
  ty : Nat
  target : Nat
  session : Nat
  payload : List Byte
  deriving DecidableEq, Repr

/-- An SPP session (R52, R58-R67); STATE, PEER, RTT and what the status shows stand in the MAC block. `pref`, `floor`,
`beat` and `sciReq` are the values of the last entry to DISCOVER (R67); `heard` is the last peer heard (R54). -/
structure Sess where
  inbox : List SppMsg
  begun : Bool
  attempt : Nat
  peerAttempt : Nat
  peerBeat : Nat
  heard : Nat
  pref : Word
  floor : Nat
  beat : Nat
  sciReq : Bool
  offer : List Byte
  select : List Byte
  steps : Nat
  missed : Nat
  beatGot : Bool
  echo : Nat
  echoAt : Nat
  seq : Nat
  armed : Bool
  deriving DecidableEq, Repr

/-- An entry of the transmit timestamp FIFO (R47). -/
structure TxTs where
  ts : Nat
  seqId : Nat
  msgType : Nat
  domain : Nat
  deriving DecidableEq, Repr

/-- A frame that a management DMA has received, or sends, with its timestamp (R50). -/
structure MgFrame where
  bytes : List Byte
  ts : Nat
  tsReq : Bool
  deriving DecidableEq, Repr

/-- What a MAC, its weir and its SPP engine hold beside their registers: modes removed for training failure and the
failures in a row (R35), a flow-control frame waiting to be sent (R44), the frame on the wire and the one picked
(R39), the SPP transmit slot (R53), timestamps (R47), the account triggers (R140), deficits and shaper buckets (R137,
R138), key slots and session, and a management port's received frames and frame being sent (R50). -/
structure Mac where
  removed : BitVec 13
  fails : Nat
  fcDue : Bool
  tx : Option Nat
  next : Option Nat
  slot : List SppOut
  txts : List TxTs
  acct : BitVec 8
  deficit : Vector Nat 8
  credited : BitVec 8
  cur : Fin 8
  qBucket : Vector Bucket 8
  pBucket : Bucket
  keys : Vector KeySlot 2
  sess : Sess
  mgRx : List MgFrame
  mgTx : Option MgFrame
  deriving DecidableEq, Repr

/-- The frame descriptor (R88). Cell addresses are not kept: how many cells of each bank a frame holds is. -/
structure Desc where
  hdr : Nat
  len : Nat
  port : PortId
  inject : Bool
  dec : Bool
  basin : BasinId
  ts : Nat
  sc : Option Nat
  prio : Nat
  epoch : Bool
  out : Option PortId
  action : Nat
  tsreq : Bool
  onestep : Bool
  sectag : Bool
  mkpdu : Bool
  offL3 : Nat
  offL4 : Nat
  offSec : Nat
  nodes : Nat
  accepted : Bool
  meterId : Nat
  editIdx : Nat
  colour : Nat
  reason : Nat
  next : Nat
  key : List Byte
  deriving DecidableEq, Repr

/-- A jet request (R119, R128): the SA it was made for, the packet number and what the jet needs. -/
structure JetReq where
  uid : Nat
  sc : Nat
  an : Nat
  pn : Nat
  key : List Byte
  iv : List Byte
  mode : Nat
  tag : List Byte
  deriving DecidableEq, Repr

/-- Where a frame stands: waiting for intake, at a tier, waiting there for an SA fetch, waiting for the crossbar, in a
jet, waiting for rejoin, or in a queue of its egress MAC; picked and transmitted frames are named by their MAC. -/
inductive Loc where
  | wait
  | tier (t : TierId)
  | fetch (t : TierId)
  | cross
  | jet (j : JetId)
  | rejoin
  | queue (m : PortId) (q : Fin 8)
  | out (m : PortId)
  deriving DecidableEq, Repr

/-- The deep path of a queued frame (R98): express, write requested, in the cistern, read requested, staged. -/
inductive Deep where
  | express
  | toWrite
  | stored
  | toRead
  | staged
  deriving DecidableEq, Repr

/-- A frame in the device, oldest first in State.frames. `acct` is the ingress priority it is counted under (R139),
`cells` and `outCells` the cells it holds in each bank (R100, R327), `obytes` its output (R98); `again` marks a replay on a jet (R128), `chReplay` one through
a failover channel (R324), `lent` a frame that a borrower sends through this MAC (R177). -/
structure Frame where
  id : Nat
  bytes : List Byte
  ch : ChanId
  loc : Loc
  d : Desc
  acct : Option (Fin 8)
  cells : List Nat
  outCells : List Nat
  req : Option JetReq
  jseq : Nat
  again : Bool
  flip : Bool
  icvBad : Bool
  plain : List Byte
  vok : Bool
  edit : List Byte
  obytes : List Byte
  deep : Deep
  deepAt : Nat
  lent : Bool
  chReplay : Bool
  deriving DecidableEq, Repr

/-- An SA as configured (R114, R115); `uid` names its running state. -/
structure SaCfg where
  an : BitVec 2
  uid : Nat
  key : List Byte
  ssci : List Byte
  salt : List Byte
  pn0 : Nat
  notAfter : Option Nat
  deriving DecidableEq, Repr

/-- A secure channel as configured (R114, R115). -/
structure Sc where
  sc : Nat
  basin : BasinId
  rx : Bool
  mac : PortId
  mode : Nat
  flags : BitVec 8
  sci : List Byte
  window : Nat
  encAn : BitVec 2
  sas : List SaCfg
  deriving DecidableEq, Repr

/-- The running state of an SA, shared by both epochs (R117): the next PN not leased, H and L, the counts, and the
events already posted. -/
structure SaRun where
  uid : Nat
  ctr : Nat
  h : Int
  l : Nat
  pkts : Nat
  octets : Nat
  late : Nat
  notValid : Nat
  warned : Bool
  exhausted : Bool
  retired : Bool
  deriving DecidableEq, Repr

/-- A PN lease of an A tier (R119). -/
structure Lease where
  tier : TierId
  uid : Nat
  next : Nat
  stop : Nat
  deriving DecidableEq, Repr

/-- What a channel holds beside CAS_STATUS (R108, R325). -/
structure Chan where
  lastJet : JetId
  quiescing : Bool
  testing : Bool
  deriving DecidableEq, Repr

/-- A request to the deep mover (R142). -/
structure MoveReq where
  frame : Nat
  basin : BasinId
  read : Bool
  deriving DecidableEq, Repr

/-- The deep mover's round robin (R142). -/
structure Mover where
  reqs : List MoveReq
  cur : BasinId
  credited : Bool
  deficit : List (Nat × Nat)
  buckets : List (Nat × Bucket)
  moved : List (Nat × Nat × Nat)
  deriving DecidableEq, Repr

/-- The bucket pair of a meter row (R96), in units of 1/8000 byte, and the tick of its last update. -/
structure Meter where
  tc : Int
  tp : Int
  last : Nat
  deriving DecidableEq, Repr

/-- A meter row: whether it is the old epoch's version of a switched bank, its basin, tier, table and row. -/
structure MeterKey where
  old : Bool
  basin : BasinId
  tier : TierId
  id : Nat
  row : Nat
  deriving DecidableEq, Repr

/-- A message at the Sluice (R158, R175): the edge it came by, for a flit also its sender's index, its type 6-9, its fields and its ingress timestamp. -/
structure SluMsg where
  edge : Edge
  dev : Option (Fin 8)
  ty : Nat
  body : List Byte
  at_ : Nat
  deriving DecidableEq, Repr

/-- The trace unit of a core (R361-R363): its buffered bytes, the atoms not yet emitted (newest last), the last address
emitted and the context and VMID of the last CONTEXT, the bytes and bundles since the last SYNC and TIMESTAMP, whether packets are being discarded, and
whether its stream is under way. -/
structure TraceUnit where
  buf : List Byte
  atoms : List Bool
  addr : Word
  ctx : BitVec 38
  bytes : Nat
  bundles : Nat
  discarding : Bool
  live : Bool
  deriving DecidableEq, Repr

/-- The JTAG port (R356, R357): the instruction register, the boundary scan register, outputs in high
impedance, the DAP capture (data and status) and the result of the last certificate. -/
structure Jtag where
  ir : BitVec 8
  bscan : List Bool
  highz : Bool
  driven : Bool
  dapData : Word
  dapStatus : BitVec 2
  authCode : BitVec 8
  deriving DecidableEq, Repr

end Sys2Proof.Machine
end

