-- ==== Sys2Proof/Machine/RidgeTypes.lean ====
section
/-! DEFINITION. Plain-data types of the ridge links (09_ridge_links.md R166-R179): links, streams and unanswered
requests. -/

namespace Sys2Proof.Machine

/-- One side of a ridge link: sequence numbers, the replay buffer of 512 sequenced flits and the flits that wait for
room in it, consecutive resends, what the neighbour's last TRAIN flit said, the lanes detected here and the mode the
link last left (R168-R170, R179). -/
structure RLink where
  txSeq : BitVec 12
  rxSeq : BitVec 12
  acked : BitVec 12
  replay : List Flit
  waitq : List Flit
  resends : Nat
  gotTrain : Bool
  peerTag : BitVec 32
  peerIndex : BitVec 3
  peerAbility : BitVec 6
  peerLanes : BitVec 4
  lanes : BitVec 4
  lastMode : Nat
  deriving DecidableEq, Repr

/-- A stream that leaves through this device (R173): the flits that share SRC, DST, class and TAG, the link it uses
and when it last sent. -/
structure RStream where
  src : Nat
  dst : Nat
  cls : Nat
  tag : BitVec 16
  link : Nat
  lastTick : Nat
  deriving DecidableEq, Repr

/-- A FRAME stream's frame being put together here (R173, R177). -/
structure ROpen where
  src : Nat
  tag : BitVec 16
  bytes : List Byte
  deriving DecidableEq, Repr

/-- A ridge-window access that waits for its RSP (R174): its number, issuer, TAG, target device, OP, the place,
its region type, where its bytes stand in the result, and the link its REQ left on. -/
structure RReq where
  id : Nat
  acc : Access
  tag : BitVec 16
  dev : Nat
  op : Nat
  addr : Nat
  size : Nat
  ty : RType
  part : Nat
  va : Word
  link : Nat
  deriving DecidableEq, Repr

end Sys2Proof.Machine
end

