-- ==== Sys2Proof/Machine/OutTypes.lean ====
section
/-! DEFINITION. What leaves the device through its pins, newest first in State.out: ridge flits, frames of the line
and management MACs with what the wire shows of them, and signal events. The log is the model's own record of the
outputs (notes/assumptions/9.md); no rule reads it. -/

namespace Sys2Proof.Machine

/-- One output. -/
inductive Out where
  | flit (link : LinkId) (f : Flit)
  | frame (mac : MacId) (bytes : List Byte) (truncated : Bool)
  | ppsOut
  | trace (bytes : List Byte)
  | jtag (word : List Bool)
  | pins (bits : List Bool)
  deriving DecidableEq, Repr

end Sys2Proof.Machine
end

