-- ==== Sys2Proof/Machine/State.lean ====
section
/-! DEFINITION. The state of the block, as plain data, its reset value, and the reasons a step can stop. -/

namespace Sys2Proof.Machine

/-- No command of this model ends in a fault: the spec gives every command an effect. `none` is raised by nobody; it
keeps the type inhabited, and is safe. -/
inductive Fault where
  | none
  deriving DecidableEq, Repr

/-- Refusals. `notModelled` is answered only by an arm of exec whose command has no meaning yet (safe); no arm does. -/
inductive Refusal where
  | notModelled (mnemonic : String)
  deriving DecidableEq, Repr

/-- The state of the device. Registers live in `regs` under the key 512 × block index + offset / 8, a register not
listed holding its reset value (R11, R22); cistern and Pool SRAM bytes live in `mem`, a byte not listed reading 0. -/
structure State where
  regs : List (Nat × BitVec 64)
  rdata : Word
  mem : List (Nat × BitVec 8)
  sram : List (Nat × BitVec 8)
  spill : List (Nat × Word)
  spillGen : Nat
  poison : List Nat
  resvClean : List Nat
  cis : CisLog
  tb : TimeBase
  fuses : Fuses
  pins : Pins
  boot : Boot
  bankFenced : BitVec 4
  avs : Avs
  pwrWait : List (Nat × Nat)
  offPds : BitVec 96
  cores : Vector Core 32
  pairs : Vector Pair 16
  slices : Vector Slice 32
  srcs : List (Nat × Source)
  selOther : List (Nat × Nat)
  errs : List ErrRec
  errSeq : Nat
  errLost : Bool
  saEvts : List (Nat × SaEvq)
  dbqs : List (Nat × Dbq)
  plat : Platform
  cfgNow : List BasinCfg
  cfgOld : List BasinCfg
  epoch : Bool
  stages : Vector Stage 64
  txns : List TxnRec
  sluQ : List QCmd
  saQ : List QCmd
  bitLoad : Option BitLoad
  macs : Vector Mac 34
  chans : Vector Chan 8
  frames : List Frame
  frameSeq : Nat
  cells : Vector Nat 4
  cellTrig : Bool
  scNow : List Sc
  scOld : List Sc
  runs : List SaRun
  saUid : Nat
  leases : List Lease
  saCache : List (Nat × Nat)
  meters : List (MeterKey × Meter)
  switched : List (Nat × Nat)
  mover : Mover
  rotated : JetId
  jetTest : BitVec 10
  jetFence : BitVec 10
  sluIn : List SluMsg
  trace : Vector TraceUnit 32
  jtag : Jtag
  links : Vector RLink 4
  streams : List RStream
  ropen : List ROpen
  rreqs : List RReq
  ridgeReq : Nat
  out : List Out
  free : Nat
  stopped : Bool
  pending : List Instr
  deriving DecidableEq, Repr

/-- A handling set at reset (R284). -/
def HSet.reset : HSet := ⟨0, 0, 0, 0, 0⟩

/-- The architectural registers after core reset (R186, R187, R278, R284): state M, CTM 1 in the S copy, every cache
enabled. The g, f, acc and loop registers are undefined there; 0 at State.reset is a DESIGN CHOICE, notes/assumptions/7.md. -/
def CoreArch.reset : CoreArch :=
  { g := Vector.replicate 64 0, banks := Vector.replicate 6 0, f := Vector.replicate 32 0,
    acc := Vector.replicate 4 0, flC := false, flOV := false, fpc := 0, lpc := 0, lps := 0, lpe := 0,
    ctlS := 1, ctlN := 0, nk := HSet.reset, sk := HSet.reset, hs := HSet.reset, ms := HSet.reset,
    s1tb0N := 0, s1tb1N := 0, s1tb0S := 0, s1tb1S := 0, htb := 0, mtb := 0, s2tb := 0, vmctl := 0, mctl := 0,
    cachectl := 7, sptIe := 0, world := .S, level := .M, pc := 0 }

/-- No bundle begun. -/
def Bundle.empty : Bundle :=
  { syls := 0, nI := 0, nM := 0, nX := 0, nB := 0, alone := false, dsts := [], flWriters := 0, illegal := false, exc := none,
    writes := [], longs := [], fl := none, mem := [], bop := none, atom := none, ind := false }

/-- A core's debug logic after reset: running, nothing matched. -/
def CoreDbg.reset : CoreDbg :=
  { halt := false, halted := false, stepping := false, forced := false, errcode := 0, data := 0,
    matches_ := Vector.replicate 6 0, sel := 0, itr := none, inject := false, watched := 0 }

/-- A core after reset (R186, R228, R231, R306). -/
def Core.reset : Core :=
  { arch := CoreArch.reset, bundle := Bundle.empty, bn := 0, pend := [], ctl := [], longs := [], txSeq := 0,
    txn := none, dtbSec := 0, mb := [], l1d := [], l1i := [], l2 := [], lfsrI := 0xACE1, lfsrD := 0xACE1,
    lfsr2 := 0xACE1, tlb := [], pred := [], start := none, saved := none, deep := false, actNK := 0x3FF, actSK := 0x3FF, actH := 0x3FF,
    actM := 0x3FF, priv := [], sptSel := 32, dbg := CoreDbg.reset, undo := none, fetched := [], waiting := none }

/-- A pair after reset: as an absent PAIR record, split, S_OK = 1, B0 only (R74). -/
def Pair.reset : Pair :=
  { ckpt := none, restartBasin := 0, restartWorld := .S, basins := 1, sok := true, phase := 0 }

/-- A Pool slice after reset. -/
def Slice.reset : Slice := ⟨[], [], 0, 0⟩

/-- A stage with nothing in it. -/
def Stage.empty : Stage :=
  { rows := [], rowCount := 0, weir := [], sa := [], cfgs := [], die := 0, ext := 0, scope := .localS, arm := false, txn := 0,
    origin := 0, atTime := false, t := 0, parts := 0, due := none, sealTick := 0, edges := [], yes := 0,
    no := 0, deadline := 0, guardT := 0 }

/-- A ridge link before training (R168, R170); the first SEQ sent is 0. DESIGN CHOICE, notes/assumptions/22.md. -/
def RLink.reset : RLink :=
  { txSeq := 0, rxSeq := 0xFFF, acked := 0xFFF, replay := [], waitq := [], resends := 0, gotTrain := false,
    peerTag := 0, peerIndex := 0, peerAbility := 0, peerLanes := 0, lanes := 0, lastMode := 0 }

/-- A bucket of a shaper at its reset BURST of 16 KiB (R138). -/
def Bucket.reset : Bucket := ⟨16 * 1024 * 8000, 0⟩

/-- A session that has not left OFF (R63). -/
def Sess.reset : Sess :=
  { inbox := [], begun := false, attempt := 0, peerAttempt := 0, peerBeat := 0, heard := 0, pref := 0, floor := 0, beat := 0,
    sciReq := false, offer := [], select := [], steps := 0, missed := 0, beatGot := false, echo := 0, echoAt := 0, seq := 0,
    armed := false }

/-- A MAC that has sent and received nothing; both key slots invalid. -/
def Mac.reset : Mac :=
  { removed := 0, fails := 0, fcDue := false, tx := none, next := none, slot := [], txts := [], acct := 0,
    deficit := Vector.replicate 8 0, credited := 0, cur := 0, qBucket := Vector.replicate 8 Bucket.reset,
    pBucket := Bucket.reset, keys := Vector.replicate 2 ⟨false, [], [], 0, 0⟩, sess := Sess.reset, mgRx := [],
    mgTx := none }

/-- A channel before its first frame: it counts J9 as the jet it used last (R108). -/
def Chan.reset : Chan := ⟨9, false, false⟩

/-- The deep mover with nothing requested. -/
def Mover.reset : Mover := ⟨[], 0, false, [], [], []⟩

/-- A trace unit that has emitted nothing. -/
def TraceUnit.reset : TraceUnit := ⟨[], [], 0, 0, 0, 0, false, false⟩

/-- The TAP in Test-Logic-Reset: IDCODE is selected (R356). -/
def Jtag.reset : Jtag :=
  { ir := 1, bscan := [], highz := false, driven := false, dapData := 0, dapStatus := 0, authCode := 0 }

/-- The platform section before one is applied: every record absent (R74). -/
def Platform.empty : Platform :=
  { macs := [], chans := [], jets := [], pairs := [], srcs := [], basins := [], mgs := [], links := [] }

/-- The machine right after reset: every register at its reset value, nothing held, no time passed. Values the spec
does not give (g, f, acc, loop registers, fuses, pins, the time, the reset cause, the nonce) are those that
notes/assumptions/6.md and notes/assumptions/7.md name. -/
def State.reset : State :=
  { regs := [], rdata := 0, mem := [], sram := [], spill := [], spillGen := 0, poison := [], resvClean := [],
    cis := ⟨[], [], [], false⟩,
    tb := { now := 0, ticks := 0, adjRem := 0, step := none, stepTick := 0, ppsTick := none },
    fuses := { id := 0, bitSvnMin := 0, bootSvnMin := 0, digests := Vector.replicate 4 0, programmed := 0,
               revoked := 0, deny := 0 },
    pins := { grpEn := false, grpId := 0, bootSrc := 0, thermtripLow := false },
    boot := { phase := .waitCistern, image := [], entry := 0, bitOff := 0, bitLen := 0 },
    bankFenced := 0,
    avs := { cmd := 820, fails := 0, failed := false, lastCmdTick := 0 },
    pwrWait := [], offPds := 0,
    cores := Vector.replicate 32 Core.reset, pairs := Vector.replicate 16 Pair.reset,
    slices := Vector.replicate 32 Slice.reset,
    srcs := [], selOther := [], errs := [], errSeq := 1, errLost := false, saEvts := [], dbqs := [],
    plat := Platform.empty, cfgNow := [], cfgOld := [], epoch := false,
    stages := Vector.replicate 64 Stage.empty, txns := [], sluQ := [], saQ := [], bitLoad := none,
    macs := Vector.replicate 34 Mac.reset, chans := Vector.replicate 8 Chan.reset, frames := [], frameSeq := 0,
    cells := Vector.replicate 4 24576, cellTrig := false, scNow := [], scOld := [], runs := [], saUid := 0, leases := [],
    saCache := [], meters := [], switched := [], mover := Mover.reset, rotated := 9, jetTest := 0, jetFence := 0, sluIn := [],
    trace := Vector.replicate 32 TraceUnit.reset, jtag := Jtag.reset,
    links := Vector.replicate 4 RLink.reset, streams := [], ropen := [], rreqs := [], ridgeReq := 0, out := [], free := 0x300000, stopped := false, pending := [] }

end Sys2Proof.Machine
end

