-- ==== Sys2Proof/Machine/Ops.lean ====
section
/-! DEFINITION. The named operations over registers, readiness bits, the time base, free values and per-unit state
that every meaning is written with. -/

namespace Sys2Proof.Machine

/-! Block indexes (R22). -/
namespace Blk

def RDY : Nat := 0
def PWR : Nat := 1
def CLK : Nat := 2
def DTB : Nat := 3
def ERR : Nat := 4
def BIT : Nat := 5
def SLU : Nat := 6
def SPP : Nat := 7
def SA : Nat := 8
def SPL : Nat := 9
def CIS0 : Nat := 10
def RDG0 : Nat := 12
def TRC : Nat := 16
def DBG : Nat := 17
def HUB : Nat := 464
def PW0 : Nat := 256
def JET0 : Nat := 136
def cis (i : Nat) : Nat := 10 + i
def rdg (i : Nat) : Nat := 12 + i
def prt (i : Nat) : Nat := 32 + i
def mac (i : Nat) : Nat := 64 + i
def cas (i : Nat) : Nat := 128 + i
def jet (i : Nat) : Nat := 136 + i
def tir (i : Nat) : Nat := 192 + i
def pw (i : Nat) : Nat := 256 + i
def bw (i : Nat) : Nat := 288 + i
def pol (i : Nat) : Nat := 352 + i
def trn (i : Nat) : Nat := 384 + i
def crn (i : Nat) : Nat := 416 + i
def spt (i : Nat) : Nat := 432 + i
def grd (i : Nat) : Nat := 512 + i

end Blk

/-- The key of a register in `State.regs` (R22). -/
def regKey (b off : Nat) : Nat := 512 * b + off / 8

/-- The default of a key of `State.regs`: the register's reset value. -/
def regDefault (k : Nat) : BitVec 64 := resetWord (k / 512) (8 * (k % 512))

/-- The value a register holds. -/
def State.rget (s : State) (b off : Nat) : BitVec 64 := sparseGet (regDefault (regKey b off)) (regKey b off) s.regs

/-- A register set to a value. -/
def State.rput (s : State) (b off : Nat) (v : BitVec 64) : State :=
  { s with regs := sparsePut (regDefault (regKey b off)) (regKey b off) v s.regs }

/-- The value of a field. -/
def State.fget (s : State) (b : Nat) (f : Fld) : Nat := bits (s.rget b f.off).toNat f.hi f.lo

/-- A field set to a value, the register's other bits unchanged. -/
def State.fset (s : State) (b : Nat) (f : Fld) (v : Nat) : State :=
  s.rput b f.off
    ((s.rget b f.off &&& ~~~(maskBits f.hi f.lo)) ||| ((BitVec.ofNat 64 v <<< f.lo) &&& maskBits f.hi f.lo))

/-- A one-bit field, read as a truth value. -/
def State.flag (s : State) (b : Nat) (f : Fld) : Bool := decide (s.fget b f ≠ 0)

/-- A counter advanced by `n`; every counter wraps at 2^64 (R312 and the like). -/
def State.addCtr (s : State) (b : Nat) (f : Fld) (n : Nat) : State :=
  s.rput b f.off (s.rget b f.off + BitVec.ofNat 64 n)

/-- A counter advanced by one. -/
def State.bump (s : State) (b : Nat) (f : Fld) : State := s.addCtr b f 1

/-- Bit `i` of a field's register set, counted from the field's low bit. -/
def State.setEvt (s : State) (b : Nat) (f : Fld) (i : Nat) : State :=
  s.rput b f.off (setBit (s.rget b f.off) (f.lo + i) true)

/-! Readiness (R27): bit numbers count through RDY_BOARD0-3, 64 bits each. -/
namespace Rdy

def lane (k : Nat) : Nat := k
def mac (k : Nat) : Nat := 32 + k
def core (k : Nat) : Nat := 64 + k
def pool (h : Nat) : Nat := 96 + h
def tier (t : Nat) : Nat := 128 + t
def ch (c : Nat) : Nat := 192 + c
def jet (j : Nat) : Nat := 200 + j
def spl (b : Nat) : Nat := 210 + b
def cis (i : Nat) : Nat := 214 + i
def rl (l : Nat) : Nat := 216 + l
def mg (m : Nat) : Nat := 220 + m
def sluice : Nat := 222
def spoutHub : Nat := 223
def dtb : Nat := 224
def spp : Nat := 225
def weirs : Nat := 226
def trace : Nat := 227
def platform : Nat := 228
def bootimg : Nat := 229

end Rdy

/-- Whether a readiness bit is 1. -/
def State.ready (s : State) (n : Nat) : Bool := bitAt (s.rget Blk.RDY (8 * (n / 64))) (n % 64)

/-- A readiness bit set or cleared, with its RDY_RISE or RDY_FALL bit when it changes (R27). -/
def State.setReady (s : State) (n : Nat) (v : Bool) : State :=
  if s.ready n = v then s
  else
    let s1 := s.rput Blk.RDY (8 * (n / 64)) (setBit (s.rget Blk.RDY (8 * (n / 64))) (n % 64) v)
    let h := (if v then 0x40 else 0x60) + 8 * (n / 64)
    s1.rput Blk.RDY h (setBit (s1.rget Blk.RDY h) (n % 64) true)

/-- The readiness bit of a MAC block (R27): MAC[k] of RDY_BOARD0, MG[m] of RDY_BOARD3. -/
def Rdy.ofMac (m : MacId) : Nat := if m.val < 32 then Rdy.mac m.val else Rdy.mg (m.val - 32)

/-! The device time base (R347, R388). -/

/-- The number of units of 2^-16 ns in a second. -/
def dtbSecond : Nat := 1000000000 * 65536

/-- Seconds of the device time base, 48 bits. -/
def State.sec (s : State) : Nat := (s.tb.now / dtbSecond) % 2 ^ 48
/-- Nanoseconds of the device time base. -/
def State.ns (s : State) : Nat := (s.tb.now % dtbSecond) / 65536
/-- Fraction of the device time base. -/
def State.frac (s : State) : Nat := s.tb.now % 65536

/-- The 96-bit value of a DTB time (R388) as units of 2^-16 ns. -/
def dtbOf96 (v : Nat) : Nat := bits v 95 48 * dtbSecond + bits v 47 16 * 65536 + bits v 15 0

/-- The current time as the 96-bit value of R388. -/
def State.dtb96 (s : State) : Nat := s.sec * 2 ^ 48 + s.ns * 65536 + s.frac

/-- `n` free values drawn: the counter advances past them. -/
def State.draw (s : State) (n : Nat) : State := { s with free := s.free + n }

/-- The next word of the random number generator, and the state with the counter advanced. -/
def State.random (s : State) : Word × State := (Config.rng s.free, s.draw 1)

/-! Per-unit state. -/

def State.core (s : State) (c : CoreId) : Core := s.cores.get c
def State.setCore (s : State) (c : CoreId) (k : Core) : State := { s with cores := s.cores.set c.val k c.isLt }
def State.modCore (s : State) (c : CoreId) (f : Core → Core) : State := s.setCore c (f (s.core c))
def State.modArch (s : State) (c : CoreId) (f : CoreArch → CoreArch) : State :=
  s.modCore c (fun k => { k with arch := f k.arch })
def State.pair (s : State) (p : Fin 16) : Pair := s.pairs.get p
def State.modPair (s : State) (p : Fin 16) (f : Pair → Pair) : State :=
  { s with pairs := s.pairs.set p.val (f (s.pairs.get p)) p.isLt }
def State.slice (s : State) (h : SliceId) : Slice := s.slices.get h
def State.modSlice (s : State) (h : SliceId) (f : Slice → Slice) : State :=
  { s with slices := s.slices.set h.val (f (s.slices.get h)) h.isLt }

/-- The pair a core belongs to (R12). -/
def pairOf (c : CoreId) : Fin 16 := ⟨c.val / 2, by omega⟩
/-- T2n of a pair. -/
def evenCore (p : Fin 16) : CoreId := ⟨2 * p.val, by omega⟩
/-- T2n+1 of a pair. -/
def oddCore (p : Fin 16) : CoreId := ⟨2 * p.val + 1, by omega⟩

/-- Whether a pair runs locked (CRN_STATUS.MODE, R313). -/
def State.locked (s : State) (p : Fin 16) : Bool := s.flag (Blk.crn p.val) Reg.CRN_STATUS_MODE

/-- The core that stands for a core to the rest of the device: T2n for a locked pair (R313). -/
def State.leadOf (s : State) (c : CoreId) : CoreId := if s.locked (pairOf c) then evenCore (pairOf c) else c

/-- The state of a core in CRN_STATUS: STATE, or STATE1 for T2n+1 of a split pair (17_fault_tolerance.md). -/
def State.crnState (s : State) (c : CoreId) : Nat :=
  if !(s.locked (pairOf c)) && decide (c.val % 2 = 1) then s.fget (Blk.crn (c.val / 2)) Reg.CRN_STATUS_STATE1
  else s.fget (Blk.crn (c.val / 2)) Reg.CRN_STATUS_STATE

/-- The state of a core in CRN_STATUS changed. -/
def State.setCrnState (s : State) (c : CoreId) (v : Nat) : State :=
  if !(s.locked (pairOf c)) && decide (c.val % 2 = 1) then s.fset (Blk.crn (c.val / 2)) Reg.CRN_STATUS_STATE1 v
  else s.fset (Blk.crn (c.val / 2)) Reg.CRN_STATUS_STATE v

/-- The power state of a domain: 0 RUN, 1 HUSH, 2 OFF or DORMANT, 3 changing (PWR_STATE0-2). -/
def State.pwr (s : State) (pd : Nat) : Nat :=
  bits (s.rget Blk.PWR (0x020 + 8 * (pd / 32))).toNat (2 * (pd % 32) + 1) (2 * (pd % 32))

/-- The power state of a domain changed. -/
def State.setPwr (s : State) (pd v : Nat) : State :=
  s.fset Blk.PWR ⟨0x020 + 8 * (pd / 32), 2 * (pd % 32) + 1, 2 * (pd % 32)⟩ v

/-- The number of a master's guard (R301): T0-T31, TR0-TR63, J0-J9, RL0-RL3, MG0 and MG1, trace DMA. The DAP has
none (R292). -/
def guardOf : Master → Option Nat
  | .core c => some c.val
  | .tier t => some (32 + t.val)
  | .jet j => some (96 + j.val)
  | .ridge l => some (106 + l.val)
  | .mgdma m => some (110 + m.val)
  | .trace => some 112
  | .dap => none

/-- Whether a master's guard has frozen it (GRD_STATUS.FROZEN). -/
def State.frozen (s : State) (m : Master) : Bool :=
  match guardOf m with
  | some g => s.flag (Blk.grd g) Reg.GRD_STATUS_FROZEN
  | none => false

/-- A core issues bundles: in service, powered, not frozen, not halted by debug, clocks running (R295, R321, R344, R358). -/
def State.coreRuns (s : State) (c : CoreId) : Bool :=
  decide (s.crnState c = 1) && decide (s.pwr c.val = 0) && !(s.frozen (.core c)) && !((s.core c).dbg.halted)
    && !(s.stopped)

/-- The basin a core's accesses carry (R276): VMCTL.VMID at N-U and N-K, otherwise 0. -/
def basinOf (a : CoreArch) : BasinId :=
  match a.world, a.level with
  | .N, .U => Fin.ofNat 64 (a.vmctl.toNat % 64)
  | .N, .K => Fin.ofNat 64 (a.vmctl.toNat % 64)
  | _, _ => 0

/-- The attributes of a core's accesses (R277). -/
def coreAcc (c : CoreId) (a : CoreArch) : Access :=
  { src := .core c, world := a.world, basin := basinOf a, mbit := decide (a.level = .M) }

/-- An access the device makes for itself: S world, B0. -/
def devAcc (m : Master) : Access := { src := m, world := .S, basin := 0, mbit := false }

def isS (w : World) : Bool := decide (w = .S)
def worldBit (w : World) : Nat := if w = .S then 1 else 0
def worldOf (n : Nat) : World := if n % 2 = 1 then .S else .N

/-- Fold over indexes 0 to n − 1 of a family of changes. -/
def foldN (n : Nat) (f : Nat → State → State) (s : State) : State := (List.range n).foldl (fun t i => f i t) s

/-- Fold a change over a list. -/
def foldL {α : Type} (l : List α) (f : α → State → State) (s : State) : State := l.foldl (fun t x => f x t) s

/-- All cores. -/
def allCores : List CoreId := List.finRange 32

end Sys2Proof.Machine
end

