-- ==== Sys2Proof/Machine/Spout.lean ====
section
/-! DEFINITION. The Spout (16_spout_interrupts.md): source numbers and inputs (R301), routing (R302), senses and
counters (R303, R304), what is pending (R303) and whether a core accepts it (R282, R305). -/

namespace Sys2Proof.Machine

/-- The global sources R301 lists; the others are reserved. -/
def globalSrc (n : Nat) : Bool :=
  (32 ≤ n && n ≤ 53) || (64 ≤ n && n ≤ 101) || (128 ≤ n && n ≤ 368) || (512 ≤ n && n ≤ 1023)

/-- The private sources R301 lists. -/
def privateSrc (n : Nat) : Bool := n ≤ 5 || (8 ≤ n && n ≤ 15)

/-- The guard sources, whose routing is fixed (R302). -/
def guardSrc (n : Nat) : Bool := 256 ≤ n && n ≤ 368

/-- A global source whose input is a pulse: DMA and punt descriptors and software sources (R301). -/
def pulseSrc (n : Nat) : Bool := (98 ≤ n && n ≤ 101) || (192 ≤ n && n ≤ 255) || 512 ≤ n

/-- A global source before the platform section is applied (R301, R302); its owner, world and target are those of
an absent SOURCE record (R74). DEDUCED, notes/assumptions/17.md. -/
def Source.dfltGlobal (n : Nat) : Source :=
  { count := 0, ovf := false, seen := false, owner := 0, world := .S, target := 0,
    tlevel := if guardSrc n then 3 else 1, sense := if pulseSrc n then 2 else 0, en := false }

/-- A private source at reset (R301, SPT_PRIV). -/
def Source.dfltPriv (n : Nat) : Source :=
  { count := 0, ovf := false, seen := false, owner := 0,
    world := if n = 2 ∨ n = 3 then .N else .S, target := 0,
    tlevel := if n = 1 then 1 else if n = 2 then 1 else if n = 3 then 2 else 3,
    sense := if 8 ≤ n then 2 else 0, en := decide (n = 0 ∨ n = 3) }

/-- A global source of the hub. -/
def State.src (s : State) (n : Nat) : Source := sparseGet (Source.dfltGlobal n) n s.srcs
/-- A global source changed. -/
def State.setSrc (s : State) (n : Nat) (v : Source) : State :=
  { s with srcs := sparsePut (Source.dfltGlobal n) n v s.srcs }
/-- A private source of a core; for a locked pair, T2n's (R313). -/
def State.priv (s : State) (c : CoreId) (n : Nat) : Source :=
  sparseGet (Source.dfltPriv n) n (s.core (s.leadOf c)).priv
/-- A private source changed. -/
def State.setPriv (s : State) (c : CoreId) (n : Nat) (v : Source) : State :=
  s.modCore (s.leadOf c) (fun k => { k with priv := sparsePut (Source.dfltPriv n) n v k.priv })

/-- The low 32 bits of the seconds and the nanoseconds of the time base reach a compare value (R307). -/
def State.timerPast (s : State) (b : Nat) (fs fn : Fld) : Bool :=
  let sec := s.sec % 2 ^ 32
  decide (s.fget b fs < sec) || (decide (s.fget b fs = sec) && decide (s.fget b fn ≤ s.ns))

/-- The SA event queue of a basin (R132). -/
def State.saEvq (s : State) (b : Nat) : SaEvq := sparseGet ⟨[], false⟩ b s.saEvts
/-- The doorbell queue of a core (R176). -/
def State.dbq (s : State) (c : Nat) : Dbq := sparseGet ⟨[], false⟩ c s.dbqs

/-- The input level of a global source (R301); a pulse source's input is 0 between its pulses. -/
def State.srcInput (s : State) (n : Nat) : Bool :=
  if n = 32 then s.errs.any (·.isNew)
  else if n = 33 then (List.range 8).any (fun i => s.rget Blk.RDY (0x40 + 8 * i) ≠ 0)
  else if n = 34 then s.rget Blk.SPP 0x028 ≠ 0 || s.rget Blk.SPP 0x030 ≠ 0
  else if n = 35 then s.rget Blk.BIT 0x020 ≠ 0
  else if n = 36 then s.rget Blk.SLU 0x048 ≠ 0 || s.rget Blk.SLU 0x050 ≠ 0
  else if n = 37 ∨ n = 38 then s.rget (Blk.cis (n - 37)) 0x038 ≠ 0
  else if n = 39 then s.rget Blk.DTB 0x028 ≠ 0
  else if 40 ≤ n ∧ n ≤ 43 then s.rget (Blk.rdg (n - 40)) 0x058 ≠ 0
  else if 44 ≤ n ∧ n ≤ 53 then s.rget (Blk.jet (n - 44)) 0x010 ≠ 0
  else if 64 ≤ n ∧ n ≤ 97 then s.rget (Blk.mac (n - 64)) 0x018 ≠ 0
  else if 128 ≤ n ∧ n ≤ 191 then !(s.saEvq (n - 128)).q.isEmpty
  else if guardSrc n then s.flag (Blk.grd (n - 256)) Reg.GRD_STATUS_FROZEN
  else false

/-- The input level of a private source of a core (R301): CRN_EVENT of its pair, its timers while enabled (R307),
SPT_VMPEND, its doorbell queue, TRC_STATUS for the core TRC_CTRL.IRQ_CORE names (R366). -/
def State.privInput (s : State) (c : CoreId) (n : Nat) : Bool :=
  let b := Blk.spt (s.leadOf c).val
  if n = 0 then s.rget (Blk.crn (c.val / 2)) 0x018 ≠ 0
  else if n = 1 then (s.priv c 1).en && s.timerPast b Reg.SPT_TMR_S_SECONDS Reg.SPT_TMR_S_NS
  else if n = 2 then (s.priv c 2).en && s.timerPast b Reg.SPT_TMR_N_SECONDS Reg.SPT_TMR_N_NS
  else if n = 3 then s.rget b 0x020 ≠ 0
  else if n = 4 then !(s.dbq (s.leadOf c).val).q.isEmpty
  else if n = 5 then
    decide (s.leadOf (Fin.ofNat 32 (s.fget Blk.TRC Reg.TRC_CTRL_IRQ_CORE)) = s.leadOf c) && decide (s.rget Blk.TRC 0x028 ≠ 0)
  else false

/-- One event added to a source: the 4-bit counter saturates at 15 and sets OVF (R303). The second result says that
an event was lost. -/
def Source.addEvent (x : Source) : Source × Bool :=
  if x.count < 15 then ({ x with count := x.count + 1 }, false) else ({ x with ovf := true }, true)

/-- Whether a change of a source's input from `a` to `b` is an active transition in its sense mode (R303). -/
def edgeActive (sense : Nat) (a b : Bool) : Bool :=
  if sense = 2 then !a && b else if sense = 3 then a && !b else if sense = 4 then a != b else false

/-- Whether a source is pending, given its input level (R303). -/
def Source.pendingAt (x : Source) (input : Bool) : Bool :=
  if x.sense = 0 then input else if x.sense = 1 then !input else decide (0 < x.count)

/-- COUNT as a read shows it: 1 or 0 in a level mode (R303). -/
def Source.countAt (x : Source) (input : Bool) : Nat :=
  if x.sense ≤ 1 then (if x.pendingAt input then 1 else 0) else x.count

/-- Whether a source, by number and for a core, is pending: private below 32, global from 32 (R303, R305). -/
def State.srcPending (s : State) (c : CoreId) (n : Nat) : Bool :=
  if n < 32 then privateSrc n && (s.priv c n).pendingAt (s.privInput c n)
  else globalSrc n && (s.src n).pendingAt (s.srcInput n)

/-- The source record by number, for a core. -/
def State.anySrc (s : State) (c : CoreId) (n : Nat) : Source := if n < 32 then s.priv c n else s.src n

/-- The core a source is offered to (R305, R306): the holder of a private source, otherwise TARGET, T2n of a locked pair. -/
def State.srcTarget (s : State) (c : CoreId) (n : Nat) : CoreId :=
  if n < 32 then s.leadOf c else s.leadOf (s.src n).target

/-- One event counted for a source in an edge mode; a lost one is counted in OVERFLOWS (R303, R312). -/
def State.countEvent (s : State) (c : CoreId) (n : Nat) : State :=
  let x := s.anySrc c n
  if x.sense ≤ 1 then s
  else
    let r := x.addEvent
    let s1 := if n < 32 then s.setPriv c n r.1 else s.setSrc n r.1
    if r.2 then s1.bump Blk.HUB Ctr.HUB_OVERFLOWS else s1

/-- A pulse on the input of a source: both transitions of its input (R301, R303). -/
def State.pulse (s : State) (n : Nat) : State :=
  let x := s.src n
  if x.sense = 4 then (s.countEvent 0 n).countEvent 0 n else s.countEvent 0 n

/-- The rank of a level (R276). -/
def rankOf : Level → Nat
  | .U => 0
  | .K => 1
  | .H => 2
  | .M => 3

/-- The level a TLEVEL code names (R302, SPT_SRC): 1 K, 2 H, 3 M. -/
def levelOfCode (n : Nat) : Level := if n = 1 then .K else if n = 2 then .H else if n = 3 then .M else .U

/-- The code of a level (ESTAT.SLEVEL, LVL): 0 U, 1 K, 2 H, 3 M. -/
def levelCode : Level → Nat := rankOf

/-- The handling set of a level and world (R280). -/
def CoreArch.hset (a : CoreArch) (w : World) (l : Level) : HSet :=
  match l, w with
  | .M, _ => a.ms
  | .H, _ => a.hs
  | _, .S => a.sk
  | _, .N => a.nk

/-- The handling set of a level and world changed. -/
def CoreArch.setHset (a : CoreArch) (w : World) (l : Level) (h : HSet) : CoreArch :=
  match l, w with
  | .M, _ => { a with ms := h }
  | .H, _ => { a with hs := h }
  | _, .S => { a with sk := h }
  | _, .N => { a with nk := h }

/-- ESTAT.BUSY. -/
def HSet.busy (h : HSet) : Bool := bitAt h.estat 15

/-- The SPT_IE bit of a target level and world (16_spout_interrupts.md): 0 NK, 1 SK, 2 H, 3 M. -/
def ieBit (w : World) (l : Level) : Nat :=
  match l, w with
  | .M, _ => 3
  | .H, _ => 2
  | _, .S => 1
  | _, .N => 0

/-- The outcomes of R282 that are not "stays pending". -/
inductive Accept where
  | enter (w : World) (l : Level)
  | xworld
  deriving DecidableEq, Repr

/-- Delivery conditions of R303 and R305 other than VMID: hub ready, pending, EN, offered to this core, SPT_IE. -/
def State.offered (s : State) (c : CoreId) (n : Nat) : Bool :=
  let x := s.anySrc c n
  s.ready Rdy.spoutHub && s.srcPending c n && x.en && decide (s.srcTarget c n = c)
    && bitAt (s.core c).arch.sptIe (ieBit x.world (levelOfCode x.tlevel))

/-- The VMID condition of R305: WORLD N, TLEVEL K and an owner other than B0 need VMCTL.VMID = owner. -/
def State.vmidOk (s : State) (c : CoreId) (n : Nat) : Bool :=
  let x := s.anySrc c n
  if n ≥ 32 ∧ x.world = .N ∧ x.tlevel = 1 ∧ x.owner ≠ 0 then
    decide ((s.core c).arch.vmctl.toNat % 64 = x.owner.val)
  else true

/-- R282 for a source sent to level `t` of world `w`, at a core in the state `cw`, `cl`. -/
def accept282 (a : CoreArch) (cw : World) (cl : Level) (w : World) (t : Level) : Option Accept :=
  if t = .M then
    if a.ms.busy then none else some (.enter .S .M)
  else if w = cw then
    if rankOf cl ≤ rankOf t ∧ !(a.hset w t).busy then some (.enter w t) else none
  else if bitAt a.mctl 0 && !a.ms.busy then some .xworld
  else none

/-- What a core does with a source (R282, R305): none while it waits. -/
def State.accepts (s : State) (c : CoreId) (n : Nat) : Option Accept :=
  if s.offered c n && s.vmidOk c n then
    let x := s.anySrc c n
    accept282 (s.core c).arch (s.core c).arch.world (s.core c).arch.level x.world (levelOfCode x.tlevel)
  else none

/-- The source numbers that can be pending for a core: its private ones, then every global one that is listed or held. -/
def State.srcNumbers (s : State) : List Nat :=
  (List.range 16) ++ ((List.range 337).map (· + 32)) ++ ((s.srcs.map (·.1)).filter (fun n => decide (512 ≤ n)))

/-- The lowest-numbered source a core accepts (R301, R305). -/
def State.bestSource (s : State) (c : CoreId) : Option Nat :=
  s.srcNumbers.find? (fun n => (s.accepts c n).isSome)

/-- The active source of a level (R306). -/
def Core.act (k : Core) (w : World) (l : Level) : BitVec 10 :=
  match l, w with
  | .M, _ => k.actM
  | .H, _ => k.actH
  | _, .S => k.actSK
  | _, .N => k.actNK

/-- The active source of a level changed (R306). -/
def Core.setAct (k : Core) (w : World) (l : Level) (v : BitVec 10) : Core :=
  match l, w with
  | .M, _ => { k with actM := v }
  | .H, _ => { k with actH := v }
  | _, .S => { k with actSK := v }
  | _, .N => { k with actNK := v }

/-- The pairs' BASINS mask holds a basin, and S_OK for the S world: where a source may be routed (SPT_SRC). -/
def State.routable (s : State) (c : CoreId) (owner : BasinId) (w : World) : Bool :=
  bitAt (s.pair (pairOf c)).basins owner.val && (decide (w = .N) || (s.pair (pairOf c)).sok)

/-- TLEVEL allowed for a WORLD (SPT_SRC): K or M for S, K or H for N. -/
def tlevelOk (w : World) (t : Nat) : Bool :=
  match w with
  | .S => decide (t = 1 ∨ t = 3)
  | .N => decide (t = 1 ∨ t = 2)

end Sys2Proof.Machine
end

