-- ==== Sys2Proof/Machine/Errors.lean ====
section
/-! DEFINITION. Error records (17_fault_tolerance.md R330, R331), escalation (R332), basin reset and device reset
(18_bringup_power.md R334, R335, R337), discarding a Sluice stage (08_sluice_commit.md R155) and the freeze of a
guard (15_worlds_basins.md R295) as far as its own registers go. -/

namespace Sys2Proof.Machine

def State.stage (s : State) (k : StageId) : Stage := s.stages.get k
def State.modStage (s : State) (k : StageId) (f : Stage → Stage) : State :=
  { s with stages := s.stages.set k.val (f (s.stages.get k)) k.isLt }

/-- A field of SLU_STAGEk. -/
def State.stg (s : State) (k : StageId) (f : Fld) : Nat := s.fget Blk.SLU (f.nth k.val)
/-- A field of SLU_STAGEk changed. -/
def State.setStg (s : State) (k : StageId) (f : Fld) (v : Nat) : State := s.fset Blk.SLU (f.nth k.val) v

/-- Stage states of SLU_STAGEk.STATE. -/
def stFREE : Nat := 0
def stOPEN : Nat := 1
def stSEALING : Nat := 2
def stARMED : Nat := 3
def stVOTING : Nat := 4
def stPREPARED : Nat := 5
def stPENDING : Nat := 6
def stDRAINING : Nat := 7
def stRELEASED : Nat := 8
def stDISCARDED : Nat := 9

/-- A stage discarded with a cause of R165: its content is erased, and BIT_EVENT.DISCARDED tells of a bitstream
section it held (R155, R84). What it was of a transaction stays, to tell late votes (R159). -/
def State.discardStage (s : State) (k : StageId) (cause : Nat) : State :=
  let hadCfg := !(s.stage k).cfgs.isEmpty
  let s := ((s.setStg k Reg.SLU_STAGE_STATE stDISCARDED).setStg k Reg.SLU_STAGE_CAUSE cause).modStage k
    (fun g => { Stage.empty with txn := g.txn, origin := g.origin, t := g.t, scope := g.scope, arm := g.arm, edges := g.edges })
  let s := (s.setEvt Blk.SLU Reg.SLU_DONE_SLOT k.val).bump Blk.SLU Ctr.SLU_DISCARDED
  if hadCfg then s.fset Blk.BIT Reg.BIT_EVENT_DISCARDED 1 else s

/-- DIVERGED set on a stage and in SLU_EVENT (R155, R160). -/
def State.diverge (s : State) (k : StageId) : State :=
  (s.setStg k Reg.SLU_STAGE_DIVERGED 1).fset Blk.SLU Reg.SLU_EVENT_DIVERGED 1

/-- The stage of a basin reset: owned by the basin, or holding its section (R84), in a state before its switch. -/
def State.stageOfBasin (s : State) (b : BasinId) (k : StageId) : Bool :=
  let st := s.stg k Reg.SLU_STAGE_STATE
  (decide (s.stg k Reg.SLU_STAGE_OWNER = b.val) || (s.stage k).cfgs.any (fun c => decide (c.basin = b)))
    && decide (stOPEN ≤ st) && decide (st ≤ stPENDING)

/-- Whether a stage is a participant's, PREPARED or PENDING (R155). -/
def State.participant (s : State) (k : StageId) : Bool :=
  (s.stage k).arm && (decide (s.stg k Reg.SLU_STAGE_STATE = stPREPARED) || decide (s.stg k Reg.SLU_STAGE_STATE = stPENDING))

/-- R337: the reset of basin `b`; a reset of B0 by this operation does nothing. -/
def State.basinReset (s : State) (b : BasinId) : State :=
  if b = 0 then s
  else
    let s := foldL (List.finRange 64) (fun k t =>
      if t.stageOfBasin b k then
        let p := t.participant k
        let t := t.discardStage k 2
        if p then t.diverge k else t
      else t) s
    let s := (s.fset (Blk.bw b.val) Reg.WER_PUNT_RING_SIZE 0).fset (Blk.bw b.val) Reg.WER_INJ_RING_SIZE 0
    let s := { s with saEvts := sparsePut ⟨[], false⟩ b.val ⟨[], false⟩ s.saEvts }
    let s := foldL ((List.range 992).map (· + 32)) (fun n t =>
      if globalSrc n && decide ((t.src n).owner = b) then
        t.setSrc n { t.src n with en := false, count := 0, ovf := false }
      else t) s
    let s := foldL allCores (fun c t =>
      t.rput (Blk.spt c.val) 0x020 (setBit (t.rget (Blk.spt c.val) 0x020) b.val false)) s
    s.setEvt Blk.PWR Reg.PWR_BASINLOG_BASIN b.val

/-- The free value of a register that a core reset leaves undefined (R186): a fresh one for each register. -/
def freeArch (n : Nat) (a : CoreArch) : CoreArch :=
  { a with
    g := Vector.ofFn (fun i => Config.freeWord (n + i.val)),
    banks := Vector.ofFn (fun i => Config.freeWord (n + 64 + i.val)),
    f := Vector.ofFn (fun i => Config.freeWord (n + 70 + i.val)),
    acc := Vector.ofFn (fun i => Config.freeWord (n + 102 + 2 * i.val) ++ Config.freeWord (n + 103 + 2 * i.val)),
    lpc := Config.freeWord (n + 110),
    lps := (Config.freeWord (n + 111)).setWidth 48 &&& 0xFFFFFFFFFFFC,
    lpe := (Config.freeWord (n + 112)).setWidth 48 &&& 0xFFFFFFFFFFFC }

/-- How many free values a core reset draws. -/
def freeArchSize : Nat := 113

/-- R334, R335: a device reset with a cause. What the AON keeps (fuses, pins, time) and the stored cistern words stay;
everything else returns to its reset value, BOOT_SRC and the board-group pins are sampled again, and boot runs from
step 2. Memory and time across a device reset: DESIGN CHOICE, notes/assumptions/12.md. -/
def State.deviceReset (s : State) (cause : Nat) : State :=
  let n := s.free
  let r : State :=
    { State.reset with
      mem := s.mem, poison := s.poison, resvClean := s.resvClean, out := s.out, spillGen := n + 32 * freeArchSize + 2,
      tb := { s.tb with adjRem := 0, step := none }, cis := { State.reset.cis with filled := s.cis.filled },
      fuses := s.fuses, pins := s.pins, jtag := s.jtag,
      cores := Vector.ofFn (fun i => { Core.reset with arch := freeArch (n + freeArchSize * i.val) CoreArch.reset }),
      free := n + 32 * freeArchSize + 2 + 0x300000, pending := s.pending }
  let r := r.fset Blk.PWR Reg.PWR_RESET_CAUSE_CAUSE cause
  let r := r.fset Blk.PWR Reg.PWR_BOOT_SRC s.pins.bootSrc.toNat
  let r := (r.fset Blk.RDG0 Reg.RDG_GROUP_EN (if s.pins.grpEn then 1 else 0)).fset Blk.RDG0 Reg.RDG_GROUP_INDEX
    (if s.pins.grpEn then s.pins.grpId.toNat else 0)
  let r := r.fset Blk.SPP Reg.SPP_SRCMAC_SA (0x02 * 2 ^ 40 + s.fuses.id.toNat % 2 ^ 40)
  let r := (r.rput Blk.DBG 0x010 (Config.rng (n + 32 * freeArchSize))).rput Blk.DBG 0x018
    (Config.rng (n + 32 * freeArchSize + 1))
  (r.fset (Blk.cis 0) Reg.CIS_STATUS_TRAIN 1).fset (Blk.cis 1) Reg.CIS_STATUS_TRAIN 1

/-- SEV of a class (R331). -/
def sevOf (cls : Nat) : Nat :=
  if cls = 1 ∨ cls = 17 then 1
  else if cls = 13 then 0
  else if cls = 3 ∨ cls = 4 ∨ cls = 9 ∨ cls = 12 ∨ cls = 15 ∨ cls = 16 ∨ cls = 18 ∨ cls = 19 then 2
  else 3

/-- The classes that escalate (R331): LOCKSTEP, CORE_UE, GUARD, JET_FAULT, CHANNEL. -/
def escalates (cls : Nat) : Bool := cls == 1 || cls == 3 || cls == 5 || cls == 6 || cls == 8

/-- What an error record says (R331). -/
structure ErrInfo where
  cls : Nat
  kind : Nat
  index : Nat
  basin : BasinId
  world : World
  addr : Nat
  info : BitVec 16
  deriving DecidableEq, Repr

/-- The SEQ after another: counts from 1, wraps at 2^16 and skips 0 (R330). -/
def nextSeq (n : Nat) : Nat := if n ≥ 65535 then 1 else n + 1

/-- R330, R332: an error record written into a FREE slot or lost, and the escalation it may bring. -/
def State.errRecord (s : State) (e : ErrInfo) : State :=
  let esc := s.flag Blk.ERR Reg.ERR_CTRL_ESC_EN && escalates e.cls
    && s.errs.any (fun r => r.cls == e.cls && r.kind == e.kind && r.index == e.index)
  let s1 :=
    if s.errs.length < 16 then
      let r : ErrRec :=
        { seq := s.errSeq, isNew := true, cls := e.cls, esc := esc, lostBefore := s.errLost, info := e.info,
          basin := e.basin, world := e.world, kind := e.kind, index := e.index, addr := e.addr, ns := s.ns,
          sec := s.sec % 2 ^ 32 }
      ({ s with errs := s.errs ++ [r], errSeq := nextSeq s.errSeq, errLost := false }).bump Blk.ERR Ctr.ERR_RECORDS
    else (({ s with errLost := true }).bump Blk.ERR Ctr.ERR_LOST).fset Blk.ERR Reg.ERR_STATUS_OVF 1
  if esc then
    let s2 := (s1.fset Blk.ERR Reg.ERR_STATUS_ESC 1).bump Blk.ERR Ctr.ERR_ESCALATIONS
    if e.basin = 0 then s2.deviceReset 4 else s2.basinReset e.basin
  else s1

/-- An error record of the device itself: no access and no code gives it a world, so WORLD is a free value
(notes/assumptions/8.md). -/
def State.devError (s : State) (cls kind index : Nat) (basin : BasinId) (addr : Nat) (info : BitVec 16) : State :=
  (s.draw 1).errRecord { cls := cls, kind := kind, index := index, basin := basin,
                         world := worldOf (Config.freeWord s.free).toNat, addr := addr, info := info }

/-- KIND codes of GRD_FINFO and ECAUSE: 0 read, 1 write, 2 fetch, 3 AMO. -/
def kindCode : AccKind → Nat
  | .read => 0
  | .write => 1
  | .fetch => 2
  | .amo => 3

/-- An access as the guard reports it (R295). -/
structure Refused where
  acc : Access
  pa : Nat
  kind : AccKind
  entry : Option Nat
  deriving DecidableEq, Repr

/-- GRD_FINFO of a refused access (15_worlds_basins.md). -/
def finfo (r : Refused) : Nat :=
  r.acc.basin.val * 2 ^ 16 + (if r.entry.isNone then 2 ^ 13 else 0) + worldBit r.acc.world * 2 ^ 12
    + (if r.acc.mbit then 2 ^ 11 else 0) + kindCode r.kind * 2 ^ 8 + r.entry.getD 0

/-- R295, steps 3 and 4: one guard records a freeze with a cause (1 REGION, 2 OWNERSHIP, 3 NESTED_M), counts it and
writes its record. FROZEN raises the guard's source. -/
def State.freezeGuard (s : State) (g : Nat) (cause : Nat) (r : Refused) : State :=
  let b := Blk.grd g
  let s := (s.fset b Reg.GRD_STATUS_CAUSE cause).fset b Reg.GRD_STATUS_FROZEN 1
  let s := (s.fset b Reg.GRD_FADDR_PA r.pa).rput b 0x010 (BitVec.ofNat 64 (finfo r))
  let s := s.bump b Ctr.GRD_VIOLATIONS
  s.errRecord { cls := 5, kind := 9, index := g, basin := r.acc.basin, world := r.acc.world, addr := r.pa,
                info := BitVec.ofNat 16 (finfo r) }

/-- R295 for a core: in a locked pair both cores' guards record the freeze. -/
def State.freezeCore (s : State) (c : CoreId) (cause : Nat) (r : Refused) : State :=
  if s.locked (pairOf c) then
    (s.freezeGuard (evenCore (pairOf c)).val cause r).freezeGuard (oddCore (pairOf c)).val cause r
  else s.freezeGuard c.val cause r

/-- R18 for a master other than a core: an UNSERVED record, with the master's guard as its unit. -/
def State.unservedRecord (s : State) (a : Access) (pa : Nat) : State :=
  match guardOf a.src with
  | some g => s.errRecord { cls := 18, kind := 9, index := g, basin := a.basin, world := a.world, addr := pa, info := 0 }
  | none => s

/-- R18 for a mover of R292: unit kind 15, B0, S world, INDEX naming the mover. -/
def State.unservedMover (s : State) (mover pa : Nat) : State :=
  s.errRecord { cls := 18, kind := 15, index := mover, basin := 0, world := .S, addr := pa, info := 0 }

end Sys2Proof.Machine
end

