-- ==== Sys2Proof/Machine/Store.lean ====
section
/-! DEFINITION. Where an address leads (01_device_organisation.md R16, R18-R22), what the cistern and the Pool SRAM
hold (14_cistern.md R267-R274, 12_memory_system.md R244), and the guards' check (15_worlds_basins.md R292, R293).
Cistern bytes are kept by the place a pseudo-channel, page and byte give, so that map-out and relocation act on
what is stored. -/

namespace Sys2Proof.Machine

/-- R267: the pseudo-channel of a cistern address. -/
def pcOf (pa : Nat) : Nat := bits pa 17 12 ^^^ bits pa 23 18 ^^^ bits pa 29 24 ^^^ bits pa 34 30

/-- R267: the page of a cistern address. -/
def pageOf (pa : Nat) : Nat := bits pa 34 18

/-- Whether a pseudo-channel is mapped out (CIS_PCSTATE). -/
def State.mapped (s : State) (pc : Nat) : Bool := bitAt (s.rget (Blk.cis (pc / 32)) 0x018) (pc % 32)

/-- CIS_CTRL.RESERVE. -/
def State.reserve (s : State) : Bool := s.flag Blk.CIS0 Reg.CIS_CTRL_RESERVE

/-- What R274 makes of a cistern address. -/
inductive CisPlace where
  | at_ (loc : Nat)
  | reserved
  | lost
  deriving DecidableEq, Repr

/-- The location number of a byte of a pseudo-channel: 512 MiB each (R267). -/
def locOf (pc o b : Nat) : Nat := pc * 2 ^ 29 + o * 4096 + b

/-- R274: how a cistern address resolves. -/
def State.resolve (s : State) (pa : Nat) : CisPlace :=
  let pc := pcOf pa
  let o := pageOf pa
  let b := bits pa 11 0
  if s.reserve && decide (o ≥ 129024) then .reserved
  else if s.mapped pc then
    let rv := s.flag Blk.CIS0 Reg.CIS_CAP_RELOC_VALID
    let rp := s.fget Blk.CIS0 Reg.CIS_CAP_RELOC_PC
    if rv && decide (pc = rp) then
      let i := o % 63
      let pc' := if i ≥ rp then i + 1 else i
      if s.mapped pc' then .lost else .at_ (locOf pc' (129024 + o / 63) b)
    else .lost
  else .at_ (locOf pc o b)

/-- The pseudo-channel of a location. -/
def pcOfLoc (loc : Nat) : Nat := loc / 2 ^ 29

/-- Whether a location lies in the reserve pages (R267, R273). -/
def inReserve (loc : Nat) : Bool := decide (loc % 2 ^ 29 / 4096 ≥ 129024)

/-- Whether the 64-bit word at a location is stored as poison (R268, R273). -/
def State.wordPoison (s : State) (loc : Nat) : Bool :=
  if s.cis.filled && inReserve loc then !(s.resvClean.contains (loc / 8)) else s.poison.contains (loc / 8)

/-- A stored word poisoned or cleaned (R268, R269). -/
def State.setWordPoison (s : State) (loc : Nat) (p : Bool) : State :=
  if s.cis.filled && inReserve loc then
    { s with resvClean := if p then keyDel (loc / 8) s.resvClean else keyPut (loc / 8) s.resvClean }
  else { s with poison := if p then keyPut (loc / 8) s.poison else keyDel (loc / 8) s.poison }

/-- A stored byte of the cistern; a byte not listed reads 0 (notes/assumptions/5.md). -/
def State.locByte (s : State) (loc : Nat) : Byte := sparseGet 0 loc s.mem
def State.setLocByte (s : State) (loc : Nat) (b : Byte) : State := { s with mem := sparsePut 0 loc b s.mem }

/-- The 8 bytes of a stored word. -/
def State.locWord (s : State) (loc : Nat) : Word :=
  BitVec.ofNat 64 (leNat ((List.range 8).map (fun i => s.locByte (loc / 8 * 8 + i))))
def State.setLocWord (s : State) (loc : Nat) (v : Word) : State :=
  ((leBytes 8 v.toNat).zipIdx).foldl (fun t p => t.setLocByte (loc / 8 * 8 + p.2) p.1) s

/-- What a Pool SRAM byte reads as before it is written: a free value (R244, notes/assumptions/8.md). -/
def State.sramDefault (s : State) (k : Nat) : Byte :=
  let h : SliceId := Fin.ofNat 32 (k / 0x200000)
  BitVec.ofNat 8 ((Config.freeWord ((s.slice h).sramGen + k % 0x200000 / 8)).toNat >>> (8 * (k % 8)))

/-- A byte of the Pool SRAM window, by its offset in the window. -/
def State.sramByte (s : State) (k : Nat) : Byte :=
  match s.sram.find? (fun e => e.1 == k) with
  | some e => e.2
  | none => s.sramDefault k

/-- A byte of the Pool SRAM window written. -/
def sramPut (k : Nat) (b : Byte) : List (Nat × Byte) → List (Nat × Byte)
  | [] => [(k, b)]
  | (k', b') :: t => if k < k' then (k, b) :: (k', b') :: t else if k = k' then (k, b) :: t else (k', b') :: sramPut k b t

/-- Base addresses of R18. -/
def cisTop : Nat := 0x800000000
def sramBase : Nat := 0x100000000000
def spillBase : Nat := 0x180000000000
def regBase : Nat := 0x200000000000
def romBase : Nat := 0x2FFFFFFC0000
def ridgeBase : Nat := 0x300000000000

/-- Where an address leads (R16, R18). -/
inductive Dest where
  | cis
  | sram (h : SliceId) (k : Nat)
  | spill (off : Nat)
  | reg (b off : Nat)
  | rom (off : Nat)
  | ridge (n off : Nat)
  | unserved
  deriving DecidableEq, Repr

/-- R18-R22, R244, R326: the destination of an address, or `unserved`. -/
def State.dest (s : State) (pa : Nat) : Dest :=
  if pa < cisTop then
    match s.resolve pa with
    | .at_ _ => .cis
    | _ => .unserved
  else if sramBase ≤ pa ∧ pa < sramBase + 0x4000000 then
    let k := pa - sramBase
    let h : SliceId := Fin.ofNat 32 (k / 0x200000)
    if k % 0x200000 < s.fget (Blk.pol h.val) Reg.POL_SRAM_WAYS * 0x20000
        ∧ s.fget (Blk.pol h.val) Reg.POL_FENCE_STATE = 0 then .sram h k else .unserved
  else if spillBase ≤ pa ∧ pa < spillBase + 0x1800000 then .spill (pa - spillBase)
  else if regBase ≤ pa ∧ pa < regBase + 0x400000 then
    let b := (pa - regBase) / 0x1000
    if (blockTables b).isSome then .reg b ((pa - regBase) % 0x1000) else .unserved
  else if romBase ≤ pa ∧ pa < romBase + 0x40000 then .rom (pa - romBase)
  else if ridgeBase ≤ pa ∧ pa < ridgeBase + 8 * 0x10000000000 then
    let n := (pa - ridgeBase) / 0x10000000000
    let o := (pa - ridgeBase) % 0x10000000000
    if o < cisTop ∧ !(s.flag Blk.RDG0 Reg.RDG_GROUP_EN && decide (n = s.fget Blk.RDG0 Reg.RDG_GROUP_INDEX))
    then .ridge n o else .unserved
  else .unserved

/-- Whether a master's access to an address is refused by the cistern controller: the key table and SPP key slots of
the SA region (R111), the Sluice's stage area (R147). -/
def State.cisRefuses (s : State) (pa : Nat) : Bool :=
  let sb := s.fget Blk.SA Reg.SA_REGION_BASE * 2 ^ 28
  let keyT := s.flag Blk.SA Reg.SA_REGION_VALID && decide (sb + 0x5000000 ≤ pa) && decide (pa < sb + 0x9001000)
  let ab := s.fget Blk.SLU Reg.SLU_AREA_BASE_BASE * 2 ^ 21
  let az := s.fget Blk.SLU Reg.SLU_AREA_SIZE_SIZE * 2 ^ 21
  keyT || (decide (ab ≤ pa) && decide (pa < ab + az))

/-- R18, R111, R147: an access of a master to an address finds something that serves it. -/
def State.served (s : State) (pa : Nat) : Bool :=
  decide (s.dest pa ≠ .unserved) && !(decide (pa < cisTop) && s.cisRefuses pa)

/-- The line store behind the home nodes: cistern or Pool SRAM (R228, R244). -/
def State.backData (s : State) (line : Nat) : LineData :=
  if line * 64 < cisTop then
    match s.resolve (line * 64) with
    | .at_ loc => lineOfBytes ((List.range 64).map (fun i => s.locByte (loc + i)))
    | _ => 0
  else lineOfBytes ((List.range 64).map (fun i => s.sramByte (line * 64 - sramBase + i)))

/-- Poison of the 8 words of a line in the cistern; a lost or reserved line reads poisoned (R273, R274). -/
def State.backPoison (s : State) (line : Nat) : BitVec 8 :=
  if line * 64 < cisTop then
    match s.resolve (line * 64) with
    | .at_ loc => (List.range 8).foldl (fun p i => setBit p i (s.wordPoison (loc + 8 * i))) 0
    | _ => 0xFF
  else 0

/-- R269: a line written back to the cistern or to the Pool SRAM; a write to a lost line is discarded, counted in
LOST_WB and recorded as CIS_LOST (R274). -/
def State.backWrite (s : State) (line : Nat) (d : LineData) (p : BitVec 8) : State :=
  if line * 64 < cisTop then
    match s.resolve (line * 64) with
    | .at_ loc =>
      let s := ((bytesOfLine d).zipIdx).foldl (fun t e => t.setLocByte (loc + e.2) e.1) s
      (List.range 8).foldl (fun t i => t.setWordPoison (loc + 8 * i) (bitAt p i)) s
    | .reserved => s
    | .lost =>
      let s := s.bump Blk.CIS0 Ctr.CIS0_LOST_WB
      s.devError 15 8 (pcOf (line * 64)) 0 (line * 64) 0
  else
    { s with sram := ((bytesOfLine d).zipIdx).foldl (fun l e => sramPut (line * 64 - sramBase + e.2) e.1 l) s.sram }

/-! The guards (R292, R293). -/

/-- A region entry of a guard. -/
def State.region (s : State) (g i : Nat) : Word := s.rget (Blk.grd g) (0x400 + 8 * i)

/-- Base and size of a region: bits of BASE below LOG2SIZE are ignored (GRD_REGION). -/
def regionBase (w : Word) : Nat :=
  let n := bits w.toNat 63 58
  bits w.toNat 45 12 * 4096 / 2 ^ n * 2 ^ n
def regionSize (w : Word) : Nat := 2 ^ bits w.toNat 63 58

/-- R293: an entry matches an access of `len` bytes at `pa`. -/
def regionMatches (w : Word) (a : Access) (pa len : Nat) : Bool :=
  bitAt w 0 && decide (regionBase w < pa + len) && decide (pa < regionBase w + regionSize w)
    && (if a.world = .S then bitAt w 51 else bitAt w 50)
    && (bitAt w 49 || decide (bits w.toNat 57 52 = a.basin.val))

/-- R293: the entry covers every byte of the access. -/
def regionCovers (w : Word) (pa len : Nat) : Bool :=
  decide (regionBase w ≤ pa) && decide (pa + len ≤ regionBase w + regionSize w)

/-- R293: the rights R, W, X of an entry. -/
def regionR (w : Word) : Bool := bitAt w 46
def regionW (w : Word) : Bool := bitAt w 47
def regionX (w : Word) : Bool := bitAt w 48

/-- R293: the right an access needs. -/
def rightOk (k : AccKind) (r w x : Bool) : Bool :=
  match k with
  | .read => r
  | .write => w
  | .fetch => x
  | .amo => r && w

/-- What a guard answers: the rights R, W, X that hold for the range, or the deciding entry of a refusal. -/
inductive GuardAns where
  | ok (r w x : Bool)
  | refuse (entry : Option Nat)
  deriving DecidableEq, Repr

/-- R292, R293: the answer of guard `g` to an access. -/
def State.guardOne (s : State) (g : Nat) (a : Access) (pa len : Nat) (k : AccKind) : GuardAns :=
  if !(s.flag (Blk.grd g) Reg.GRD_CTRL_EN) then .ok true true true
  else
    match (List.range 256).find? (fun i => regionMatches (s.region g i) a pa len) with
    | none => .refuse none
    | some i =>
      let w := s.region g i
      if regionCovers w pa len && rightOk k (regionR w) (regionW w) (regionX w) then
        .ok (regionR w) (regionW w) (regionX w)
      else .refuse (some i)

/-- Both guards of a locked pair answer (R295): a refusal by either refuses, otherwise the rights are common ones. -/
def GuardAns.both (x y : GuardAns) : GuardAns :=
  match x, y with
  | .refuse e, _ => .refuse e
  | _, .refuse e => .refuse e
  | .ok r w x, .ok r' w' x' => .ok (r && r') (w && w') (x && x')

/-- R292, R293, R295: the answer to an access of a master, from its guard or, for a locked pair, from both of the
pair's. -/
def State.guard (s : State) (a : Access) (pa len : Nat) (k : AccKind) : GuardAns :=
  match guardOf a.src with
  | none => .ok true true true
  | some g =>
    match a.src with
    | .core c =>
      if s.locked (pairOf c) then
        (s.guardOne (evenCore (pairOf c)).val a pa len k).both (s.guardOne (oddCore (pairOf c)).val a pa len k)
      else s.guardOne g a pa len k
    | _ => s.guardOne g a pa len k

/-! Error events of the cistern (R268-R274). -/

/-- 60 minutes and 1 second of the model's clock, in nanoseconds. -/
def hourNs : Nat := 3600000000000
def secondNs : Nat := 1000000000

/-- CAP_MIB of R274. -/
def State.capMib (s : State) : Nat :=
  let out := ((List.range 64).filter (fun pc => s.mapped pc
    && !(s.flag Blk.CIS0 Reg.CIS_CAP_RELOC_VALID && decide (pc = s.fget Blk.CIS0 Reg.CIS_CAP_RELOC_PC)))).length
  32768 - 512 * (if s.reserve then 1 else 0) - 512 * out

/-- Pseudo-channels of a stack in service. -/
def State.inService (s : State) (st : Nat) : Nat :=
  ((List.range 32).filter (fun j => !(s.mapped (32 * st + j)))).length

/-- R266, R272, R274: a pseudo-channel mapped out; one already mapped out is left alone. -/
def State.mapOut (s : State) (pc : Nat) : State :=
  if s.mapped pc then s
  else
    let st := pc / 32
    let s := s.rput (Blk.cis st) 0x018 (setBit (s.rget (Blk.cis st) 0x018) (pc % 32) true)
    let s :=
      if s.reserve && !(s.flag Blk.CIS0 Reg.CIS_CAP_RELOC_VALID) then
        (s.fset Blk.CIS0 Reg.CIS_CAP_RELOC_VALID 1).fset Blk.CIS0 Reg.CIS_CAP_RELOC_PC pc
      else s
    let s := s.fset Blk.CIS0 Reg.CIS_CAP_CAP_MIB s.capMib
    let s := s.fset (Blk.cis st) Reg.CIS_STATUS_IN_SERVICE (s.inService st)
    let s := if s.inService st = 0 then s.setReady (Rdy.cis st) false else s
    let s := s.fset (Blk.cis st) Reg.CIS_EVENT_MAPOUT 1
    s.devError 14 8 pc 0 0 0

/-- R272: a corrected word counted on a pseudo-channel. -/
def State.countCe (s : State) (pc : Nat) : State :=
  let b := Blk.cis (pc / 32)
  let s := s.bump b (Ctr.CIS_CE_j.nth (pc % 32))
  let log := (pc, s.tb.ticks) :: s.cis.ce.filter (fun e => decide (s.tb.ticks < e.2 + hourNs))
  let mute := s.cis.mute.filter (fun e => decide (s.tb.ticks < e.2 + hourNs))
  let n := (log.filter (fun e => e.1 == pc)).length
  let s := { s with cis := { s.cis with ce := log, mute := mute } }
  if decide (n ≥ s.fget Blk.CIS0 Reg.CIS_THRESH_CE_LIMIT) && !(mute.any (fun e => e.1 == pc)) then
    let s := { s with cis := { s.cis with mute := (pc, s.tb.ticks) :: mute } }
    let s := s.fset b Reg.CIS_EVENT_CE_LIMIT 1
    s.devError 13 8 pc 0 0 0
  else s

/-- R268, R272: an uncorrectable word counted and recorded on a pseudo-channel. -/
def State.countUe (s : State) (pc pa : Nat) : State :=
  let b := Blk.cis (pc / 32)
  let s := s.bump b (Ctr.CIS_UE_j.nth (pc % 32))
  let s := s.devError 12 8 pc 0 pa 0
  let log := (pc, s.tb.ticks) :: s.cis.ue.filter (fun e => decide (s.tb.ticks < e.2 + secondNs))
  let s := { s with cis := { s.cis with ue := log } }
  if decide ((log.filter (fun e => e.1 == pc)).length ≥ s.fget Blk.CIS0 Reg.CIS_THRESH_UE_LIMIT) then
    if s.flag Blk.CIS0 Reg.CIS_CTRL_AUTO_MAPOUT then s.mapOut pc else s.fset b Reg.CIS_EVENT_UE 1
  else s

end Sys2Proof.Machine
end

