-- ==== Sys2Proof/Machine/Coherence.lean ====
section
/-! DEFINITION. Home nodes, directory, L2 lines, snoops, transactions' aborts and the cairn commit that a held line
forces (12_memory_system.md R228-R231, R244; 13_coherence_transactions.md R248-R262; 17_fault_tolerance.md
R316, R317). Each request is one indivisible step at its home node (R252). -/

namespace Sys2Proof.Machine

/-- R229: the home slice of a cistern line, by its number PA / 64. -/
def hashHome (line : Nat) : Nat :=
  bits line 4 0 ^^^ bits line 9 5 ^^^ bits line 14 10 ^^^ bits line 19 15 ^^^ bits line 24 20 ^^^ bits line 29 25
    ^^^ bits line 34 30 ^^^ bits line 39 35

/-- The slice that serves for a slice: itself, or the substitute of a fenced one (R326). -/
def State.liveSlice (s : State) : Nat → SliceId → SliceId
  | 0, h => h
  | n + 1, h =>
    if s.fget (Blk.pol h.val) Reg.POL_FENCE_STATE = 2 then
      s.liveSlice n (Fin.ofNat 32 (s.fget (Blk.pol h.val) Reg.POL_FENCE_SUBST))
    else h

/-- R19, R229, R326: the home of a line. -/
def State.homeOf (s : State) (line : Nat) : SliceId :=
  if line * 64 < cisTop then s.liveSlice 6 (Fin.ofNat 32 (hashHome line))
  else Fin.ofNat 32 ((line * 64 - sramBase) / 0x200000)

/-- Whether a line lies in the Pool SRAM window (R19). -/
def inSram (line : Nat) : Bool := decide (cisTop ≤ line * 64)

/-- The ways of a slice that hold cache lines: 16 − POL_SRAM.WAYS (R231). -/
def State.poolWays (s : State) (h : SliceId) : Nat := 16 - s.fget (Blk.pol h.val) Reg.POL_SRAM_WAYS

def State.poolLfsr (s : State) (h : SliceId) : BitVec 16 := BitVec.ofNat 16 (s.fget (Blk.pol h.val) Reg.POL_LFSR_SEED)
def State.stepPoolLfsr (s : State) (h : SliceId) : State :=
  s.fset (Blk.pol h.val) Reg.POL_LFSR_SEED (lfsrStep (s.poolLfsr h)).toNat

/-- The Pool copy of a line. -/
def State.poolFind (s : State) (h : SliceId) (line : Nat) : Option PoolLine :=
  (s.slice h).lines.find? (fun l => l.line == line)

/-- A Pool line written back to the cistern if dirty, and counted (R247). -/
def State.poolClean (s : State) (h : SliceId) (l : PoolLine) : State :=
  if l.dirty then (s.backWrite l.line l.data l.poison).bump (Blk.pol h.val) Ctr.POL_WRITEBACKS else s

def State.poolRemove (s : State) (h : SliceId) (line : Nat) : State :=
  s.modSlice h (fun x => { x with lines := x.lines.filter (fun l => l.line ≠ line) })

/-- R231: a way for a line in its Pool set, the victim written back and removed. -/
def State.poolAlloc (s : State) (h : SliceId) (line : Nat) : State × Nat :=
  let k := s.poolWays h
  let inSet := (s.slice h).lines.filter (fun l => l.line % 2048 == line % 2048)
  match freeWay (inSet.map (·.way)) k with
  | some w => (s.stepPoolLfsr h, w)
  | none =>
    let w := lfsrWay (s.poolLfsr h) k
    let s := s.stepPoolLfsr h
    match inSet.find? (fun l => l.way == w) with
    | some v => ((s.poolClean h v).poolRemove h v.line, w)
    | none => (s, w)

/-- A line written into the Pool, dirty (R251: WB, WBK, snoop data); an SRAM line is written in place. -/
def State.poolWrite (s : State) (h : SliceId) (line : Nat) (d : LineData) (p : BitVec 8) : State :=
  if inSram line then s.backWrite line d p
  else
    match s.poolFind h line with
    | some _ =>
      s.modSlice h (fun x => { x with lines := x.lines.map (fun l =>
        if l.line == line then { l with data := d, poison := p, dirty := true } else l) })
    | none =>
      let r := s.poolAlloc h line
      r.1.modSlice h (fun x => { x with lines := ⟨line, r.2, d, p, true⟩ :: x.lines })

/-- The data a home node has for a line: its Pool copy, else the cistern; a miss of a NORMAL-WB request fills the
Pool (R233, R247, R256). -/
def State.homeData (s : State) (h : SliceId) (line : Nat) (fill : Bool) : State × LineData × BitVec 8 :=
  match s.poolFind h line with
  | some l => (s.bump (Blk.pol h.val) Ctr.POL_HITS, l.data, l.poison)
  | none =>
    if inSram line then (s, s.backData line, s.backPoison line)
    else
      let d := s.backData line
      let p := s.backPoison line
      let s := s.bump (Blk.pol h.val) Ctr.POL_MISSES
      if fill then
        let r := s.poolAlloc h line
        (r.1.modSlice h (fun x => { x with lines := ⟨line, r.2, d, p, false⟩ :: x.lines }), d, p)
      else (s, d, p)

/-! The directory (R248). -/

def State.dirFind (s : State) (h : SliceId) (line : Nat) : Option DirEnt :=
  (s.slice h).dir.find? (fun e => e.line == line)

/-- A directory entry changed in place. -/
def State.dirMod (s : State) (h : SliceId) (line : Nat) (f : DirEnt → DirEnt) : State :=
  s.modSlice h (fun x => { x with dir := x.dir.map (fun e => if e.line == line then f e else e) })

/-- An entry with no holder and no pin is free (R248). -/
def DirEnt.live (e : DirEnt) : Bool := e.em || decide (e.sharers ≠ 0) || !e.pins.isEmpty

/-- A core no longer recorded as holding a line (R251). -/
def State.dirDrop (s : State) (h : SliceId) (line : Nat) (c : CoreId) : State :=
  s.modSlice h (fun x => { x with dir := (x.dir.map (fun e =>
    if e.line != line then e
    else if e.em && decide (e.owner = c) then { e with em := false, sharers := 0 }
    else { e with sharers := setBit e.sharers c.val false })).filter DirEnt.live })

/-- Whether a directory entry records a core (R251). -/
def DirEnt.records (e : DirEnt) (c : CoreId) : Bool :=
  if e.em then decide (e.owner = c) else bitAt e.sharers c.val

/-- The cores a directory entry records. -/
def DirEnt.holders (e : DirEnt) : List CoreId :=
  if e.em then [e.owner] else allCores.filter (fun c => bitAt e.sharers c.val)

/-! The L2 of a core (R228, R250). -/

def Core.l2Find (k : Core) (line : Nat) : Option L2Line := k.l2.find? (fun l => l.line == line)
def State.l2Find (s : State) (c : CoreId) (line : Nat) : Option L2Line := (s.core c).l2Find line

/-- A line of an L2 changed in place. -/
def State.l2Mod (s : State) (c : CoreId) (line : Nat) (f : L2Line → L2Line) : State :=
  s.modCore c (fun k => { k with l2 := k.l2.map (fun l => if l.line == line then f l else l) })

/-- A line taken out of an L2, and with it out of the core's L1s (R250). -/
def State.l2Remove (s : State) (c : CoreId) (line : Nat) : State :=
  s.modCore c (fun k => { k with
    l2 := k.l2.filter (fun l => l.line ≠ line),
    l1d := k.l1d.filter (fun l => l.line ≠ line),
    l1i := k.l1i.filter (fun l => l.line ≠ line) })

/-- R250: a line leaves an L2: WB with its data from M, EVICT from E or S. One whose holder the home node does not record
any more is stale: it is counted and its data discarded (R251). -/
def State.l2Leave (s : State) (c : CoreId) (l : L2Line) : State :=
  let h := s.homeOf l.line
  let s := s.l2Remove c l.line
  if !((s.dirFind h l.line).any (fun e => e.records c)) then s.bump (Blk.pol h.val) Ctr.POL_STALE
  else
    let s := if l.st = .M then s.poolWrite h l.line l.data l.poison else s
    s.dirDrop h l.line c

/-- A line leaves an L2 with EVICT and without write-back: a transaction's write set, a held line (R258, R319). -/
def State.l2Discard (s : State) (c : CoreId) (l : L2Line) : State :=
  (s.l2Remove c l.line).dirDrop (s.homeOf l.line) l.line c

/-- UNPIN at every slice of a core's transaction sequence (R262). -/
def State.unpinAll (s : State) (c : CoreId) (seq : BitVec 4) : State :=
  { s with slices := s.slices.map (fun x => { x with dir := (x.dir.map (fun e =>
      { e with pins := e.pins.filter (fun p => !(decide (p.core = c) && decide (p.seq = seq))) })).filter DirEnt.live }) }

/-- The status an abort writes (R261). -/
def abortStatus (depth cause code : Nat) : Word :=
  let retry := if cause = 2 ∨ cause = 4 ∨ cause = 5 ∨ cause = 8 then 1 else 0
  BitVec.ofNat 64 (depth * 2 ^ 17 + retry * 2 ^ 16 + cause * 2 ^ 8 + code)

/-- A destination written in the architectural registers; writes to g0 are discarded (R186). -/
def CoreArch.put (a : CoreArch) (d : Dst) (v : BitVec 128) : CoreArch :=
  match d with
  | .g n => if n.val = 0 then a else { a with g := a.g.set n.val (v.setWidth 64) n.isLt }
  | .bank i => { a with banks := a.banks.set i.val (v.setWidth 64) i.isLt }
  | .f n => { a with f := a.f.set n.val (v.setWidth 64) n.isLt }
  | .acc n => { a with acc := a.acc.set n.val v n.isLt }

/-- A transaction's saved registers put back (R202). -/
def CoreArch.restore (a : CoreArch) (t : TxnSave) : CoreArch :=
  { a with g := t.g, banks := t.banks, f := t.f, acc := t.acc, flC := t.flC, flOV := t.flOV, fpc := t.fpc,
           lpc := t.lpc, lps := t.lps, lpe := t.lpe }

/-- What TBEGIN saves of the registers (R202). -/
def CoreArch.save (a : CoreArch) : TxnSave :=
  { g := a.g, banks := a.banks, f := a.f, acc := a.acc, flC := a.flC, flOV := a.flOV, fpc := a.fpc,
    lpc := a.lpc, lps := a.lps, lpe := a.lpe }

/-- R261: a core's open transaction aborts with a cause and code; without one nothing happens. -/
def State.txAbort (s : State) (c : CoreId) (cause code : Nat) : State :=
  match (s.core c).txn with
  | none => s
  | some t =>
    let ws := (s.core c).l2.filter (fun l => l.wmark)
    let s := foldL ws (fun l u => u.l2Discard c l) s
    let s := s.modCore c (fun k =>
      let a := { k.arch.restore t.save with pc := t.fallback }
      let a := match t.dst with
        | some d => a.put d ((abortStatus t.depth cause code).setWidth 128)
        | none => a
      { k with
        arch := a, txn := none, bundle := Bundle.empty, pend := [],
        longs := k.longs.filter (fun o => !o.inTxn),
        mb := k.mb.filter (fun e => !e.inTxn),
        l2 := k.l2.map (fun l => { l with rmark := false, wmark := false }) })
    let s := s.unpinAll c (s.core c).txSeq
    let s := s.bump (Blk.trn c.val) Ctr.TRN_TX_ABORT
    if cause = 2 then s.bump (Blk.trn c.val) Ctr.TRN_TX_CONFLICT
    else if cause = 3 then s.bump (Blk.trn c.val) Ctr.TRN_TX_CAPACITY
    else s

/-- The registers with every fixed-latency result landed (R193), its flags merged. -/
def landAll (a : CoreArch) (ps : List PendWrite) : CoreArch :=
  ps.foldl (fun a p =>
    let a := a.put p.dst p.val
    { a with fpc := a.fpc ||| (BitVec.ofNat 64 p.flags.toNat <<< 8) }) a

/-- The instant of the last cairn commit, in CRN_LAST. -/
def State.stampCommit (s : State) (p : Fin 16) : State :=
  (s.fset (Blk.crn p.val) Reg.CRN_LAST_NS s.ns).fset (Blk.crn p.val) Reg.CRN_LAST_SECONDS (s.sec % 2 ^ 32)

/-- A long operation's result in the registers, its flags merged (R192, R217). -/
def landOp (a : CoreArch) (o : LongOp) : CoreArch :=
  let a := a.put o.dst o.val
  { a with fpc := a.fpc ||| (BitVec.ofNat 64 o.flags.toNat <<< 8) }

/-- A core whose long operations have landed, those excepted that wait for a ridge answer (R192, R316). What a
poisoned load still owes, its imprecise abort, stays behind in an operation without destination (R328). -/
def Core.landLongs (k : Core) : Core :=
  { k with
    arch := (k.longs.filter (fun o => o.await.isEmpty)).foldl landOp k.arch,
    longs := (k.longs.filter (fun o => !o.await.isEmpty || o.abort.isSome)).map (fun o =>
      if !o.await.isEmpty then o else { o with dst := .g 0, val := 0, flags := 0 }) }

/-- A core with every fixed-latency result and every long operation landed (R193, R316). -/
def Core.settled (k : Core) : Core := Core.landLongs { k with arch := landAll k.arch k.pend, pend := [] }

/-- R316, steps 1, 2 and 4 to 6: results land, the checkpoint becomes active and every held mark clears; the window
of an outside access ends (R318). -/
def State.cairnTake (s : State) (p : Fin 16) : State :=
  let c := evenCore p
  let s := s.modCore c Core.settled
  let s := s.modPair p (fun x => { x with ckpt := some (s.core c).arch })
  let s := s.modCore c (fun k => { k with l2 := k.l2.map (fun l => { l with held := false }) })
  (s.stampCommit p).bump (Blk.crn p.val) Ctr.CRN_COMMITS

/-- What a snoop brings back: data, if the copy was dirty (R251, R254). -/
abbrev SnoopAns := Option (LineData × BitVec 8)

/-- R251, R258: an invalidate snoop at a core. A line of its transaction's read or write set aborts the transaction
first; write-set lines are gone then and the answer carries no data. -/
def State.snoopInv (s : State) (o : CoreId) (line : Nat) : State × SnoopAns :=
  match s.l2Find o line with
  | none => (s, none)
  | some l =>
    let s := if l.rmark || l.wmark then s.txAbort o 2 0 else s
    if l.wmark then (s, none)
    else
      let s := s.l2Remove o line
      (s, if l.st = .M then some (l.data, l.poison) else none)

/-- R251, R258: a share snoop at a core: M and E become S; a write-set line aborts its transaction. -/
def State.snoopShare (s : State) (o : CoreId) (line : Nat) : State × SnoopAns :=
  match s.l2Find o line with
  | none => (s, none)
  | some l =>
    if l.wmark then (s.txAbort o 2 0, none)
    else
      (s.l2Mod o line (fun l => { l with st := .S }), if l.st = .M then some (l.data, l.poison) else none)

/-- The youngest among pins and an optional requester: larger stamp, then higher core number (R262). -/
def youngest (ps : List (CoreId × BitVec 32)) : Option CoreId :=
  (ps.foldl (fun (m : Option (CoreId × BitVec 32)) p =>
    match m with
    | none => some p
    | some q => if q.2.toNat < p.2.toNat || (q.2 == p.2 && decide (q.1.val < p.1.val)) then some p else some q) none).map (·.1)

/-- A snoop for a held line forces the holder's cairn boundary first (R317); the commit is that of R316. -/
def State.commitHolders (s : State) (h : SliceId) (line : Nat) (commit : Fin 16 → State → State) : State :=
  match s.dirFind h line with
  | none => s
  | some e =>
    foldL e.holders (fun o u =>
      match u.l2Find o line with
      | some l => if l.held then (commit (pairOf o) u).bump (Blk.crn (pairOf o).val) Ctr.CRN_FORCED else u
      | none => u) s

/-- Whether a holder of a directory entry has the line under a held mark. -/
def State.heldBy (s : State) (e : DirEnt) : Bool := e.holders.any (fun o => ((s.l2Find o e.line).map (fun l => l.held)).getD false)

/-- R249: a victim among the unpinned ways of a full directory set is snooped out, its dirty data written into the Pool.
A held victim asks for its pair's cairn commit first (R317), after which the choice is made anew. -/
def State.dirVictim : Nat → SliceId → Nat → (Fin 16 → State → State) → State → State
  | 0, _, _, _, s => s
  | n + 1, h, line, commit, s =>
    let set := (s.slice h).dir.filter (fun e => e.line % 2048 == line % 2048)
    if set.length < 16 then s
    else
      let free := ((List.range 16).filterMap (fun w => set.find? (fun e => e.way == w && e.pins.isEmpty)))
      match free[lfsrWay (s.poolLfsr h) free.length]? with
      | none => s
      | some v =>
        if s.heldBy v then State.dirVictim n h line commit (s.commitHolders h v.line commit)
        else
          let s := (s.stepPoolLfsr h).bump (Blk.pol h.val) Ctr.POL_DIR_EVICT
          let s := foldL v.holders (fun o u =>
            let r := u.snoopInv o v.line
            match r.2 with
            | some d => r.1.poolWrite h v.line d.1 d.2
            | none => r.1) s
          s.modSlice h (fun x => { x with dir := x.dir.filter (fun e => e.line ≠ v.line) })

/-- R249: the directory set of a line gets a free way. With every way pinned the youngest transaction is aborted first
(R262); the second result names the requester if its own transaction was the one. -/
def State.dirRoom (s : State) (h : SliceId) (line : Nat) (req : Option (CoreId × BitVec 32)) (commit : Fin 16 → State → State) :
    State × Option CoreId :=
  let set := (s.slice h).dir.filter (fun e => e.line % 2048 == line % 2048)
  if set.length < 16 then (s, none)
  else
    let step : State × Option CoreId :=
      if set.all (fun e => !e.pins.isEmpty) then
        match youngest (((set.map (·.pins)).flatten.map (fun p => (p.core, p.stamp))) ++ req.toList) with
        | some y =>
          let s := s.bump (Blk.pol h.val) Ctr.POL_DIR_PRESSURE
          (s.txAbort y 4 0, if req.map (·.1) = some y then some y else none)
        | none => (s, none)
      else (s, none)
    if step.2.isSome then step else (State.dirVictim 17 h line commit step.1, none)

/-- A pin added to an entry for a transactional request (R262). -/
def DirEnt.pin (e : DirEnt) (p : Option Pin) : DirEnt :=
  match p with
  | none => e
  | some q => if e.pins.any (fun r => r == q) then e else { e with pins := q :: e.pins }

/-- The pin of a core's open transaction (R262). -/
def State.pinOf (s : State) (c : CoreId) : Option Pin :=
  (s.core c).txn.map (fun t => ⟨c, (s.core c).txSeq, t.stamp⟩)

/-- A directory entry recorded for a line: replaced, or put into a free way of its set. -/
def State.dirPut (s : State) (h : SliceId) (line : Nat) (em : Bool) (sharers : BitVec 32) (owner : CoreId)
    (pin : Option Pin) : State :=
  match s.dirFind h line with
  | some _ => s.dirMod h line (fun e => DirEnt.pin { e with em := em, sharers := sharers, owner := owner } pin)
  | none =>
    let used := ((s.slice h).dir.filter (fun e => e.line % 2048 == line % 2048)).map (·.way)
    let w := (freeWay used 16).getD 0
    s.modSlice h (fun x => { x with dir := DirEnt.pin ⟨line, w, em, sharers, owner, []⟩ pin :: x.dir })

/-- Rights R, W, X a guard granted (R294). -/
structure Rights where
  r : Bool
  w : Bool
  x : Bool
  deriving DecidableEq, Repr

/-- All rights, for a core whose guard does not check (R292). -/
def Rights.all : Rights := ⟨true, true, true⟩

/-- Whether a core's transaction has been aborted on the way from one state to another. -/
def State.lostTxn (s t : State) (c : CoreId) : Bool := (s.core c).txn.isSome && (t.core c).txn.isNone

/-- R231, R257: a way of a core's L2 for a line: the lowest free one, else one among the unmarked ways; with every way
marked the transaction aborts with CAPACITY. The victim leaves with WB or EVICT. The second result is false after an
abort. -/
def State.l2Room (s : State) (c : CoreId) (line : Nat) (commit : Fin 16 → State → State) : State × Option Nat :=
  let k := s.core c
  let set := k.l2.filter (fun l => l.line % 2048 == line % 2048)
  match freeWay (set.map (·.way)) 8 with
  | some w => (s.modCore c (fun k => { k with lfsr2 := lfsrStep k.lfsr2 }), some w)
  | none =>
    let can := (List.range 8).filterMap (fun w => set.find? (fun l => l.way == w && !l.rmark && !l.wmark))
    match can[lfsrWay k.lfsr2 can.length]? with
    | none => (s.txAbort c 3 0, none)
    | some v =>
      let s0 := s.modCore c (fun k => { k with lfsr2 := lfsrStep k.lfsr2 })
      let s := if v.held then (commit (pairOf c) s0).bump (Blk.crn (pairOf c).val) Ctr.CRN_FORCED else s0
      if s0.lostTxn s c then (s, none) else (s.l2Leave c ((s.l2Find c v.line).getD v), some v.way)

/-- A line installed in a core's L2 (R251, R294): without W it comes in state S even where E is given. -/
def State.l2Install (s : State) (c : CoreId) (line : Nat) (st : Mesi) (d : LineData) (p : BitVec 8) (r : Rights)
    (commit : Fin 16 → State → State) : State × Bool :=
  let q := s.l2Room c line commit
  match q.2 with
  | none => (q.1, false)
  | some w =>
    let st := if st = .E ∧ !r.w then Mesi.S else st
    (q.1.modCore c (fun k => { k with
      l2 := ⟨line, w, st, d, p, false, false, false, r.r, r.w, r.x⟩ :: k.l2.filter (fun l => l.line ≠ line) }), true)

/-- The snoops an owner or sharers get before a request is served (R251): dirty data goes to the Pool. `inv` asks for
SNP_INV to every holder but `except`, otherwise SNP_SHARE to an owner. -/
def State.snoopAll (s : State) (h : SliceId) (line : Nat) (inv : Bool) (except : Option CoreId) : State :=
  match s.dirFind h line with
  | none => s
  | some e =>
    let hs := (if inv then e.holders else if e.em then [e.owner] else []).filter (fun o => some o ≠ except)
    foldL hs (fun o u =>
      let r := if inv then u.snoopInv o line else u.snoopShare o line
      match r.2 with
      | some d => r.1.poolWrite h line d.1 d.2
      | none => r.1) s

/-- A cairn commit of a core's pair came about on the way from one state to another. -/
def State.committed (s t : State) (c : CoreId) : Bool :=
  s.locked (pairOf c) && s.rget (Blk.crn (pairOf c).val) Ctr.CRN_COMMITS.off != t.rget (Blk.crn (pairOf c).val) Ctr.CRN_COMMITS.off

/-- RD_S at the home node (R251) for a core's load or fetch miss. False in the second place: the requester's own
transaction was aborted and the request was not made. -/
def State.serveS (s : State) (c : CoreId) (line : Nat) (r : Rights) (commit : Fin 16 → State → State) : State × Bool :=
  let h := s.homeOf line
  let s0 := s
  let s := s.commitHolders h line commit
  let hadEntry := (s.dirFind h line).isSome
  let room := if hadEntry then (s, none) else s.dirRoom h line ((s.core c).txn.map (fun t => (c, t.stamp))) commit
  if room.2.isSome || s0.lostTxn room.1 c then (room.1, false)
  else
    let s := room.1
    let pre := s.dirFind h line
    let s := s.snoopAll h line false (some c)
    let d := s.homeData h line true
    let s := d.1
    let others : BitVec 32 := match pre with
      | some e => if e.em then setBit 0 e.owner.val ((s.l2Find e.owner line).isSome) else e.sharers
      | none => 0
    let others := setBit others c.val false
    let alone := match pre with
      | some e => if e.em then decide (e.owner = c) else decide (others = 0)
      | none => true
    let st : Mesi := if alone then .E else .S
    let q := s.l2Install c line st d.2.1 d.2.2 r commit
    if !q.2 then (q.1, false)
    else
      let pin := q.1.pinOf c
      let em := alone && r.w
      (q.1.dirPut h line em (setBit others c.val true) c pin, true)

/-- RD_U and UPGRADE at the home node (R251): afterwards the core holds the line in M and nobody else does. -/
def State.serveU (s : State) (c : CoreId) (line : Nat) (r : Rights) (commit : Fin 16 → State → State) : State × Bool :=
  let h := s.homeOf line
  let s0 := s
  let s := s.commitHolders h line (fun p t => if p = pairOf c then t else commit p t)
  let hadEntry := (s.dirFind h line).isSome
  let room := if hadEntry then (s, none) else s.dirRoom h line ((s.core c).txn.map (fun t => (c, t.stamp))) commit
  if room.2.isSome || s0.lostTxn room.1 c then (room.1, false)
  else
    let s := room.1
    let s := s.snoopAll h line true (some c)
    match s.l2Find c line with
    | some _ =>
      let s := s.l2Mod c line (fun l => { l with st := .M, r := r.r, w := r.w, x := r.x })
      (s.dirPut h line true (setBit 0 c.val true) c (s.pinOf c), true)
    | none =>
      let d := s.homeData h line true
      let q := d.1.l2Install c line .M d.2.1 d.2.2 r commit
      if !q.2 then (q.1, false)
      else (q.1.dirPut h line true (setBit 0 c.val true) c (q.1.pinOf c), true)

/-- The poison of a line after the bytes of a mask are written: a full-word write clears it, a partial one leaves a
poisoned word poisoned (R269, R328). -/
def poisonAfter (p : BitVec 8) (mask : BitVec 64) : BitVec 8 :=
  (List.range 8).foldl (fun q i => if bits mask.toNat (8 * i + 7) (8 * i) = 255 then setBit q i false else q) p

/-- Bytes stored into a line the core holds in M. A line dirty from before a transaction, or from an earlier cairn
interval, is first cleaned in place with WBK (R257, R317), which pins its entry inside a transaction (R262); the line
takes its write mark or, in the open interval of a locked pair, its held mark. -/
def State.l2Store (s : State) (c : CoreId) (line : Nat) (mask : BitVec 64) (d : LineData) (inTxn opened : Bool) : State :=
  match s.l2Find c line with
  | none => s
  | some l =>
    let lk := s.locked (pairOf c) && opened
    let clean := ((inTxn && !l.wmark) || (lk && !l.held)) && decide (l.st = .M)
    let h := s.homeOf line
    let s := if clean then s.poolWrite h line l.data l.poison else s
    let s := if clean && inTxn then s.dirMod h line (fun e => e.pin (s.pinOf c)) else s
    s.l2Mod c line (fun l => { l with
      st := .M, data := lineMerge l.data d mask, poison := poisonAfter l.poison mask,
      wmark := l.wmark || inTxn, held := l.held || (lk && !inTxn) })

/-- The lines of a core's write set (R257, TXST.WSET). -/
def Core.wset (k : Core) : Nat := (k.l2.filter (fun l => l.wmark)).length

/-- A NORMAL-WB merging-buffer entry written into the core's L2 (R233, R234, R257): the line is obtained in M where
it is not owned; a 513th write-set line aborts with CAPACITY. Where obtaining it brings a cairn commit of the core's own
pair, the bytes belong to that commit (R316). False after an abort. -/
def State.drainWB (s : State) (c : CoreId) (e : MbEntry) (r : Rights) (commit : Fin 16 → State → State) : State × Bool :=
  let own : Bool := match s.l2Find c e.line with
    | some l => decide (l.st ≠ .S) && l.w
    | none => false
  let full := e.inTxn && decide ((s.core c).wset ≥ 512)
    && !((s.l2Find c e.line).map (fun l => l.wmark)).getD false
  if full then (s.txAbort c 3 0, false)
  else
    let q : State × Bool := if own = true then (s, true) else s.serveU c e.line r commit
    if !q.2 then (q.1, false)
    else (q.1.l2Store c e.line e.mask e.data e.inTxn (!(s.committed q.1 c)), true)

/-- A pair's cairn commit as a snoop forces it (R316, R317): an open transaction, which would defer it to the 8 µs of
R263, aborts with CAIRN, the NORMAL-WB entries of the buffer drain, then the checkpoint is taken. `fuel` bounds how many
pairs' commits can force one another. -/
def State.cairnCommit : Nat → Fin 16 → State → State
  | 0, p, s => (s.txAbort (evenCore p) 5 0).cairnTake p
  | n + 1, p, s =>
    let c := evenCore p
    let s := s.txAbort c 5 0
    let es := (s.core c).mb.filter (fun e => decide (e.ty = .normalWB) && !e.inTxn)
    let s := foldL es (fun e t => (t.drainWB c e Rights.all (State.cairnCommit n)).1) s
    let s := s.modCore c (fun k => { k with mb := k.mb.filter (fun e => !(decide (e.ty = .normalWB) && !e.inTxn)) })
    s.cairnTake p

/-- The commit that a snoop forces, with fuel for every pair. -/
def State.forceCommit (p : Fin 16) (s : State) : State := State.cairnCommit 16 p s

/-- RD_NC at the home node: a dirty copy is obtained first, nothing is allocated (R233, R251). -/
def State.ncRead (s : State) (line : Nat) : State × LineData × BitVec 8 :=
  let h := s.homeOf line
  let s := s.commitHolders h line State.forceCommit
  let pre := s.dirFind h line
  let s := s.snoopAll h line false none
  let s := match pre with
    | some e => if e.em then s.dirMod h line (fun x => { x with em := false, sharers := setBit 0 e.owner.val ((s.l2Find e.owner line).isSome) }) else s
    | none => s
  let s := s.modSlice h (fun x => { x with dir := x.dir.filter DirEnt.live })
  s.homeData h line false

/-- Every cached copy of a line invalidated, dirty data taken into the Pool (R233, R256). -/
def State.homeInvalidate (s : State) (line : Nat) : State :=
  let h := s.homeOf line
  let s := s.commitHolders h line State.forceCommit
  let s := s.snoopAll h line true none
  s.modSlice h (fun x => { x with dir := (x.dir.map (fun e =>
    if e.line == line then { e with em := false, sharers := 0 } else e)).filter DirEnt.live })

/-- WR_NC at the home node: cached copies go, the bytes are merged into the Pool copy or, without one, into the
cistern; a partial write of a poisoned word leaves it poisoned (R233, R269). -/
def State.ncWrite (s : State) (line : Nat) (mask : BitVec 64) (d : LineData) : State :=
  let s := s.homeInvalidate line
  let h := s.homeOf line
  match s.poolFind h line with
  | some l => (s.poolWrite h line (lineMerge l.data d mask) (poisonAfter l.poison mask)).bump (Blk.pol h.val) Ctr.POL_HITS
  | none =>
    let s := if inSram line then s else s.bump (Blk.pol h.val) Ctr.POL_MISSES
    s.backWrite line (lineMerge (s.backData line) d mask) (poisonAfter (s.backPoison line) mask)

/-- The mask of `n` bytes from byte `b` of a line. -/
def byteMask (b n : Nat) : BitVec 64 := BitVec.ofNat 64 ((2 ^ n - 1) * 2 ^ b)

/-- Bytes read coherently by a master other than a core, line by line (R230); true in the third place if any word
read is poisoned. -/
def State.cohRead (s : State) (pa n : Nat) : State × List Byte × Bool :=
  let first := pa / 64
  let last := (pa + n - 1) / 64
  (List.range (if n = 0 then 0 else last + 1 - first)).foldl (fun (r : State × List Byte × Bool) i =>
    let line := first + i
    let lo := if i = 0 then pa % 64 else 0
    let hi := if line = last then (pa + n - 1) % 64 else 63
    let q := r.1.ncRead line
    let bad := (List.range 8).any (fun w => bitAt q.2.2 w && decide (lo / 8 ≤ w) && decide (w ≤ hi / 8))
    (q.1, r.2.1 ++ ((bytesOfLine q.2.1).drop lo).take (hi + 1 - lo), r.2.2 || bad)) (s, [], false)

/-- Bytes written coherently by a master other than a core, line by line (R230). -/
def State.cohWrite (s : State) (pa : Nat) (bs : List Byte) : State :=
  let n := bs.length
  let first := pa / 64
  let last := (pa + n - 1) / 64
  foldL (List.range (if n = 0 then 0 else last + 1 - first)) (fun i t =>
    let line := first + i
    let lo := if i = 0 then pa % 64 else 0
    let hi := if line = last then (pa + n - 1) % 64 else 63
    let off := line * 64 + lo - pa
    let chunk := (bs.drop off).take (hi + 1 - lo)
    t.ncWrite line (byteMask lo (hi + 1 - lo)) (lineOfBytes (List.replicate lo 0 ++ chunk))) s

/-- The new memory value of an atomic (R255): FN[3:0] on `size` bytes, `v` old, `b` operand, `cmp` the comparand. -/
def amoNew (op size : Nat) (v b cmp : Nat) : Nat :=
  let m := 2 ^ (8 * size)
  let v := v % m
  let b := b % m
  let sgn (x : Nat) : Int := if x < m / 2 then (x : Int) else (x : Int) - (m : Int)
  if op = 0 then b
  else if op = 1 then (if v = cmp % m then b else v)
  else if op = 2 then (v + b) % m
  else if op = 3 then Nat.land v b
  else if op = 4 then Nat.lor v b
  else if op = 5 then Nat.xor v b
  else if op = 6 then (if sgn v ≤ sgn b then v else b)
  else if op = 7 then (if sgn v ≤ sgn b then b else v)
  else if op = 8 then min v b
  else max v b

/-- An AMO code that R255 defines: FN[5:4] 0b10 or 0b11, FN[3:0] 0-9. -/
def amoLegal (fn : BitVec 6) : Bool := decide (2 ≤ fn.toNat / 16) && decide (fn.toNat % 16 ≤ 9)

/-- The size in bytes of an AMO code (R255). -/
def amoSize (fn : BitVec 6) : Nat := if fn.toNat / 16 = 2 then 4 else 8

/-- R256: an atomic at the home slice or, for NORMAL-NC, at the cistern controller: every cached copy is invalidated
first; the old value, and true if the word was poisoned. -/
def State.amoHome (s : State) (nc : Bool) (pa : Nat) (fn : BitVec 6) (opnd cmp : Word) : State × Word × Bool :=
  let line := pa / 64
  let size := amoSize fn
  let s := s.homeInvalidate line
  let h := s.homeOf line
  let s := s.bump (Blk.pol h.val) Ctr.POL_AMO_HOME
  let s := if nc && !(inSram line) then
      match s.poolFind h line with
      | some l => (s.poolClean h l).poolRemove h line
      | none => s
    else s
  let d := s.homeData h line (!nc)
  let s := d.1
  let v := (d.2.1.toNat >>> (8 * (pa % 64))) % 2 ^ (8 * size)
  if bitAt d.2.2 (pa % 64 / 8) then (s, BitVec.ofNat 64 v, true)
  else
    let nv := amoNew (fn.toNat % 16) size v opnd.toNat cmp.toNat
    let nl := lineMerge d.2.1 (BitVec.ofNat 512 nv <<< (8 * (pa % 64))) (byteMask (pa % 64) size)
    let s := if nc || inSram line then s.backWrite line nl d.2.2 else s.poolWrite h line nl d.2.2
    (s, BitVec.ofNat 64 v, false)

end Sys2Proof.Machine
end

