-- ==== Sys2Proof/Machine/Translate.lean ====
section
/-! DEFINITION. Translation (15_worlds_basins.md R285-R288), region types (12_memory_system.md R232) and TLB
maintenance (R288). -/

namespace Sys2Proof.Machine

/-- The regime of an execution state (R285). -/
def regimeOf (w : World) (l : Level) : Regime :=
  match l, w with
  | .M, _ => .m
  | .H, _ => .h
  | _, .S => .sku
  | _, .N => .nku

/-- VMCTL.VMID of a core (R291). -/
def CoreArch.vmid (a : CoreArch) : BasinId := Fin.ofNat 64 (a.vmctl.toNat % 64)

/-- The ASID that tags a regime's entries (R284, R285). -/
def CoreArch.asid (a : CoreArch) : Regime → BitVec 16
  | .nku => BitVec.ofNat 16 (bits a.s1tb0N.toNat 63 48)
  | .sku => BitVec.ofNat 16 (bits a.s1tb0S.toNat 63 48)
  | .h => BitVec.ofNat 16 (bits a.htb.toNat 63 48)
  | .m => BitVec.ofNat 16 (bits a.mtb.toNat 63 48)

/-- The stage-1 table register of a regime and a VA (R285). -/
def CoreArch.tb (a : CoreArch) (r : Regime) (va : Word) : Word :=
  match r with
  | .nku => if bitAt va 47 then a.s1tb1N else a.s1tb0N
  | .sku => if bitAt va 47 then a.s1tb1S else a.s1tb0S
  | .h => a.htb
  | .m => a.mtb

/-- A region type from its code (R232). -/
def rtypeOf (n : Nat) : RType :=
  if n = 0 then .device else if n = 1 then .deviceE else if n = 2 then .normalNC else .normalWB

/-- The code of a region type (R232). -/
def rtypeCode : RType → Nat
  | .device => 0
  | .deviceE => 1
  | .normalNC => 2
  | .normalWB => 3

/-- The lower of two types' codes (R232). -/
def rtypeMin (a b : RType) : RType := if rtypeCode a ≤ rtypeCode b then a else b

def RType.isDevice (t : RType) : Bool := decide (t = .device) || decide (t = .deviceE)

/-- The type of an access made with translation off (R232). -/
def offType (pa : Nat) : RType :=
  if pa < cisTop ∨ (sramBase ≤ pa ∧ pa < sramBase + 0x4000000) ∨ (romBase ≤ pa ∧ pa < romBase + 0x40000) then .normalWB
  else .device

/-- An exception with a code and an address, read, outside any walk. -/
def Exc.mk0 (c : Cause) (addr : Word) (k : AccKind) : Exc :=
  { cause := c, addr := addr, kind := k, walk := 0xF, stage2 := false, s1walk := false, imm := 0, fpflags := 0,
    imprecise := false }

/-- The final descriptor of a walk (R286). -/
structure Leaf where
  out : Nat
  lvl : Nat
  d : Word
  deriving DecidableEq, Repr

/-- How a walk can end other than with a final descriptor. -/
inductive WalkErr where
  | trans (lvl : Nat)
  | abort (lvl : Nat)
  | s2 (e : Exc)
  deriving DecidableEq, Repr

/-- Reserved bits of a descriptor (R286). -/
def descReserved (stage2 : Bool) (d : Word) : Bool :=
  decide (bits d.toNat 63 59 ≠ 0) || decide (bits d.toNat 54 46 ≠ 0) || decide (bits d.toNat 11 10 ≠ 0)
    || (stage2 && (bitAt d 8 || bitAt d 7))

/-- R287: a descriptor read through the home node, with the core's guard and the walk's world and basin; none when it
is refused, not served or poisoned. A guard's refusal freezes the core (R295). -/
def State.readDesc (s : State) (c : CoreId) (acc : Access) (pa : Nat) : State × Option Word :=
  match s.guard acc pa 8 .read with
  | .refuse e => (s.freezeCore c 1 ⟨acc, pa, .read, e⟩, none)
  | .ok _ _ _ =>
    if !(s.served pa) || decide (s.dest pa ≠ .cis ∧ !(inSram (pa / 64) && decide (pa < sramBase + 0x4000000))) then (s, none)
    else
      let r := s.cohRead pa 8
      if r.2.2 then (r.1, none) else (r.1, some (BitVec.ofNat 64 (leNat r.2.1)))

/-- The part of an address that a level indexes (R286). -/
def levelIndex (a : Nat) (lvl : Nat) : Nat := bits a (47 - 9 * lvl) (39 - 9 * lvl)

/-- The size of a block at a level (R286). -/
def blockSize (lvl : Nat) : Nat := if lvl = 1 then 0x40000000 else if lvl = 2 then 0x200000 else 0x1000

/-- What a descriptor at a level is (R286): none for a translation fault, a table, or the final descriptor. -/
inductive TransDesc where
  | bad
  | table (base : Nat)
  | leaf (out : Nat)
  deriving DecidableEq, Repr

def descOf (stage2 : Bool) (lvl : Nat) (d : Word) : TransDesc :=
  let out := bits d.toNat 45 12 * 4096
  if !(bitAt d 0) || descReserved stage2 d then .bad
  else if lvl = 3 then (if bitAt d 1 then .leaf out else .bad)
  else if bitAt d 1 then .table out
  else if lvl = 0 then .bad
  else if out % blockSize lvl = 0 then .leaf out else .bad

/-- A walk of a table from a level on; `fix` translates a table address before it is read (stage 2 of regime N-K/U). -/
def State.walk (c : CoreId) (acc : Access) (stage2 : Bool) (addr : Nat)
    (fix : State → Nat → State × Except WalkErr Nat) : Nat → Nat → Nat → State → State × Except WalkErr Leaf
  | 0, lvl, _, s => (s, .error (.trans lvl))
  | n + 1, lvl, base, s =>
    let f := fix s (base + 8 * levelIndex addr lvl)
    match f.2 with
    | .error e => (f.1, .error e)
    | .ok pa =>
      let r := f.1.readDesc c acc pa
      match r.2 with
      | none => (r.1, .error (.abort lvl))
      | some d =>
        match descOf stage2 lvl d with
        | .bad => (r.1, .error (.trans lvl))
        | .leaf out => (r.1, .ok ⟨out + addr % blockSize lvl, lvl, d⟩)
        | .table b => State.walk c acc stage2 addr fix n (lvl + 1) b r.1

/-- The attributes of a walk's reads (R277): world and basin of the regime being walked. -/
def walkAcc (c : CoreId) (a : CoreArch) (r : Regime) : Access :=
  match r with
  | .nku => ⟨.core c, .N, a.vmid, false⟩
  | .sku => ⟨.core c, .S, 0, false⟩
  | .h => ⟨.core c, .N, 0, false⟩
  | .m => ⟨.core c, .S, 0, true⟩

/-- Stage 2 of an IPA (R285, R286): the output address and the final descriptor, none of it when stage 2 is off. -/
def State.stage2 (s : State) (c : CoreId) (a : CoreArch) (ipa : Nat) : State × Except WalkErr (Nat × Option Leaf) :=
  if !(bitAt a.s2tb 0) then (s, .ok (ipa, none))
  else
    let r := State.walk c (walkAcc c a .nku) true ipa (fun t p => (t, .ok p)) 4 0 (bits a.s2tb.toNat 45 12 * 4096) s
    match r.2 with
    | .error e => (r.1, .error e)
    | .ok l => (r.1, .ok (l.out, some l))

/-- A stage-2 fault: it reports the IPA (R280) and enters H (R279). -/
def exc2 (cause : Cause) (ipa lvl : Nat) (k : AccKind) (s1walk : Bool) : Exc :=
  { Exc.mk0 cause (BitVec.ofNat 64 ipa) k with walk := lvl, stage2 := true, s1walk := s1walk }

/-- The abort of an access kind (R287): IABORT for a fetch, otherwise DABORT. -/
def abortCause (k : AccKind) : Cause := if k = .fetch then .iabort else .dabort

/-- Stage-2 rights (R287). -/
def perm2 (k : AccKind) (r w xn : Bool) : Bool :=
  match k with
  | .read => r
  | .write => w
  | .fetch => r && !xn
  | .amo => r && w

/-- Stage-1 rights (R286, R287). U = 0 denies data accesses at U; in regimes H and M, U and UXN are ignored. DEDUCED,
notes/assumptions/20.md. -/
def perm1 (k : AccKind) (lv : Level) (u w uxn kxn : Bool) : Bool :=
  let acc := decide (lv ≠ .U) || u
  match k with
  | .read => acc
  | .write => acc && w
  | .fetch => if lv = .U then !uxn else !kxn
  | .amo => acc && w

/-- The table address of a stage-1 walk in regime N-K/U goes through stage 2 with read rights (R287). -/
def State.fixIpa (c : CoreId) (a : CoreArch) (r : Regime) (k : AccKind) (s : State) (ipa : Nat) : State × Except WalkErr Nat :=
  if r ≠ .nku then (s, .ok ipa)
  else
    let q := s.stage2 c a ipa
    match q.2 with
    | .error (.trans l) => (q.1, .error (.s2 (exc2 .translation ipa l k true)))
    | .error (.abort l) => (q.1, .error (.s2 (exc2 (abortCause k) ipa l k true)))
    | .error (.s2 e) => (q.1, .error (.s2 e))
    | .ok (pa, none) => (q.1, .ok pa)
    | .ok (pa, some l) =>
      if !(bitAt l.d 9) then (q.1, .error (.s2 (exc2 .accessFlag ipa l.lvl k true)))
      else if !(perm2 .read (bitAt l.d 5) (bitAt l.d 4) (bitAt l.d 6)) then
        (q.1, .error (.s2 (exc2 .permission ipa l.lvl k true)))
      else (q.1, .ok pa)

/-- The table a register names, as BASE and EN; 0 where it does not translate (R284). -/
def tbRoot (tb : Word) : Word := if bitAt tb 0 then tb &&& 0x3FFFFFFFF001 else 0

/-- The tables of stage 1 and stage 2 of an access (R285). -/
def CoreArch.root1 (a : CoreArch) (r : Regime) (va : Word) : Word := tbRoot (a.tb r va)
def CoreArch.root2 (a : CoreArch) (r : Regime) : Word := if r = .nku then tbRoot a.s2tb else 0

/-- Whether a TLB entry serves a page of a core's state (R288); after a write of a table register, one built from other
tables does not. DEDUCED, notes/assumptions/14.md. -/
def TlbEntry.hits (e : TlbEntry) (a : CoreArch) (r : Regime) (va : Word) (vpage : Nat) : Bool :=
  decide (e.regime = r) && decide (e.root1 = a.root1 r va)
    && decide (e.root2 = a.root2 r) && decide (e.vpage = vpage) && (e.global || decide (e.asid = a.asid r))
    && (decide (r ≠ .nku) || decide (e.vmid = a.vmid))

/-- The rights check of a translation, in the order of R287: stage-1 permission, then stage 2. -/
def TlbEntry.check (e : TlbEntry) (lv : Level) (k : AccKind) (va : Word) : Option Exc :=
  if !(perm1 k lv e.u e.w e.uxn e.kxn) then some { Exc.mk0 .permission va k with walk := e.lvl1 }
  else if !(perm2 k e.r2 e.w2 e.xn2) then
    some (exc2 .permission (e.ipage * 4096 + va.toNat % 4096) e.lvl2 k false)
  else none

/-- A page put into the TLB (R288). -/
def State.tlbAdd (s : State) (c : CoreId) (e : TlbEntry) : State := s.modCore c (fun k => { k with tlb := e :: k.tlb })

/-- R285-R288: the translation of an access of a core in its state, or the exception it raises. -/
def State.translate (s : State) (c : CoreId) (va : Word) (k : AccKind) : State × Except Exc (Nat × RType) :=
  let a := (s.core c).arch
  let r := regimeOf a.world a.level
  let tb := a.tb r va
  let hi := decide (r = .h) || decide (r = .m)
  if !(bitAt tb 0) then
    if bits va.toNat 63 46 ≠ 0 then (s, .error { Exc.mk0 .translation va k with walk := 0 })
    else
      let ipa := bits va.toNat 45 0
      if r = .nku && bitAt a.s2tb 0 then
        match (s.core c).tlb.find? (fun e => e.hits a r va (ipa / 4096) && decide (e.lvl1 = 0xF)) with
        | some e =>
          match e.check a.level k va with
          | some x => (s, .error x)
          | none => (s, .ok (e.ppage * 4096 + ipa % 4096, e.ty))
        | none =>
          let q := s.stage2 c a ipa
          match q.2 with
          | .error (.trans l) => (q.1, .error (exc2 .translation ipa l k false))
          | .error (.abort l) => (q.1, .error (exc2 (abortCause k) ipa l k false))
          | .error (.s2 e) => (q.1, .error e)
          | .ok (pa, none) => (q.1, .ok (pa, offType pa))
          | .ok (pa, some l) =>
            if !(bitAt l.d 9) then (q.1, .error (exc2 .accessFlag ipa l.lvl k false))
            else
              let e : TlbEntry :=
                { regime := r, root1 := a.root1 r va, root2 := a.root2 r, vmid := a.vmid,
                  asid := a.asid r, global := true, vpage := ipa / 4096, pages := 1,
                  ppage := pa / 4096, u := true, w := true, uxn := false, kxn := false,
                  ty := rtypeOf (bits l.d.toNat 3 2), lvl1 := 0xF, r2 := bitAt l.d 5, w2 := bitAt l.d 4,
                  xn2 := bitAt l.d 6, lvl2 := l.lvl, ipage := ipa / 4096 }
              let s := q.1.tlbAdd c e
              match e.check a.level k va with
              | some x => (s, .error x)
              | none => (s, .ok (pa, e.ty))
      else (s, .ok (ipa, offType ipa))
  else if (hi && bitAt va 47) || !(decide (bits va.toNat 63 47 = 0) || decide (bits va.toNat 63 47 = 0x1FFFF)) then
    (s, .error { Exc.mk0 .translation va k with walk := 0 })
  else
    match (s.core c).tlb.find? (fun e => e.hits a r va (va.toNat / 4096) && decide (e.lvl1 ≠ 0xF)) with
    | some e =>
      match e.check a.level k va with
      | some x => (s, .error x)
      | none => (s, .ok (e.ppage * 4096 + va.toNat % 4096, e.ty))
    | none =>
      let addr := bits va.toNat 47 0
      let q := State.walk c (walkAcc c a r) false addr (State.fixIpa c a r k) 4 0 (bits tb.toNat 45 12 * 4096) s
      match q.2 with
      | .error (.trans l) => (q.1, .error { Exc.mk0 .translation va k with walk := l })
      | .error (.abort l) => (q.1, .error { Exc.mk0 (abortCause k) va k with walk := l, s1walk := decide (r = .nku) })
      | .error (.s2 e) => (q.1, .error e)
      | .ok l1 =>
        if !(bitAt l1.d 9) then (q.1, .error { Exc.mk0 .accessFlag va k with walk := l1.lvl })
        else
          let u := hi || bitAt l1.d 5
          let uxn := !hi && bitAt l1.d 6
          let e0 : TlbEntry :=
            { regime := r, root1 := a.root1 r va, root2 := a.root2 r, vmid := a.vmid,
              asid := a.asid r, global := bitAt l1.d 8, vpage := va.toNat / 4096,
              pages := 1, ppage := l1.out / 4096, u := u, w := bitAt l1.d 4, uxn := uxn, kxn := bitAt l1.d 7,
              ty := rtypeOf (bits l1.d.toNat 3 2), lvl1 := l1.lvl, r2 := true, w2 := true, xn2 := false, lvl2 := 0xF,
              ipage := l1.out / 4096 }
          if !(perm1 k a.level e0.u e0.w e0.uxn e0.kxn) then
            (q.1, .error { Exc.mk0 .permission va k with walk := l1.lvl })
          else if r ≠ .nku then (q.1.tlbAdd c e0, .ok (l1.out, e0.ty))
          else
            let t := q.1.stage2 c a l1.out
            match t.2 with
            | .error (.trans l) => (t.1, .error (exc2 .translation l1.out l k false))
            | .error (.abort l) => (t.1, .error (exc2 (abortCause k) l1.out l k false))
            | .error (.s2 e) => (t.1, .error e)
            | .ok (pa, none) => (t.1.tlbAdd c e0, .ok (pa, e0.ty))
            | .ok (pa, some l2) =>
              if !(bitAt l2.d 9) then (t.1, .error (exc2 .accessFlag l1.out l2.lvl k false))
              else
                let e : TlbEntry :=
                  { e0 with ppage := pa / 4096, ty := rtypeMin e0.ty (rtypeOf (bits l2.d.toNat 3 2)),
                            r2 := bitAt l2.d 5, w2 := bitAt l2.d 4, xn2 := bitAt l2.d 6, lvl2 := l2.lvl }
                let s := t.1.tlbAdd c e
                match e.check a.level k va with
                | some x => (s, .error x)
                | none => (s, .ok (pa, e.ty))

/-! TLB maintenance (R288). -/

/-- Which entries an operation removes, for the issuer's regime, VMID and the value written (R288). -/
def tlbRemoves (op : Nat) (r : Regime) (vmid : BasinId) (v : Word) (e : TlbEntry) : Bool :=
  let own := decide (e.regime = r) && (decide (r ≠ .nku) || decide (e.vmid = vmid))
  let asid := BitVec.ofNat 16 (bits v.toNat 63 48)
  let page := decide (e.vpage % 2 ^ 36 = bits v.toNat 47 12)
  let vm := decide (e.regime = .nku) && decide (e.vmid.val = bits v.toNat 9 4)
  let worldS := decide (e.regime = .sku) || decide (e.regime = .m)
  if op = 0 then own
  else if op = 1 then own && decide (e.asid = asid) && !e.global
  else if op = 2 then own && page && (decide (e.asid = asid) || e.global)
  else if op = 3 then own && page
  else if op = 4 then vm
  else if op = 5 then vm
  else worldS == bitAt v 11

/-- R288: TLBINV on one core or, with BCAST, on every core. -/
def State.tlbInv (s : State) (c : CoreId) (op : Nat) (v : Word) : State :=
  let a := (s.core c).arch
  let r := regimeOf a.world a.level
  let on := if bitAt v 10 then allCores else [c]
  foldL on (fun o t => t.modCore o (fun k => { k with tlb := k.tlb.filter (fun e => !(tlbRemoves op r a.vmid v e)) })) s

end Sys2Proof.Machine
end

