-- ==== Sys2Proof/Machine/TraceOps.lean ====
section
/-! DEFINITION. What debug is authorised to see (19_debug_trace.md R352) and the packets of the trace units (R361-R364).
Rates and the time a packet takes are left out. -/

namespace Sys2Proof.Machine

/-- The place of an execution state in the grant bits (R352). -/
def stateBit (w : World) (l : Level) : Nat :=
  match l, w with
  | .M, _ => 5
  | .H, _ => 2
  | .U, .N => 0
  | .K, .N => 1
  | .U, .S => 3
  | .K, .S => 4

/-- R352: a kind of debug, non-invasive from bit 0 or invasive from bit 6, enabled in a state. -/
def State.granted (s : State) (i : Nat) : Bool :=
  bitAt (BitVec.ofNat 13 (s.fget Blk.DBG Reg.DBG_AUTH_GRANT)) i && !(bitAt s.fuses.deny i) && decide (s.pwr 95 = 0)

/-- Whether the state a core is in is enabled for trace. -/
def State.traceGrant (s : State) (c : CoreId) : Bool :=
  s.granted (stateBit (s.core c).arch.world (s.core c).arch.level)

/-- Whether the state a core is in is enabled for invasive debug. -/
def State.invasive (s : State) (c : CoreId) : Bool :=
  s.granted (6 + stateBit (s.core c).arch.world (s.core c).arch.level)

/-- R361: EN and the core's bit; of a locked pair only T2n traces; while PD95 is not in RUN nothing is emitted. -/
def State.traceOn (s : State) (c : CoreId) : Bool :=
  s.flag Blk.TRC Reg.TRC_CTRL_EN && bitAt (s.rget Blk.TRC 0x008) c.val && decide (s.leadOf c = c) && decide (s.pwr 95 = 0)

/-- A core whose clocks run and that is not halted: one whose trace goes on. -/
def State.traceAwake (s : State) (c : CoreId) : Bool :=
  decide (s.crnState c = 1) && decide (s.pwr c.val = 0) && !((s.core c).dbg.halted) && !((s.core c).dbg.inject)

/-- TRC_CTRL.TS; 3 acts as 2. -/
def State.traceTs (s : State) : Nat := min 2 (s.fget Blk.TRC Reg.TRC_CTRL_TS)

def State.modTrace (s : State) (c : CoreId) (f : TraceUnit → TraceUnit) : State :=
  { s with trace := s.trace.set c.val (f (s.trace.get c)) c.isLt }

/-! Packets (R362). -/

/-- One packet into the buffer of 4 KiB; one that does not fit, and those after it, are discarded (R363). -/
def TraceUnit.put (u : TraceUnit) (p : List Byte) : TraceUnit :=
  if u.discarding then u
  else if 4096 < u.buf.length + p.length then { u with discarding := true }
  else { u with buf := u.buf ++ p, bytes := u.bytes + p.length }

/-- An ATOM header: the atoms from bit 0 upward with the end marker above them, under bit 7. -/
def atomByte (l : List Bool) : Byte :=
  BitVec.ofNat 8 (128 + 2 ^ l.length + (l.zipIdx.map (fun p => if p.1 then 2 ^ p.2 else 0)).sum)

/-- The atoms not yet emitted become a packet. -/
def TraceUnit.flush (u : TraceUnit) : TraceUnit :=
  if u.atoms.isEmpty then u else { u with atoms := [] }.put [atomByte u.atoms]

/-- A packet other than ATOM, after the atoms before it. -/
def TraceUnit.packet (u : TraceUnit) (p : List Byte) : TraceUnit := u.flush.put p

/-- One atom; a full header is emitted at once. -/
def TraceUnit.atom (u : TraceUnit) (b : Bool) : TraceUnit :=
  let u := { u with atoms := u.atoms ++ [b] }
  if 6 ≤ u.atoms.length then u.flush else u

/-- The smallest n of an ADDR packet that reproduces a target from the last address. -/
def addrBytes (last target : Word) : Nat :=
  ((List.range 5).find? (fun i => decide (last.toNat % 2 ^ 50 / 2 ^ (8 * i + 10) = target.toNat % 2 ^ 50 / 2 ^ (8 * i + 10)))).elim 6 (· + 1)

/-- The bytes of ADDR. -/
def addrPacket (last target : Word) : List Byte :=
  BitVec.ofNat 8 (addrBytes last target) :: leBytes (addrBytes last target) (target.toNat / 4)

/-- ADDR. -/
def TraceUnit.address (u : TraceUnit) (t : Word) : TraceUnit := { u.packet (addrPacket u.addr t) with addr := t }

/-- EXCEPTION, with the ADDR packets of the return address and of the vector among its bytes. -/
def TraceUnit.exception (u : TraceUnit) (code src : Nat) (ret v : Word) : TraceUnit :=
  { u.packet (0x10 :: leBytes 1 code ++ leBytes 2 src ++ addrPacket u.addr ret ++ addrPacket ret v) with addr := v }

/-- The body of CONTEXT: WORLD and LEVEL, the basin, the stage-1 ASID. -/
def CoreArch.context (a : CoreArch) : BitVec 32 :=
  BitVec.ofNat 32 (worldBit a.world * 2 ^ 7 + levelCode a.level * 2 ^ 5 + (basinOf a).val * 2 ^ 8
    + (a.asid (regimeOf a.world a.level)).toNat * 2 ^ 16)

/-- What a change of gives a CONTEXT: its body and the VMID. -/
def CoreArch.ctxKey (a : CoreArch) : BitVec 38 := a.context ++ a.vmctl.setWidth 6

/-- The body of TIMESTAMP. -/
def State.stampBody (s : State) : List Byte := leBytes 4 s.ns ++ leBytes 1 s.sec

/-- ALIGN and SYNC at the bundle a core is at; its stream is under way. -/
def State.traceSync (s : State) (c : CoreId) : State :=
  let a := (s.core c).arch
  s.modTrace c (fun u =>
    let u := (u.packet (List.replicate 7 0 ++ [0x80])).put
      (0x40 :: leBytes 6 a.pc.toNat ++ leBytes 4 a.context.toNat ++ leBytes 6 s.sec ++ leBytes 4 s.ns)
    { u with addr := a.pc, ctx := a.ctxKey, bytes := 0, live := true })

/-- ALIGN and SYNC after 65,536 bytes of stream. -/
def State.traceLong (s : State) (c : CoreId) : State := if 65536 ≤ (s.trace.get c).bytes then s.traceSync c else s

/-- Tracing begins with ALIGN and SYNC where its conditions have come to hold; a state that is not enabled gives one
EXCLUDED and ends the stream; a unit that is switched off ends it without a packet (R361). -/
def State.traceCheck (s : State) (c : CoreId) : State :=
  let u := s.trace.get c
  if !(s.traceOn c) then (if u.live then s.modTrace c (fun u => { u with live := false, atoms := [] }) else s)
  else if !(s.traceGrant c) then
    (if u.live then s.modTrace c (fun u => { u.packet [0x60] with live := false }) else s)
  else if s.traceAwake c && !u.live then s.traceSync c
  else s

/-- Every unit checked, after a change of what decides whether it traces. -/
def State.traceCheckAll (s : State) : State := foldL allCores (fun c t => t.traceCheck c) s

/-- Whether a core's stream is under way and goes on. -/
def State.tracing (s : State) (c : CoreId) : Bool := (s.trace.get c).live && s.traceOn c && s.traceGrant c

/-- CONTEXT with its TIMESTAMP, where world, level, VMID or ASID have changed. -/
def State.traceContext (s : State) (c : CoreId) : State :=
  let a := (s.core c).arch
  if (s.trace.get c).ctx = a.ctxKey then s
  else s.modTrace c (fun u =>
    let u := { u.packet (0x20 :: leBytes 4 a.context.toNat) with ctx := a.ctxKey }
    if 1 ≤ s.traceTs then u.put (0x30 :: s.stampBody) else u)

/-- EXCEPTION with the ADDR packets of the return address and of the vector, and its TIMESTAMP; an entry into a state
that is not enabled gives EXCLUDED in its place, one out of such a state ALIGN and SYNC. -/
def State.traceEntry (s : State) (c : CoreId) (code src : Nat) (ret : Word) : State :=
  if s.tracing c then
    let v := (s.core c).arch.pc
    let s := s.modTrace c (fun u =>
      let u := u.exception code src ret v
      if 1 ≤ s.traceTs then u.put (0x30 :: s.stampBody) else u)
    (s.traceContext c).traceLong c
  else s.traceCheck c

/-- ADDR of an indirect branch, RET or XRET; where an XRET leaves for a state that is not enabled, EXCLUDED. -/
def State.traceBranch (s : State) (c : CoreId) (t : Word) : State :=
  if s.tracing c then (((s.modTrace c (fun u => u.address t)).traceContext c).traceLong c) else s.traceCheck c

/-- One atom (R362). -/
def State.traceAtom (s : State) (c : CoreId) (b : Bool) : State :=
  if s.tracing c then (s.modTrace c (fun u => u.atom b)).traceLong c else s

/-- A bundle has been counted: CONTEXT where it changed, and the TIMESTAMP of every 4,096 bundles. -/
def State.traceBundle (s : State) (c : CoreId) : State :=
  if !(s.tracing c) then s.traceCheck c
  else
    let s := s.traceContext c
    let s := s.modTrace c (fun u => { u with bundles := u.bundles + 1 })
    let s := if 2 ≤ s.traceTs ∧ 4096 ≤ (s.trace.get c).bundles then
        s.modTrace c (fun u => { u.packet (0x30 :: s.stampBody) with bundles := 0 }) else s
    s.traceLong c

/-- SLEEP with a STATE (R363, R364): 1 HUSH, 2 DORMANT, 3 trace off, 4 halted, 5 cairn restart. The stream goes on with
ALIGN and SYNC. -/
def State.traceSleep (s : State) (c : CoreId) (st : Nat) : State :=
  if s.tracing c then
    s.modTrace c (fun u => { u.packet (0x50 :: s.stampBody ++ leBytes 1 st) with live := false })
  else s

end Sys2Proof.Machine
end

