-- ==== Sys2Proof/Machine/Entry.lean ====
section
/-! DEFINITION. Control registers (10_tarn_isa.md R187, R188; 15_worlds_basins.md R284), entering a level
(R279-R281, 11_tarn_pipeline.md R222-R224) and returning from it (R225, R283). -/

namespace Sys2Proof.Machine

/-- The absolute number of a control register: 0x100 + i is the set of the current level (R284), CTL is the copy of
the own world, CTLN the N copy (R187). -/
def ctlAbs (a : CoreArch) (num : BitVec 12) : Nat :=
  let n := num.toNat
  if 0x100 ≤ n ∧ n ≤ 0x104 then
    (match a.level, a.world with
     | .M, _ => 0x120
     | .H, _ => 0x118
     | _, .S => 0x110
     | _, .N => 0x108) + (n - 0x100)
  else if n = 0x010 then (if a.world = .N then 0x146 else 0x010)
  else n

/-- The numbers the spec defines (R187, R284, R243, R261, R311, R347). -/
def ctlDefined (n : Nat) : Bool :=
  n ≤ 4 || n == 0x010 || (0x100 ≤ n && n ≤ 0x104) || (0x108 ≤ n && n ≤ 0x10C) || (0x110 ≤ n && n ≤ 0x114)
    || (0x118 ≤ n && n ≤ 0x11C) || (0x120 ≤ n && n ≤ 0x124) || (0x130 ≤ n && n ≤ 0x147)
    || n == 0x180 || n == 0x181 || n == 0x190 || n == 0x191 || n == 0x1B0 || n == 0x1B1

/-- Numbers an MTCR to which raises ILLEGAL: LVL, TXST, SPT_CLAIM, DTBNOW, DTBSEC. -/
def ctlReadOnly (n : Nat) : Bool := n == 0x147 || n == 0x181 || n == 0x190 || n == 0x1B0 || n == 0x1B1

/-- Whether a number may be reached from a world and level (R284 and the register's own rule). -/
def ctlReach (w : World) (l : Level) (n : Nat) (isWrite : Bool) : Bool :=
  let m := decide (l = .M)
  let h := decide (l = .H)
  let nk := decide (l = .K) && decide (w = .N)
  let sk := decide (l = .K) && decide (w = .S)
  let k := nk || sk
  if n ≤ 4 then true
  else if n = 0x010 then !isWrite || decide (l ≠ .U)
  else if 0x100 ≤ n ∧ n ≤ 0x104 then decide (l ≠ .U)
  else if 0x108 ≤ n ∧ n ≤ 0x10C then nk || h || m
  else if 0x110 ≤ n ∧ n ≤ 0x114 then sk || m
  else if 0x118 ≤ n ∧ n ≤ 0x11C then h || m
  else if 0x120 ≤ n ∧ n ≤ 0x124 then m
  else if n = 0x130 ∨ n = 0x131 then nk || h || m
  else if n = 0x132 ∨ n = 0x133 then sk || m
  else if n = 0x134 then h || m
  else if n = 0x135 then m
  else if n = 0x136 then h || m
  else if n = 0x137 then (if isWrite then h || m else nk || h || m)
  else if n = 0x138 then k || h || m
  else if n = 0x139 then m
  else if n = 0x140 then sk || m
  else if n = 0x141 ∨ n = 0x142 then m
  else if n = 0x143 then nk || h || m
  else if n = 0x144 then h || m
  else if n = 0x145 then m
  else if n = 0x146 then m
  else if n = 0x180 then !isWrite || m
  else if n = 0x190 ∨ n = 0x191 then decide (l ≠ .U)
  else true

/-- One register of a handling set. -/
def HSet.reg (h : HSet) (i : Nat) : Word :=
  if i = 0 then h.epc else if i = 1 then h.estat else if i = 2 then h.ecause else if i = 3 then h.eaddr else h.evec

/-- One register of a handling set written, reserved bits left 0: EPC[1:0] and EVEC[10:0] read 0, ESTAT holds BUSY,
SWORLD and SLEVEL and a 1 written to BUSY is ignored (R284). -/
def HSet.setReg (h : HSet) (i : Nat) (v : Word) : HSet :=
  if i = 0 then { h with epc := v &&& 0xFFFFFFFFFFFFFFFC }
  else if i = 1 then
    { h with estat := (v &&& 7) ||| (if bitAt v 15 then h.estat &&& 0x8000 else 0) }
  else if i = 2 then { h with ecause := v &&& 0x00000FFF07EFF0FF }
  else if i = 3 then { h with eaddr := v }
  else { h with evec := v &&& 0xFFFFFFFFFFFFF800 }

/-- The value of a control register by absolute number; the ones kept outside the registers are read by MFCR itself. -/
def CoreArch.ctl (a : CoreArch) (n : Nat) : Word :=
  if n = 0 then (if a.flOV then 2 else 0) ||| (if a.flC then 1 else 0)
  else if n = 1 then a.fpc
  else if n = 2 then a.lpc
  else if n = 3 then a.lps.setWidth 64
  else if n = 4 then a.lpe.setWidth 64
  else if n = 0x010 then a.ctlS
  else if 0x108 ≤ n ∧ n ≤ 0x10C then a.nk.reg (n - 0x108)
  else if 0x110 ≤ n ∧ n ≤ 0x114 then a.sk.reg (n - 0x110)
  else if 0x118 ≤ n ∧ n ≤ 0x11C then a.hs.reg (n - 0x118)
  else if 0x120 ≤ n ∧ n ≤ 0x124 then a.ms.reg (n - 0x120)
  else if n = 0x130 then a.s1tb0N
  else if n = 0x131 then a.s1tb1N
  else if n = 0x132 then a.s1tb0S
  else if n = 0x133 then a.s1tb1S
  else if n = 0x134 then a.htb
  else if n = 0x135 then a.mtb
  else if n = 0x136 then a.s2tb
  else if n = 0x137 then a.vmctl
  else if n = 0x139 then a.mctl
  else if h : 0x140 ≤ n ∧ n ≤ 0x145 then a.banks.get ⟨n - 0x140, by omega⟩
  else if n = 0x146 then a.ctlN
  else if n = 0x147 then
    BitVec.ofNat 64 ((basinOf a).val * 16 + worldBit a.world * 4 + levelCode a.level)
  else if n = 0x180 then a.cachectl
  else if n = 0x191 then a.sptIe
  else 0

/-- The bits of SPT_IE that a level may write (16_spout_interrupts.md). -/
def ieMask (w : World) (l : Level) : Word :=
  match l, w with
  | .M, _ => 0xF
  | .H, _ => 0x5
  | .K, .N => 0x1
  | .K, .S => 0x2
  | .U, _ => 0

/-- A control register written by absolute number, reserved bits left 0 (R187, R284, R243). -/
def CoreArch.setCtl (a : CoreArch) (n : Nat) (v : Word) : CoreArch :=
  if n = 0 then { a with flOV := bitAt v 1, flC := bitAt v 0 }
  else if n = 1 then { a with fpc := v &&& 0x1F1F17 }
  else if n = 2 then { a with lpc := v }
  else if n = 3 then { a with lps := v.setWidth 48 &&& 0xFFFFFFFFFFFC }
  else if n = 4 then { a with lpe := v.setWidth 48 &&& 0xFFFFFFFFFFFC }
  else if n = 0x010 then { a with ctlS := v &&& 3 }
  else if 0x108 ≤ n ∧ n ≤ 0x10C then { a with nk := a.nk.setReg (n - 0x108) v }
  else if 0x110 ≤ n ∧ n ≤ 0x114 then { a with sk := a.sk.setReg (n - 0x110) v }
  else if 0x118 ≤ n ∧ n ≤ 0x11C then { a with hs := a.hs.setReg (n - 0x118) v }
  else if 0x120 ≤ n ∧ n ≤ 0x124 then { a with ms := a.ms.setReg (n - 0x120) v }
  else if n = 0x130 then { a with s1tb0N := v &&& 0xFFFF3FFFFFFFF001 }
  else if n = 0x131 then { a with s1tb1N := v &&& 0x00003FFFFFFFF001 }
  else if n = 0x132 then { a with s1tb0S := v &&& 0xFFFF3FFFFFFFF001 }
  else if n = 0x133 then { a with s1tb1S := v &&& 0x00003FFFFFFFF001 }
  else if n = 0x134 then { a with htb := v &&& 0xFFFF3FFFFFFFF001 }
  else if n = 0x135 then { a with mtb := v &&& 0xFFFF3FFFFFFFF001 }
  else if n = 0x136 then { a with s2tb := v &&& 0x00003FFFFFFFF001 }
  else if n = 0x137 then { a with vmctl := v &&& 0x3F }
  else if n = 0x139 then { a with mctl := v &&& 1 }
  else if h : 0x140 ≤ n ∧ n ≤ 0x145 then { a with banks := a.banks.set (n - 0x140) v (by omega) }
  else if n = 0x146 then { a with ctlN := v &&& 3 }
  else if n = 0x180 then { a with cachectl := v &&& 7 }
  else if n = 0x191 then { a with sptIe := v &&& 0xF }
  else a

/-- R305: every source of the core whose VMID is the only condition that fails sets its basin's bit of SPT_VMPEND. -/
def State.vmPend (s : State) (c : CoreId) : State :=
  let a := (s.core c).arch
  let b := Blk.spt (s.leadOf c).val
  s.rput b 0x020 ((s.srcNumbers.filter (fun n =>
      s.offered c n && !(s.vmidOk c n)
        && (accept282 a a.world a.level (s.anySrc c n).world (levelOfCode (s.anySrc c n).tlevel)).isSome)).foldl
    (fun w n => setBit w (s.anySrc c n).owner.val true) (s.rget b 0x020))

/-- What changes in a core besides the register when a control write comes into force: CACHECTL drops L1 lines
(R243). -/
def Core.inForce (k : Core) (n : Nat) (v : Word) : Core :=
  let k := { k with arch := k.arch.setCtl n v }
  if n = 0x180 then
    { k with l1d := if bitAt v 1 && bitAt v 2 then k.l1d else [], l1i := if bitAt v 0 then k.l1i else [] }
  else k

/-- Every control write brought into force, in order (R203 ISYNC, R226). -/
def Core.allInForce (k : Core) : Core :=
  { k.ctl.foldl (fun k w => k.inForce w.num.toNat w.val) k with ctl := [] }

/-- The core with its fixed-latency results landed (R193) and its control writes in force (R226): what an entry and an
exit find in cycle 7. -/
def Core.drained (k : Core) : Core := Core.allInForce { k with arch := landAll k.arch k.pend, pend := [] }

/-- The codes of ECAUSE.CODE (R284). -/
def causeCode : Cause → Nat
  | .illegal => 1
  | .privileged => 2
  | .align => 3
  | .divzero => 4
  | .fptrap => 5
  | .iabort => 6
  | .dabort => 7
  | .translation => 8
  | .accessFlag => 9
  | .permission => 10
  | .kcall => 11
  | .hcall => 12
  | .mcall => 13
  | .interrupt => 14
  | .guard => 15
  | .nested => 16
  | .xworld => 17

/-- ECAUSE of an exception (R284). -/
def ecauseOf (e : Exc) : Word :=
  BitVec.ofNat 64 (causeCode e.cause + kindCode e.kind * 2 ^ 12 + (if e.s1walk then 2 ^ 14 else 0)
    + (if e.imprecise then 2 ^ 15 else 0) + e.walk * 2 ^ 16 + (if e.stage2 then 2 ^ 21 else 0)
    + e.fpflags.toNat * 2 ^ 22 + e.imm.toNat * 2 ^ 32)

/-- The world of a level (R276): H is N, M is S. -/
def worldAt (w : World) (l : Level) : World :=
  match l with
  | .M => .S
  | .H => .N
  | _ => w

/-- The offset of an entry from EVEC.BASE (R281). -/
def vectorOffset (e : Exc) (sw : World) (sl : Level) (w : World) (l : Level) : Word :=
  match e.cause with
  | .guard => 0x0C0
  | .nested => 0x0C0
  | .xworld => 0x0C0
  | .interrupt => 0x080
  | _ => if sw = w ∧ sl = l then 0x000 else 0x040

/-- R280, cycle 7: the handling set of the target level is written and the core is at the vector (R281). -/
def CoreArch.entered (a : CoreArch) (w : World) (l : Level) (e : Exc) (ret : Word) (sw : World) (sl : Level) : CoreArch :=
  let h := a.hset w l
  let h : HSet :=
    { h with epc := ret &&& 0xFFFFFFFFFFFFFFFC,
             estat := BitVec.ofNat 64 (2 ^ 15 + worldBit sw * 4 + levelCode sl),
             ecause := ecauseOf e, eaddr := e.addr }
  { (a.setHset w l h) with world := w, level := l, pc := h.evec + vectorOffset e sw sl w l }

/-- The NESTED exception that stands for an entry to a busy level (R280). -/
def nestedExc (e : Exc) (w : World) (l : Level) : Exc :=
  { Exc.mk0 .nested 0 .read with
    imm := BitVec.ofNat 12 (causeCode e.cause + levelCode l * 2 ^ 8 + worldBit w * 2 ^ 10) }

/-- Entering level `l` of world `w` from the state the core is in, with the return address `ret` (R280, R281). A busy
target goes to M as NESTED; a busy M freezes the core with cause NESTED_M. The trace unit names the source `src` (R362). -/
def State.enterBy (s : State) (c : CoreId) (w : World) (l : Level) (e : Exc) (ret : Word) (src : Nat) : State :=
  let s := (s.traceCheck c).modCore c (fun k => { k.drained with bundle := Bundle.empty, waiting := none })
  let a := (s.core c).arch
  if !(a.hset w l).busy then
    (s.modArch c (fun a => a.entered w l e ret a.world a.level)).traceEntry c (causeCode e.cause) src ret
  else if decide (l ≠ .M) && !a.ms.busy then
    (s.modArch c (fun a => a.entered .S .M (nestedExc e w l) ret a.world a.level)).traceEntry c 16 0x3FF ret
  else s.freezeCore c 3 ⟨coreAcc c a, a.pc.toNat % 2 ^ 46, .fetch, some 0⟩

/-- An entry that no source brings about. -/
def State.enterLevel (s : State) (c : CoreId) (w : World) (l : Level) (e : Exc) (ret : Word) : State :=
  s.enterBy c w l e ret 0x3FF

/-- The level a synchronous exception enters (R279): H for a stage-2 fault, K for one raised at U, otherwise the level
of the code. -/
def excTarget (a : CoreArch) (e : Exc) : World × Level :=
  if e.stage2 then (.N, .H)
  else match a.level with
    | .U => (a.world, .K)
    | l => (worldAt a.world l, l)

/-- A synchronous exception of a core's bundle (R185, R224, R279): inside a transaction it aborts that instead (R260);
that of an injected bundle is not taken, and its code goes to ERRCODE (R359). -/
def State.raise (s : State) (c : CoreId) (e : Exc) (ret : Word) : State :=
  if (s.core c).dbg.inject then
    s.modCore c (fun k => { k with bundle := Bundle.empty, dbg := { k.dbg with errcode := BitVec.ofNat 8 (causeCode e.cause) } })
  else if (s.core c).txn.isSome then s.txAbort c 9 0
  else
    let t := excTarget (s.core c).arch e
    s.enterLevel c t.1 t.2 e ret

/-- KCALL, HCALL and MCALL (R201, R279): the level called, `none` where the instruction is ILLEGAL. -/
def callTarget (a : CoreArch) (cause : Cause) : Option (World × Level) :=
  match cause with
  | .kcall => if a.level = .U then some (a.world, .K) else none
  | .hcall => if a.level = .K ∧ a.world = .N then some (.N, .H) else none
  | .mcall => if a.level = .K ∨ a.level = .H then some (.S, .M) else none
  | _ => none

/-- The saved state of a handling set (ESTAT). -/
def HSet.savedWorld (h : HSet) : World := worldOf (bits h.estat.toNat 2 2)
def HSet.savedLevel (h : HSet) : Level :=
  let n := bits h.estat.toNat 1 0
  if n = 0 then .U else if n = 1 then .K else if n = 2 then .H else .M

/-- R283: whether an XRET from a level may return to a saved state. -/
def xretOk (w : World) (l : Level) (sw : World) (sl : Level) (sok : Bool) : Bool :=
  let shape :=
    (match sl with
     | .H => decide (sw = .N)
     | .M => decide (sw = .S)
     | _ => true)
  let allowed :=
    match l with
    | .K => (decide (sl = .U) || decide (sl = .K)) && decide (sw = w)
    | .H => decide (sw = .N) && decide (sl ≠ .M)
    | .M => true
    | .U => false
  shape && allowed && (sok || !(decide (sw = .S) && decide (sl ≠ .M)))

/-- The first source that would be accepted at the state saved in the level being left, which is free again (R225). -/
def State.chainSource (s : State) (c : CoreId) (w : World) (l : Level) (sw : World) (sl : Level) : Option (Nat × World × Level) :=
  let a := (s.core c).arch
  let h := a.hset w l
  let a' := a.setHset w l { h with estat := h.estat &&& 0x7FFF }
  s.srcNumbers.findSome? (fun n =>
    if s.offered c n && s.vmidOk c n then
      let x := s.anySrc c n
      match accept282 a' sw sl x.world (levelOfCode x.tlevel) with
      | some (.enter w' l') => some (n, w', l')
      | _ => none
    else none)

/-- R225: the exit of XRET. A pending source that the saved state would accept is tail-chained, keeping the saved
state; otherwise the saved state is restored and BUSY clears. -/
def State.xretExit (s : State) (c : CoreId) : State :=
  let s := (s.traceCheck c).modCore c Core.drained
  let a := (s.core c).arch
  let w := a.world
  let l := a.level
  let h := a.hset w l
  let s := s.modCore c (fun k => k.setAct w l 0x3FF)
  match s.chainSource c w l h.savedWorld h.savedLevel with
  | some (n, w', l') =>
    let s := s.modArch c (fun a =>
      let a := a.setHset w l { h with estat := h.estat &&& 0x7FFF }
      let t := a.hset w' l'
      let t : HSet := { t with epc := h.epc, estat := h.estat ||| 0x8000, eaddr := 0,
                               ecause := ecauseOf { Exc.mk0 .interrupt 0 .read with imm := 0 } }
      { (a.setHset w' l' t) with world := w', level := l', pc := t.evec + 0x080 })
    ((s.modCore c (fun k => k.setAct w' l' (BitVec.ofNat 10 n))).bump (Blk.spt c.val) Ctr.SPT_CHAINED).traceEntry c 14 n h.epc
  | none =>
    (s.modArch c (fun a =>
      { (a.setHset w l { h with estat := h.estat &&& 0x7FFF }) with
        world := h.savedWorld, level := h.savedLevel, pc := h.epc })).traceBranch c h.epc

end Sys2Proof.Machine
end

