-- ==== Sys2Proof/Machine/RegGen.lean ====
section
/-! DEFINITION. Register access by the tables (00_scope.md R7-R9, R387; 01_device_organisation.md R22-R26): what a read
returns and what a write leaves, before any rule of a register's own. -/

namespace Sys2Proof.Machine

/-- The mask of the bits an access covers: all, or one half (R7). -/
def halfMask (wide high : Bool) : Word := if wide then BitVec.allOnes 64 else if high then 0xFFFFFFFF00000000 else 0xFFFFFFFF

/-- A register access of the block range (R7): the register's offset and the bits it covers; none for a bad form. -/
def regForm (off size : Nat) : Option (Nat × Word) :=
  if size = 8 ∧ off % 8 = 0 then some (off, halfMask true false)
  else if size = 4 ∧ off % 4 = 0 then some (off / 8 * 8, halfMask false (decide (off % 8 = 4)))
  else none

/-- FUNC_MODE.EXPERT of a block (R25). -/
def State.expert (s : State) (b : Nat) : Bool := bitAt (s.rget b 0x3F8) 0
/-- FUNC_MODE.LOCK of a block (R25). -/
def State.lockBit (s : State) (b : Nat) : Bool := bitAt (s.rget b 0x3F8) 2

/-- The 64 bits a read of a register shows, given what it holds (R8): WO fields read 0, RWX fields read 0 while
EXPERT = 0, reserved bits read 0. -/
def showFields (ex : Bool) (fs : List FieldDesc) (w : Word) : Word :=
  fs.foldl (fun v d =>
    match d.acc with
    | .wo => v
    | .rwx => if ex then v ||| (w &&& maskBits d.hi d.lo) else v
    | _ => v ||| (w &&& maskBits d.hi d.lo)) 0

/-- One field after a write of the bits `m` of `v` (R8, R9). -/
def writeField (ex lk : Bool) (m v : Word) (w : Word) (d : FieldDesc) : Word :=
  let f := maskBits d.hi d.lo &&& m
  match d.acc with
  | .ro => w
  | .wo => w
  | .rw => (w &&& ~~~f) ||| (v &&& f)
  | .w1c => w &&& ~~~(v &&& f)
  | .w1s => w ||| (v &&& f)
  | .rwl => if lk then w else (w &&& ~~~f) ||| (v &&& f)
  | .rwx => if ex then (w &&& ~~~f) ||| (v &&& f) else w

/-- A register after a write of the bits `m` of `v` (R8, R9). -/
def writeFields (ex lk : Bool) (fs : List FieldDesc) (m v w : Word) : Word := fs.foldl (writeField ex lk m v) w

/-- A write of the bits `m` of `v` covers a bit of an RWX field (R8). -/
def coversRwx (fs : List FieldDesc) (m : Word) : Bool :=
  fs.any (fun d => decide (d.acc = .rwx) && decide (maskBits d.hi d.lo &&& m ≠ 0))

/-- What the register would hold after a write: R387's relations and values are judged on it. -/
def State.wouldHold (s : State) (b off : Nat) (m v : Word) : Word :=
  writeFields (s.expert b) (s.lockBit b) (fieldsAt b off) m v (s.rget b off)

/-- The value a write gives a field, whether stored or acted on: the written bits where covered, else what it holds. -/
def State.written (s : State) (b : Nat) (f : Fld) (m v : Word) : Nat :=
  bits (((s.rget b f.off) &&& ~~~m) ||| (v &&& m)).toNat f.hi f.lo

/-- The written value of the covered bits of a WO field; bits not covered count 0. -/
def woVal (f : Fld) (m v : Word) : Nat := bits (v &&& m).toNat f.hi f.lo

/-- Whether the bits `m` of a write cover a bit of a field. -/
def covers (f : Fld) (m : Word) : Bool := decide (maskBits f.hi f.lo &&& m ≠ 0)

/-- Whether a field ignores every write for now: RWL after LOCK, RWX while EXPERT = 0, RO (R8, R387). -/
def State.deaf (s : State) (b : Nat) (f : Fld) : Bool :=
  (fieldsAt b f.off).any (fun d => decide (d.lo = f.lo) &&
    (match d.acc with
     | .rwl => s.lockBit b
     | .rwx => !(s.expert b)
     | .ro => true
     | _ => false))

/-- R387: a condition on the value a field would hold, judged where the write covers the field and the field takes
writes. -/
def State.okField (s : State) (b : Nat) (f : Fld) (m v : Word) (p : Nat → Bool) : Bool :=
  !(covers f m) || s.deaf b f || p (bits (s.wouldHold b f.off m v).toNat f.hi f.lo)

/-- The value a field would hold after a write of its register (R387). -/
def State.after (s : State) (b : Nat) (f : Fld) (m v : Word) : Nat :=
  bits (s.wouldHold b f.off m v).toNat f.hi f.lo

/-- A write that carries a field's bits of value `n`: 1 in a one-bit field. -/
def hits (f : Fld) (m v : Word) : Bool := decide (woVal f m v ≠ 0)

/-- A read value assembled from fields. -/
def packFields (l : List (Fld × Nat)) : Word :=
  l.foldl (fun w e => w ||| (BitVec.ofNat 64 (e.2 % 2 ^ (e.1.hi + 1 - e.1.lo)) <<< e.1.lo)) 0

/-- R8: a write by the field table, with the IGNORED indication of RWX fields. -/
def State.tableWrite (s : State) (b off : Nat) (m v : Word) : State :=
  let fs := fieldsAt b off
  let s1 := s.rput b off (s.wouldHold b off m v)
  if coversRwx fs m && !(s.expert b) then s1.rput b 0x3F8 (setBit (s1.rget b 0x3F8) 1 true) else s1

/-- R8: a read by the field table. -/
def State.tableRead (s : State) (b off : Nat) : Word := showFields (s.expert b) (fieldsAt b off) (s.rget b off)

/-- The power domain of a block (R12); none for the blocks of the AON, for guards and per-core Spouts, which are served
whatever the state of their master's domain (R24), and for the SA and SPL blocks, to which R12 gives no single domain. -/
def blockPd (b : Nat) : Option Nat :=
  if b ≤ 5 then none
  else if b = 6 ∨ b = 7 then some 94
  else if b = 8 ∨ b = 9 then none
  else if b = 10 ∨ b = 11 then some (92 + (b - 10))
  else if b ≤ 15 then some 91
  else if b = 16 ∨ b = 17 then some 95
  else if b < 64 then some (86 + (b - 32) / 8)
  else if b < 96 then some (86 + (b - 64) / 8)
  else if b < 98 then some 90
  else if b < 136 then some (64 + (b - 128))
  else if b < 146 then some (72 + (b - 136))
  else if b < 256 then some (64 + (b - 192) / 8)
  else if b < 352 then some 94
  else if b < 384 then some (32 + (b - 352))
  else if b < 416 then some (b - 384)
  else if b = 464 then some 94
  else none

/-- R24, R343: a block whose domain is off or hushed is not served; while the domain changes, it is. -/
def State.blockServed (s : State) (b : Nat) : Bool :=
  match blockPd b with
  | none => true
  | some d => decide (s.pwr d = 0) || decide (s.pwr d = 3)

end Sys2Proof.Machine
end

