-- ==== Sys2Proof/Machine/RidgeOps.lean ====
section
/-! DEFINITION. Ridge flits, routing and sending (09_ridge_links.md R169-R174): what a core's ridge-window access and
the links' own commands share. -/

namespace Sys2Proof

open Machine

/-! Header fields (R169). -/
def Flit.ty (f : Flit) : Nat := bits f.hdr.toNat 63 60
def Flit.dst (f : Flit) : Nat := bits f.hdr.toNat 59 57
def Flit.src (f : Flit) : Nat := bits f.hdr.toNat 56 54
def Flit.hops (f : Flit) : Nat := bits f.hdr.toNat 53 52
def Flit.isFirst (f : Flit) : Bool := bitAt f.hdr 51
def Flit.isLast (f : Flit) : Bool := bitAt f.hdr 50
def Flit.len (f : Flit) : Nat := bits f.hdr.toNat 47 40
def Flit.seq (f : Flit) : BitVec 12 := BitVec.ofNat 12 (bits f.hdr.toNat 39 28)
def Flit.ack (f : Flit) : BitVec 12 := BitVec.ofNat 12 (bits f.hdr.toNat 27 16)
def Flit.tag (f : Flit) : BitVec 16 := BitVec.ofNat 16 (bits f.hdr.toNat 15 0)

namespace Machine

/-- A header from its fields (R169). -/
def mkHdr (ty dst src hops : Nat) (first last : Bool) (len : Nat) (seq ack : BitVec 12) (tag : BitVec 16) : Word :=
  BitVec.ofNat 64 (ty * 2 ^ 60 + dst % 8 * 2 ^ 57 + src % 8 * 2 ^ 54 + hops % 4 * 2 ^ 52
    + (if first then 2 ^ 51 else 0) + (if last then 2 ^ 50 else 0) + len % 256 * 2 ^ 40 + seq.toNat * 2 ^ 28
    + ack.toNat * 2 ^ 16 + tag.toNat)

/-- The four classes of R173: 0 CTRL, 1 REQ, 2 RSP, 3 FRAME. -/
def flitClass (ty : Nat) : Nat := if ty = 1 then 3 else if ty = 2 then 1 else if ty = 3 then 2 else 0

def State.link (s : State) (l : LinkId) : RLink := s.links.get l
def State.modLink (s : State) (l : LinkId) (f : RLink → RLink) : State :=
  { s with links := s.links.set l.val (f (s.links.get l)) l.isLt }

/-- Whether a link is UP (RDG_LSTATUS.STATE). -/
def State.linkUp (s : State) (l : Nat) : Bool := decide (s.fget (Blk.rdg l) Reg.RDG_LSTATUS_STATE = 5)

/-- The device's own board-group index (R167). -/
def State.myIndex (s : State) : Nat := s.fget Blk.RDG0 Reg.RDG_GROUP_INDEX

/-- The entry of RDG_ROUTE for a destination (R171). -/
def State.routeEntry (s : State) (n : Nat) : Nat := bits (s.rget Blk.RDG0 0x008).toNat (8 * n + 7) (8 * n)

/-- The UP links of a route's mask, rising (R171). -/
def State.routeLinks (s : State) (n : Nat) : List Nat :=
  (List.range 4).filter (fun l => decide ((s.routeEntry n >>> l) % 2 = 1) && s.linkUp l)

/-- R171: the link a flit for `n` with a TAG leaves on. -/
def State.route (s : State) (n : Nat) (tag : BitVec 16) : Option Nat :=
  if n = s.myIndex then none
  else
    let ls := s.routeLinks n
    if ls.length = 0 then
      (let alt := bits (s.routeEntry n) 5 4
       if bits (s.routeEntry n) 6 6 = 1 ∧ s.linkUp alt then some alt else none)
    else ls[tag.toNat % ls.length]?

/-- RDG_GROUP.PRESENT bit `n` (R171). -/
def State.present (s : State) (n : Nat) : Bool := (s.route n 0).isSome

/-- A flit put on a link (R169, R170): a sequenced one takes the next SEQ and enters the replay buffer, or waits for
room in its 512 places. -/
def State.linkPut (s : State) (l : LinkId) (f : Flit) : State :=
  let k := s.link l
  if 1 ≤ f.ty ∧ f.ty ≤ 5 then
    if 512 ≤ k.replay.length then s.modLink l (fun k => { k with waitq := k.waitq ++ [f] })
    else
      let g : Flit :=
        { f with hdr := mkHdr f.ty f.dst f.src f.hops f.isFirst f.isLast f.payload.length k.txSeq k.rxSeq f.tag }
      let s := s.modLink l (fun k => { k with txSeq := k.txSeq + 1, replay := k.replay ++ [g] })
      { (s.bump (Blk.rdg l.val) Ctr.RDG_FLITS_TX) with out := Out.flit l g :: s.out }
  else
    let g : Flit :=
      { f with hdr := mkHdr f.ty f.dst f.src f.hops f.isFirst f.isLast f.payload.length 0 k.rxSeq f.tag }
    let s := if f.ty = 0 then s else s.bump (Blk.rdg l.val) Ctr.RDG_FLITS_TX
    { s with out := Out.flit l g :: s.out }

/-- The stream a flit belongs to, as this device knows it (R173). -/
def State.streamOf (s : State) (f : Flit) : Option RStream :=
  s.streams.find? (fun r => r.src == f.src && r.dst == f.dst && r.cls == flitClass f.ty && r.tag == f.tag)

/-- The link a flit of a stream takes: none without a route (R171), otherwise the one its stream uses while that is UP, or
the choice of R171 (R173). -/
def State.streamLink (s : State) (f : Flit) : Option Nat :=
  (s.route f.dst f.tag).map (fun n =>
    match s.streamOf f with
    | some r => if s.linkUp r.link then r.link else n
    | none => n)

/-- A stream's link and time noted (R173). -/
def State.noteStream (s : State) (f : Flit) (l : Nat) : State :=
  { s with streams := ⟨f.src, f.dst, flitClass f.ty, f.tag, l, s.tb.ticks⟩ ::
      s.streams.filter (fun r => !(r.src == f.src && r.dst == f.dst && r.cls == flitClass f.ty && r.tag == f.tag)) }

/-- A flit sent towards its destination; none, counted in DROP_REROUTE, when it has no route (R171). -/
def State.sendFlit (s : State) (f : Flit) : State × Option Nat :=
  match s.streamLink f with
  | none => (s.bump Blk.RDG0 Ctr.RDG0_DROP_REROUTE, none)
  | some l => ((s.noteStream f l).linkPut (Fin.ofNat 4 l) f, some l)

/-- The TAG that names an issuing master: its guard's number (R174). DESIGN CHOICE, notes/assumptions/22.md. -/
def masterTag (m : Master) : BitVec 16 := BitVec.ofNat 16 ((guardOf m).getD 0xFFFF)

/-- The payload of a REQ flit (R174). -/
def reqPayload (addr op size : Nat) (acc : Access) (ty : RType) (fn : BitVec 6) (data : List Byte) : List Byte :=
  let t := match ty with
    | .device => 1
    | .deviceE => 2
    | _ => 0
  leBytes 8 addr ++ [BitVec.ofNat 8 op, BitVec.ofNat 8 size, BitVec.ofNat 8 (acc.basin.val + 128 * worldBit acc.world),
    BitVec.ofNat 8 t, BitVec.ofNat 8 fn.toNat, 0, 0, 0] ++ data ++ List.replicate (64 - data.length) 0

/-- R174: a ridge-window access sent as a REQ. The number of the request; without a route it is answered locally with
REFUSED and there is none. -/
def State.reqSend (s : State) (acc : Access) (dev op addr size : Nat) (ty : RType) (fn : BitVec 6) (data : List Byte)
    (part : Nat) (va : Word) : State × Option Nat :=
  let tag := masterTag acc.src
  let f : Flit := ⟨mkHdr 2 dev s.myIndex 0 false false 80 0 0 tag, reqPayload addr op size acc ty fn data⟩
  let r := s.sendFlit f
  match r.2 with
  | none => (r.1.bump Blk.RDG0 Ctr.RDG0_REQ_REFUSED, none)
  | some l =>
    let id := r.1.ridgeReq
    ({ r.1 with ridgeReq := id + 1, rreqs := r.1.rreqs ++ [⟨id, acc, tag, dev, op, addr, size, ty, part, va, l⟩] }, some id)

/-- R174: an error record of class RIDGE_WRITE at the issuer, with the master's guard as its unit (R331). -/
def State.ridgeWriteError (s : State) (acc : Access) (pa : Nat) : State :=
  match guardOf acc.src with
  | some g => s.errRecord { cls := 19, kind := 9, index := g, basin := acc.basin, world := acc.world, addr := pa, info := 0 }
  | none => s

/-- Ridge accesses of a core that are not answered: DEVICE ones hold every later access (R238). -/
def State.ridgeBusy (s : State) (c : CoreId) : Bool :=
  s.rreqs.any (fun r => decide (r.acc.src = .core c) && decide (r.ty = .device))
/-- Any ridge access of a core that is not answered. -/
def State.ridgeOpen (s : State) (c : CoreId) : Bool := s.rreqs.any (fun r => decide (r.acc.src = .core c))

end Machine
end Sys2Proof
end

