-- ==== Sys2Proof/Machine/Dma.lean ====
section
/-! DEFINITION. Memory accesses that the device makes with a master's rights (R13, R18, R78, R113, R148, R292, R295):
rings, command blocks, files. -/

namespace Sys2Proof.Machine

/-- How such an access ends. -/
inductive DmaAns where
  | ok
  | refused
  | unserved
  | poison
  deriving DecidableEq, Repr

/-- `n` bytes from byte `i` of a list on. -/
abbrev part (l : List Byte) (i n : Nat) : List Byte := (l.drop i).take n

/-- The parts of an access within single 64-byte lines. -/
def linePieces (pa n : Nat) : List (Nat × Nat) :=
  let first := pa / 64
  let last := (pa + n - 1) / 64
  (List.range (if n = 0 then 0 else last + 1 - first)).map (fun i =>
    let lo := if i = 0 then pa else (first + i) * 64
    let hi := if first + i = last then pa + n else (first + i + 1) * 64
    (lo, hi - lo))

/-- R295: the guard of a master freezes it; both guards of a locked pair do. -/
def State.freezeMaster (s : State) (a : Access) (pa : Nat) (k : AccKind) (e : Option Nat) : State :=
  match a.src with
  | .core c => s.freezeCore c 1 ⟨a, pa, k, e⟩
  | m => match guardOf m with
    | some g => s.freezeGuard g 1 ⟨a, pa, k, e⟩
    | none => s

/-- Whether a place is memory that such an access can reach: the cistern or the Pool SRAM. A register block, the
spillway window and the ridge windows take typed accesses of cores only (R20, R21, R23). -/
def State.memServed (s : State) (pa : Nat) : Bool :=
  s.served pa && (match s.dest pa with
    | .cis => true
    | .sram _ _ => true
    | _ => false)

/-- Bytes read with a master's rights, line by line; the first part that is refused or not served ends it. -/
def State.dmaRead (s : State) (a : Access) (pa n : Nat) : State × List Byte × DmaAns :=
  (linePieces pa n).foldl (fun (r : State × List Byte × DmaAns) p =>
    match r.2.2 with
    | .refused => r
    | .unserved => r
    | ans =>
      if r.1.frozen a.src then (r.1, r.2.1, .refused)
      else
        match r.1.guard a p.1 p.2 .read with
        | .refuse e => (r.1.freezeMaster a p.1 .read e, r.2.1, .refused)
        | .ok _ _ _ =>
          if r.1.memServed p.1 then
            let q := r.1.cohRead p.1 p.2
            (q.1, r.2.1 ++ q.2.1, if q.2.2 then .poison else ans)
          else (r.1.unservedRecord a p.1, r.2.1, .unserved)) (s, [], .ok)

/-- Bytes written with a master's rights, line by line; the first part that is refused or not served ends it. -/
def State.dmaWrite (s : State) (a : Access) (pa : Nat) (bs : List Byte) : State × DmaAns :=
  (linePieces pa bs.length).foldl (fun (r : State × DmaAns) p =>
    match r.2 with
    | .ok =>
      if r.1.frozen a.src then (r.1, .refused)
      else
        match r.1.guard a p.1 p.2 .write with
        | .refuse e => (r.1.freezeMaster a p.1 .write e, .refused)
        | .ok _ _ _ =>
          if r.1.memServed p.1 then (r.1.cohWrite p.1 (part bs (p.1 - pa) p.2), .ok)
          else (r.1.unservedRecord a p.1, .unserved)
    | _ => r) (s, .ok)

/-- Bytes read by a mover of R292, line by line; what is not served reads 0 and is recorded once (R18). The last part
tells of poison. -/
def State.moverRead (s : State) (mover pa n : Nat) : State × List Byte × Bool :=
  let r := (linePieces pa n).foldl (fun (r : State × List Byte × Bool × Bool) p =>
    if r.1.dest p.1 = .unserved then
      (if r.2.2.2 then r.1 else r.1.unservedMover mover p.1, r.2.1 ++ List.replicate p.2 0, r.2.2.1, true)
    else
      let q := r.1.cohRead p.1 p.2
      (q.1, r.2.1 ++ q.2.1, r.2.2.1 || q.2.2, r.2.2.2)) (s, [], false, false)
  (r.1, r.2.1, r.2.2.1)

/-- Bytes written by a mover of R292, line by line; what is not served changes nothing and is recorded once (R18). -/
def State.moverWrite (s : State) (mover pa : Nat) (bs : List Byte) : State :=
  ((linePieces pa bs.length).foldl (fun (r : State × Bool) p =>
    if r.1.dest p.1 = .unserved then (if r.2 then r.1 else r.1.unservedMover mover p.1, true)
    else (r.1.cohWrite p.1 (part bs (p.1 - pa) p.2), r.2)) (s, false)).1

end Sys2Proof.Machine
end

