-- ==== Sys2Proof/Machine/TraceOut.lean ====
section
/-! DEFINITION. The trace formatter, its outputs and the trace DMA (19_debug_trace.md R363-R367). The rates of the outputs
are left out: DESIGN CHOICE, notes/assumptions/37.md. -/

namespace Sys2Proof.Machine

/-- A frame of the formatter (R365). -/
def traceFrame (c : CoreId) (payload : List Byte) : List Byte :=
  leBytes 1 c.val ++ leBytes 1 payload.length ++ payload ++ List.replicate (30 - payload.length) 0

/-- The attributes of the trace DMA's writes (R277, R366). -/
def State.traceAcc (s : State) : Access :=
  { src := .trace, world := worldOf (s.fget Blk.TRC Reg.TRC_BUF_BASE_WORLD),
    basin := Fin.ofNat 64 (bits (s.rget Blk.TRC 0x010).toNat 61 56), mbit := false }

def State.traceBase (s : State) : Nat := s.fget Blk.TRC Reg.TRC_BUF_BASE_BASE * 4096
def State.traceSize (s : State) : Nat := s.fget Blk.TRC Reg.TRC_BUF_SIZE_SIZE * 4096

/-- Where the next frame goes: PTR, or BASE where PTR lies outside the buffer. -/
def State.tracePtr (s : State) : Nat :=
  let p := s.fget Blk.TRC Reg.TRC_BUF_PTR_PTR
  if s.traceBase ≤ p ∧ p ≤ s.traceBase + s.traceSize then p else s.traceBase

/-- Every unit is made to emit OVERFLOW (R366). -/
def State.traceForceOverflow (s : State) : State :=
  { s with trace := s.trace.map (fun u => if u.live then { u with discarding := true } else u) }

/-- PTR after a frame (R366): HALF at the middle and at the end, wrap in MODE 0, STOPPED in MODE 1. -/
def State.traceAdvance (s : State) (p : Nat) : State :=
  let q := p + 32
  let stop := s.traceBase + s.traceSize
  let s := if q = s.traceBase + s.traceSize / 2 ∨ q = stop then s.fset Blk.TRC Reg.TRC_STATUS_HALF 1 else s
  if q < stop then s.fset Blk.TRC Reg.TRC_BUF_PTR_PTR q
  else if s.flag Blk.TRC Reg.TRC_BUF_SIZE_MODE then
    (s.fset Blk.TRC Reg.TRC_BUF_PTR_PTR stop).fset Blk.TRC Reg.TRC_STATUS_STOPPED 1
  else (s.fset Blk.TRC Reg.TRC_BUF_PTR_PTR s.traceBase).fset Blk.TRC Reg.TRC_BUF_PTR_WRAPPED 1

/-- A frame written by the trace DMA (R366): SIZE 0, a stopped buffer and a frozen DMA discard it. -/
def State.traceDma (s : State) (f : List Byte) : State :=
  if s.traceSize = 0 ∨ s.traceBase + s.traceSize ≤ s.tracePtr then s
  else if s.frozen .trace then s.traceForceOverflow
  else
    let p := s.tracePtr
    let r := s.dmaWrite s.traceAcc p f
    match r.2 with
    | .refused => r.1.traceForceOverflow
    | _ => (r.1.traceAdvance p).bump Blk.TRC Ctr.TRC_FRAMES

/-- A frame to the output that TRC_CTRL.OUT selects (R365); 0 discards it. -/
def State.traceFrameOut (s : State) (f : List Byte) : State :=
  let o := s.fget Blk.TRC Reg.TRC_CTRL_OUT
  if o = 0 then s
  else if o = 3 then s.traceDma f
  else { (s.bump Blk.TRC Ctr.TRC_FRAMES) with out := .trace f :: s.out }

/-- One frame of a core's bytes leaves its buffer. -/
def State.traceStep (s : State) (c : CoreId) : State :=
  let b := (s.trace.get c).buf
  if b.isEmpty then s
  else (s.modTrace c (fun u => { u with buf := u.buf.drop 30 })).traceFrameOut (traceFrame c (b.take 30))

/-- A unit's buffer drained (R364): 4 KiB make at most 137 frames. -/
def State.traceDrain (s : State) (c : CoreId) : State := foldN 137 (fun _ t => t.traceStep c) s

/-- What the formatter does at a tick: one frame of each unit, while the output is not the DMA, whose frames are commands
of their own. -/
def State.traceTick (s : State) : State :=
  if s.fget Blk.TRC Reg.TRC_CTRL_OUT = 3 ∨ s.pwr 95 ≠ 0 then s else foldL allCores (fun c t => t.traceStep c) s

/-- SLEEP with a STATE, and the buffer drained (R364). -/
def State.traceSleepDrain (s : State) (c : CoreId) (st : Nat) : State := (s.traceSleep c st).traceDrain c

end Sys2Proof.Machine
end

