-- ==== Sys2Proof/Machine/DebugRegs.lean ====
section
/-! DEFINITION. The registers of the DBG and TRC blocks (19_debug_trace.md R352-R367). -/

namespace Sys2Proof.Machine

def State.modDbg (s : State) (c : CoreId) (f : CoreDbg → CoreDbg) : State :=
  s.modCore c (fun k => { k with dbg := f k.dbg })

/-- A halted core goes on with its next bundle (R358), its stream with ALIGN and SYNC (R364). -/
def State.dbgResume (s : State) (c : CoreId) : State :=
  (s.modDbg c (fun d => { d with halted := false, itr := none })).traceCheck c

/-- R355: after a change of what is enabled, a core halted in a state no longer enabled resumes with FORCED, and no unit
traces a state no longer enabled. -/
def State.authCheck (s : State) : State :=
  (foldL allCores (fun c t =>
    if t.invasive c then t
    else
      let t := t.modDbg c (fun d => { d with watched := 0 })
      if (t.core c).dbg.halted then (t.modDbg c (fun d => { d with forced := true })).dbgResume c else t) s).traceCheckAll

/-- The debug logic of every core and the registers of both blocks at their reset values: PD95 has been off (R343). -/
def State.dbgReset (s : State) : State :=
  { (foldL allCores (fun c t => t.modDbg c (fun _ => CoreDbg.reset)) s) with trace := Vector.replicate 32 TraceUnit.reset }

/-- The core that a master's copy of DBG_SEL names; T2n for a locked pair (R360). A master that is neither a core nor the
DAP uses the DAP's copy. DESIGN CHOICE, notes/assumptions/38.md. -/
def State.dbgCore (s : State) (m : Master) : CoreId :=
  match m with
  | .core c => s.leadOf (s.core c).dbg.sel.toFin
  | _ => s.leadOf (Fin.ofNat 32 (s.fget Blk.DBG Reg.DBG_SEL_CORE))

/-- DBG_SEL written: the master's own copy. -/
def State.wrDbgSel (s : State) (a : Access) (m v : Word) : State :=
  match a.src with
  | .core c => s.modDbg c (fun d =>
      { d with sel := BitVec.ofNat 5 (((BitVec.ofNat 64 d.sel.toNat &&& ~~~m) ||| (v &&& m)).toNat % 32) })
  | _ => s.tableWrite Blk.DBG 0x020 m v

/-- DBG_AUTH written (R353): GRANT while LOCK = 0, LOCK for good; other than from M nothing. -/
def State.wrDbgAuth (s : State) (a : Access) (m v : Word) : State :=
  if !a.mbit then s
  else
    let g := s.fget Blk.DBG Reg.DBG_AUTH_GRANT
    let lock := s.flag Blk.DBG Reg.DBG_AUTH_LOCK
    let t := s.tableWrite Blk.DBG 0x008 m v
    (if lock then t.fset Blk.DBG Reg.DBG_AUTH_GRANT g else t).authCheck

/-- DBG_CTRL written (R358): 1 HALT, 2 RESUME, 3 STEP. -/
def State.wrDbgCtrl (s : State) (c : CoreId) (m v : Word) : State :=
  let op := woVal Reg.DBG_CTRL_OP m v
  let d := (s.core c).dbg
  if op = 1 then (if d.halted then s else s.modDbg c (fun d => { d with halt := true }))
  else if op = 2 then (if d.halted then s.dbgResume c else s)
  else if op = 3 then
    (if d.halted then (s.modDbg c (fun d => { d with stepping := true })).dbgResume c else s)
  else s

/-- A write of the DBG block. From the N world the registers that act on a core are reached only in an enabled state. -/
def State.wrDbg (s : State) (a : Access) (off : Nat) (m v : Word) : State :=
  let c := s.dbgCore a.src
  let may := isS a.world || s.invasive c
  if off = 0x008 then s.wrDbgAuth a m v
  else if off = 0x020 then s.wrDbgSel a m v
  else if off = 0x028 then (if may then s.wrDbgCtrl c m v else s)
  else if off = 0x030 then (if may && hits Reg.DBG_STATUS_FORCED m v then s.modDbg c (fun d => { d with forced := false }) else s)
  else if off = 0x038 then
    (if may && (s.core c).dbg.halted then s.modDbg c (fun d => { d with itr := some (v &&& m) }) else s)
  else if off = 0x040 then (if may then s.modDbg c (fun d => { d with data := (d.data &&& ~~~m) ||| (v &&& m) }) else s)
  else if 0x080 ≤ off ∧ off < 0x0B0 then
    (if may then s.modDbg c (fun d =>
        let i : Fin 6 := Fin.ofNat 6 ((off - 0x080) / 8)
        { d with matches_ := d.matches_.set i.val (((d.matches_.get i &&& ~~~m) ||| (v &&& m)) &&& 0xC000FFFFFFFFFFFC) i.isLt })
     else s)
  else s.tableWrite Blk.DBG off m v

/-- A read of the DBG block. -/
def State.rdDbg (s : State) (a : Access) (off : Nat) : Word :=
  let d := (s.core (s.dbgCore a.src)).dbg
  if off = 0x000 then BitVec.ofNat 64 s.fuses.deny.toNat
  else if off = 0x020 then
    (match a.src with
     | .core c => BitVec.ofNat 64 (s.core c).dbg.sel.toNat
     | _ => s.tableRead Blk.DBG off)
  else if off = 0x030 then
    packFields [(Reg.DBG_STATUS_ERRCODE, d.errcode.toNat), (Reg.DBG_STATUS_FORCED, if d.forced then 1 else 0),
      (Reg.DBG_STATUS_STATE, if d.halted then 2 else if d.halt then 1 else 0)]
  else if off = 0x040 then d.data
  else if 0x080 ≤ off ∧ off < 0x0B0 then d.matches_.get (Fin.ofNat 6 ((off - 0x080) / 8))
  else s.tableRead Blk.DBG off

/-- A write of the TRC block: from M and from the DAP only. The buffer registers stand still while the DMA uses them;
EN set starts the buffer at its base (notes/assumptions/37.md). -/
def State.wrTrc (s : State) (a : Access) (off : Nat) (m v : Word) : State :=
  let busy := decide (s.fget Blk.TRC Reg.TRC_CTRL_OUT = 3) && s.flag Blk.TRC Reg.TRC_CTRL_EN
  if !(a.mbit || decide (a.src = .dap)) then s
  else if off = 0x000 then
    let t := s.tableWrite Blk.TRC 0x000 m v
    let t := if !(s.flag Blk.TRC Reg.TRC_CTRL_EN) && t.flag Blk.TRC Reg.TRC_CTRL_EN then
        (t.fset Blk.TRC Reg.TRC_BUF_PTR_WRAPPED 0).fset Blk.TRC Reg.TRC_BUF_PTR_PTR t.traceBase else t
    t.traceCheckAll
  else if off = 0x010 then
    (if busy then s
     else
       let t := s.tableWrite Blk.TRC off m v
       t.fset Blk.TRC Reg.TRC_BUF_PTR_PTR t.traceBase)
  else if off = 0x018 then (if busy then s else s.tableWrite Blk.TRC off m v)
  else if off = 0x008 then (s.tableWrite Blk.TRC off m v).traceCheckAll
  else s.tableWrite Blk.TRC off m v

end Sys2Proof.Machine
end

