-- ==== Sys2Proof/Machine/Crypto.lean ====
section
/-! DEFINITION. The functions of the standards that the spec cites and whose result it needs: the CRC-32 of the Ethernet
FCS (R86, R38), the CRC-64 of a flit (R169), AES (FIPS 197) and GCM (SP 800-38D) for SPP tags (R57) and MACsec
(R120). The standards are not in the spec: PRESUMED, notes/assumptions/11.md. -/

namespace Sys2Proof.Machine

/-- One bit step of a reflected CRC. -/
def crcBit (poly : Nat) (c : Nat) : Nat := if c % 2 = 1 then (c / 2) ^^^ poly else c / 2

/-- The CRC-32 of a byte string in the bit order of the Ethernet FCS. -/
def crc32 (l : List Byte) : Nat :=
  (l.foldl (fun c b =>
    (List.range 8).foldl (fun c _ => crcBit 0xEDB88320 c) (c ^^^ b.toNat)) 0xFFFFFFFF) ^^^ 0xFFFFFFFF

/-- The FCS bytes that follow a frame's bytes. -/
def fcsOf (l : List Byte) : List Byte := leBytes 4 (crc32 l)

/-- The CRC-64 of R169, most significant bit first, from 0. DESIGN CHOICE, notes/assumptions/22.md. -/
def crc64 (l : List Byte) : BitVec 64 :=
  l.foldl (fun c b =>
    (List.range 8).foldl (fun (c : BitVec 64) _ =>
      if c.msb then (c <<< 1) ^^^ 0x42F0E1EBA9EA3693 else c <<< 1) (c ^^^ ((b.setWidth 64 : BitVec 64) <<< (56 : Nat)))) 0

/-- The AES S-box, byte `i` in bits [8i+7:8i]. -/
def aesTable : Nat := 0x16BB54B00F2D99416842E6BF0D89A18CDF2855CEE9871E9B948ED9691198F8E19E1DC186B95735610EF6034866B53E708A8BBD4B1F74DDE8C6B4A61C2E2578BA08AE7A65EAF4566CA94ED58D6D37C8E779E4959162ACD3C25C2406490A3A32E0DB0B5EDE14B8EE4688902A22DC4F816073195D643D7EA7C41744975FEC130CCDD2F3FF1021DAB6BCF5389D928F40A351A89F3C507F02F94585334D43FBAAEFD0CF584C4A39BECB6A5BB1FC20ED00D153842FE329B3D63B52A05A6E1B1A2C830975B227EBE28012079A059618C323C7041531D871F1E5A534CCF73F362693FDB7C072A49CAFA2D4ADF04759FA7DC982CA76ABD7FE2B670130C56F6BF27B777C63

/-- The AES S-box. -/
def aesSub (x : Byte) : Byte := BitVec.ofNat 8 (aesTable >>> (8 * x.toNat))

/-- Multiplication by x in GF(2^8). -/
def xtime (x : Byte) : Byte := if x.msb then (x <<< 1) ^^^ 0x1B else x <<< 1

/-- Bytes added in GF(2^8). -/
def xorBytes (a b : List Byte) : List Byte := List.zipWith (· ^^^ ·) a b

/-- The words of an AES key schedule, newest first, from `n` words made so far: `todo` more. -/
def aesWords (nk : Nat) : Nat → Nat → Byte → List (List Byte) → List (List Byte)
  | 0, _, _, ws => ws
  | todo + 1, n, rcon, ws =>
    let prev := ws.headD []
    let back := (ws[nk - 1]?).getD []
    let t :=
      if n % nk = 0 then
        let r := (prev.drop 1 ++ prev.take 1).map aesSub
        xorBytes r [rcon, 0, 0, 0]
      else if nk = 8 ∧ n % nk = 4 then prev.map aesSub else prev
    aesWords nk todo (n + 1) (if n % nk = 0 then xtime rcon else rcon) (xorBytes back t :: ws)

/-- The round keys of an AES key of 16 or 32 bytes, 16 bytes each. -/
def aesKeys (key : List Byte) : List (List Byte) :=
  let nk := key.length / 4
  let rounds := nk + 6
  let ws0 := ((List.range nk).map (fun i => slice key (4 * i) 4)).reverse
  let all := (aesWords nk (4 * (rounds + 1) - nk) nk 1 ws0).reverse.flatten
  (List.range (rounds + 1)).map (fun i => slice all (16 * i) 16)

/-- ShiftRows on a column-major state. -/
def aesShift (s : List Byte) : List Byte :=
  (List.range 16).map (fun i => (s[(i + 4 * (i % 4)) % 16]?).getD 0)

/-- MixColumns on one column. -/
def aesMixCol (c : List Byte) : List Byte :=
  match c with
  | [a, b, d, e] =>
    [xtime a ^^^ xtime b ^^^ b ^^^ d ^^^ e, a ^^^ xtime b ^^^ xtime d ^^^ d ^^^ e,
     a ^^^ b ^^^ xtime d ^^^ xtime e ^^^ e, xtime a ^^^ a ^^^ b ^^^ d ^^^ xtime e]
  | _ => c

/-- MixColumns. -/
def aesMix (s : List Byte) : List Byte :=
  ((List.range 4).map (fun i => aesMixCol (slice s (4 * i) 4))).flatten

/-- One block enciphered under a key schedule. -/
def aesBlock (ks : List (List Byte)) (b : List Byte) : List Byte :=
  match ks with
  | [] => b
  | k0 :: rest =>
    let s := rest.dropLast.foldl (fun s k => xorBytes (aesMix (aesShift (s.map aesSub))) k) (xorBytes b k0)
    xorBytes (aesShift (s.map aesSub)) (rest.getLastD [])

/-- The product of two elements of the GCM field, as numbers whose top bit is the first bit of the block. -/
def gfMul (x y : Nat) : Nat :=
  ((List.range 128).foldl (fun (r : Nat × Nat) i =>
    let z := if (x >>> (127 - i)) % 2 = 1 then r.1 ^^^ r.2 else r.1
    (z, if r.2 % 2 = 1 then (r.2 / 2) ^^^ (0xE1 * 2 ^ 120) else r.2 / 2)) (0, y)).1

/-- A byte string padded with zeros to whole blocks. -/
def pad16 (l : List Byte) : List Byte := l ++ List.replicate ((16 - l.length % 16) % 16) 0

/-- GHASH of whole blocks. -/
def ghash (h : Nat) (l : List Byte) : Nat :=
  (List.range (l.length / 16)).foldl (fun y i => gfMul (y ^^^ beNat (slice l (16 * i) 16)) h) 0

/-- The counter block of a 96-bit IV. -/
def ctrBlock (iv : List Byte) (n : Nat) : List Byte := iv ++ beBytes 4 n

/-- A byte string enciphered or deciphered in counter mode, from counter 2. -/
def gctr (ks : List (List Byte)) (iv l : List Byte) : List Byte :=
  ((List.range ((l.length + 15) / 16)).map (fun i =>
    xorBytes (slice l (16 * i) 16) (aesBlock ks (ctrBlock iv (i + 2))))).flatten

/-- The GCM tag over additional data and ciphertext. -/
def gcmTag (ks : List (List Byte)) (iv aad ct : List Byte) : List Byte :=
  let h := beNat (aesBlock ks (List.replicate 16 0))
  let y := ghash h (pad16 aad ++ pad16 ct ++ beBytes 8 (8 * aad.length) ++ beBytes 8 (8 * ct.length))
  xorBytes (beBytes 16 y) (aesBlock ks (ctrBlock iv 1))

/-- GCM encryption: ciphertext and tag. -/
def gcmSeal (key iv aad pt : List Byte) : List Byte × List Byte :=
  let ks := aesKeys key
  let ct := gctr ks iv pt
  (ct, gcmTag ks iv aad ct)

/-- GCM decryption: plaintext, and whether the tag holds. -/
def gcmOpen (key iv aad ct tag : List Byte) : List Byte × Bool :=
  let ks := aesKeys key
  (gctr ks iv ct, gcmTag ks iv aad ct == tag)

end Sys2Proof.Machine
end

