-- ==== Sys2Proof/Machine/PortOps.lean ====
section
/-! DEFINITION. Ports (02_ports_and_lanes.md): lane groups and candidates (R30-R34), flow control (R42-R44), ingress
accounts and XOFF (07_weirs.md R139-R141), spillway cells (05_cascade_fabric.md R100) and the release of a frame
(R15), lendings (09_ridge_links.md R177). -/

namespace Sys2Proof.Machine

def State.mac (s : State) (m : MacId) : Mac := s.macs.get m
def State.modMac (s : State) (m : MacId) (f : Mac → Mac) : State :=
  { s with macs := s.macs.set m.val (f (s.macs.get m)) m.isLt }
/-- A line MAC's number as a MAC block's. -/
def macOf (p : PortId) : MacId := ⟨p.val, by omega⟩

/-- The platform record of a bound MAC (R74). -/
def State.macRec (s : State) (p : Nat) : Option MacRec := s.plat.macs.find? (fun r => r.idx == p && r.bound)
/-- The role line (R31). -/
def State.isLine (s : State) (p : Nat) : Bool := (s.macRec p).any (·.line)
/-- The role client (R31). -/
def State.isClient (s : State) (p : Nat) : Bool := (s.macRec p).any (fun r => !r.line)
/-- The owner of a MAC (R74). -/
def State.ownerOf (s : State) (p : Nat) : BasinId := ((s.macRec p).map (·.owner)).getD 0
/-- A field of a MAC block. -/
def State.mf (s : State) (m : MacId) (f : Fld) : Nat := s.fget (Blk.mac m.val) f
def State.setMf (s : State) (m : MacId) (f : Fld) (v : Nat) : State := s.fset (Blk.mac m.val) f v

/-! Lendings (R177). -/

/-- The lending entry of PMm: role, partner device, partner MAC. -/
def State.lending (s : State) (m : Nat) : Nat × Nat × Nat :=
  let w := (s.rget Blk.RDG0 (0x300 + 8 * (m / 2))).toNat / 2 ^ (32 * (m % 2))
  (bits w 31 30, bits w 26 24, bits w 20 16)
/-- PMm borrows a MAC of another member (R177). Whether the partner agrees shows in the frames and links. -/
def State.borrows (s : State) (m : Nat) : Bool := decide (m < 32) && decide ((s.lending m).1 = 1)
/-- PMm carries frames for another member (R177). -/
def State.carries (s : State) (m : Nat) : Bool := decide (m < 32) && decide ((s.lending m).1 = 2)

/-! Modes and candidates (R33, R34). -/

/-- Lanes of each mode code (R33). -/
def modeLanes (c : Nat) : Nat := ([1, 1, 1, 1, 1, 4, 2, 1, 4, 2, 8, 4, 8][c]?).getD 0
/-- Modes that run 802.3ck link training (R33, R35). -/
def modeTrains (c : Nat) : Bool := c == 7 || c == 9 || c == 11 || c == 12

/-- Whether a mode is valid for a MAC: R33, and for modes 10 to 12 its placement (R30). -/
def State.modeValid (s : State) (m : MacId) (c : Nat) : Bool :=
  if 32 ≤ m.val then decide (c ≤ 3)
  else if c = 0 ∨ 12 < c then false
  else if c < 10 then true
  else
    let w := ((s.macRec m.val).map (·.width)).getD 0
    let free := fun k => (s.macRec (m.val + k)).isNone
    (w == 8 && decide (m.val % 4 = 0) && free 1 && free 2 && free 3)
      || (w == 4 && c == 11 && decide (m.val % 2 = 0) && free 1)

/-- The bits of MAC_CTRL.ABILITY that can read 1 (R30, R33). -/
def State.abilityMask (s : State) (m : MacId) : Nat :=
  ((List.range 13).filter (fun c => s.modeValid m c)).foldl (fun n c => n + 2 ^ c) 0

/-- A lane in service for its MAC: enabled and not under test (R34). -/
def State.laneIn (s : State) (k : Nat) : Bool :=
  s.flag (Blk.prt k) Reg.PRT_CTRL_ENABLE && !(s.flag (Blk.prt k) Reg.PRT_TEST_EN)

/-- Base lane and width of a MAC's group (R30). -/
def State.group (s : State) (m : MacId) : Nat × Nat :=
  match s.macRec m.val with
  | some r => if m.val < 32 then (r.base, r.width) else (0, 1)
  | none => (0, if m.val < 32 then 0 else 1)

/-- The lanes a mode uses on a MAC: the lowest-numbered of its group (R32). -/
def State.modeLanesOf (s : State) (m : MacId) (c : Nat) : List Nat :=
  if m.val < 32 then (List.range (modeLanes c)).map (fun i => (s.group m).1 + i) else []

/-- R34: a mode is a candidate of a MAC. -/
def State.candidate (s : State) (m : MacId) (c : Nat) : Bool :=
  decide ((s.mf m Reg.MAC_CTRL_ABILITY >>> c) % 2 = 1) && s.modeValid m c
    && decide (modeLanes c ≤ (s.group m).2) && decide (s.mf m Reg.MAC_FLOOR_FLOOR ≤ c)
    && !(bitAt (s.mac m).removed c) && (s.modeLanesOf m c).all (fun k => s.laneIn k)

/-- The candidates of a MAC, best first (R33, R34). -/
def State.candidates (s : State) (m : MacId) : List Nat := ((List.range 13).filter (fun c => s.candidate m c)).reverse

/-- The resolved mode of a MAC; none while the field shows 0xF. -/
def State.modeOf (s : State) (m : MacId) : Option Nat :=
  if s.mf m Reg.MAC_STATUS_MODE = 15 then none else some (s.mf m Reg.MAC_STATUS_MODE)

/-- The lanes of a MAC's resolved mode. -/
def State.usedLanes (s : State) (m : MacId) : List Nat :=
  match s.modeOf m with
  | some c => s.modeLanesOf m c
  | none => []

/-- Whether a MAC's readiness bit is 1. -/
def State.macUp (s : State) (m : MacId) : Bool := s.ready (Rdy.ofMac m)

/-- STATE of a MAC (MAC_STATUS). -/
def State.macState (s : State) (m : MacId) : Nat := s.mf m Reg.MAC_STATUS_STATE

/-- A lane loses its readiness and what PRT_STATUS shows of its signal (R37). -/
def State.laneOff (s : State) (k : Nat) : State :=
  ((((s.fset (Blk.prt k) Reg.PRT_STATUS_SIGNAL 0).fset (Blk.prt k) Reg.PRT_STATUS_CDR_LOCK 0).fset (Blk.prt k)
    Reg.PRT_STATUS_TRAINED 0).setReady (Rdy.lane k) false)

/-- Whether a MAC is held down: unbound, or disabled, or lent out to its borrower (R31, MAC_CTRL.ENABLE, R177). -/
def State.macHeld (s : State) (m : MacId) : Bool :=
  !(s.flag (Blk.mac m.val) Reg.MAC_CTRL_ENABLE) || (decide (m.val < 32) && (s.macRec m.val).isNone) || s.borrows m.val

/-- A MAC settles on a mode: MODE is shown and the lanes of the group that it leaves unused are powered down (R32). -/
def State.macMode (s : State) (m : MacId) (c : Nat) (st : Nat) : State :=
  let s := (s.setMf m Reg.MAC_STATUS_MODE c).setMf m Reg.MAC_STATUS_STATE st
  foldL (((List.range (s.group m).2).map (fun i => (s.group m).1 + i)).filter (fun k => m.val < 32 && !((s.usedLanes m).contains k)))
    (fun k t => t.laneOff k) s

/-- R36: FLOOR_FAIL entered. -/
def State.floorFail (s : State) (m : MacId) : State :=
  ((s.setMf m Reg.MAC_STATUS_MODE 15).setMf m Reg.MAC_STATUS_STATE 5).setMf m Reg.MAC_EVENT_FLOOR_FAIL 1

/-- A MAC starts negotiation anew with its current candidates (R34, R36): with MEDIUM = 1 it runs the highest. -/
def State.macStart (s : State) (m : MacId) : State :=
  let s := s.setMf m Reg.MAC_STATUS_MODE 15
  if s.macHeld m then s.setMf m Reg.MAC_STATUS_STATE 0
  else
    match s.candidates m with
    | [] => s.floorFail m
    | c :: _ =>
      if s.flag (Blk.mac m.val) Reg.MAC_CTRL_MEDIUM then s.macMode m c 3 else s.setMf m Reg.MAC_STATUS_STATE 1

/-! Flow control (R42-R44, R140). -/

/-- MAC_FC.MODE: 0 none, 1 PAUSE, 2 PFC; 3 acts as 0. -/
def State.fcMode (s : State) (m : MacId) : Nat := s.mf m Reg.MAC_FC_MODE % 3

/-- The priorities a MAC's weir holds in XOFF (R140); for a management port bit 0 (R134), for a carrier what its
borrower last said (R178). -/
def State.xoffOf (s : State) (m : MacId) : BitVec 8 :=
  let cell := s.cellTrig && decide (s.fcMode m ≠ 0) && decide (m.val < 32) && !(s.carries m.val)
  if cell then BitVec.allOnes 8 else (s.mac m).acct

/-- The priorities whose XOFF is signalled to the partner. -/
def State.wantXoff (s : State) (m : MacId) : BitVec 8 :=
  if s.fcMode m = 0 then 0 else s.xoffOf m &&& BitVec.ofNat 8 (s.mf m Reg.MAC_FC_TX_EN)

/-- The payload of a lent XOFF change, whose layout the spec does not give: type 0, carrier MAC, priorities.
DESIGN CHOICE, notes/assumptions/29.md. -/
def lentXoffPayload (mac : Nat) (mask : BitVec 8) : List Byte := [0, BitVec.ofNat 8 mac, mask]

/-- A change of what a MAC must signal: a flow-control frame becomes due (R44), or for a borrowed MAC the change goes
to the carrier in a CTRL flit (R178). -/
def State.fcEval (s : State) (m : MacId) : State :=
  let want := s.wantXoff m
  if want.toNat = s.mf m Reg.MAC_FC_STATE_TX_XOFF then s
  else if s.borrows m.val then
    let l := s.lending m.val
    let f : Flit := ⟨mkHdr 4 l.2.1 s.myIndex 0 true true 3 0 0 0, lentXoffPayload l.2.2 want⟩
    (s.setMf m Reg.MAC_FC_STATE_TX_XOFF want.toNat).sendFlit f |>.1
  else if s.macUp m then s.modMac m (fun k => { k with fcDue := true })
  else s

/-- The XOFF bits of WER_ACCT brought up to date and counted (R140), then the MAC's signalling. -/
def State.xoffEval (s : State) (m : MacId) : State :=
  let s :=
    if m.val < 32 then
      foldN 8 (fun p t =>
        let now := bitAt (t.xoffOf m) p
        let f := Reg.WER_ACCT_XOFF.nth p
        if t.flag (Blk.pw m.val) f = now then t
        else
          let t := t.fset (Blk.pw m.val) f (if now then 1 else 0)
          if now then t.bump (Blk.pw m.val) Ctr.PW_XOFF_RAISED else t) s
    else s
  s.fcEval m

/-- The account triggers of a MAC compared with its thresholds (R140). -/
def State.acctEval (s : State) (m : PortId) : State :=
  let b := Blk.pw m.val
  let s := s.modMac (macOf m) (fun k =>
    { k with acct := (List.range 8).foldl (fun v p =>
        let bytes := s.fget b (Reg.WER_ACCT_BYTES.nth p)
        if s.fget b (Reg.WER_PFC_TH_XOFF.nth p) * 1024 ≤ bytes then setBit v p true
        else if bytes ≤ s.fget b (Reg.WER_PFC_TH_XON.nth p) * 1024 then setBit v p false
        else v) k.acct })
  s.xoffEval (macOf m)

/-- R139: an ingress account grows or shrinks by `n`. -/
def State.acctAdd (s : State) (m : PortId) (p : Fin 8) (n : Int) : State :=
  let f := Reg.WER_ACCT_BYTES.nth p.val
  let v := ((s.fget (Blk.pw m.val) f : Int) + n).toNat
  (s.fset (Blk.pw m.val) f v).acctEval m

/-! Spillway cells (R100, R327). -/

/-- The banks in service. -/
def State.banks (s : State) : List Nat := (List.range 4).filter (fun b => !(bitAt s.bankFenced b))

/-- Free cells of a bank. -/
def State.cellsIn (s : State) (b : Nat) : Nat := if bitAt s.bankFenced b then 0 else (s.cells.toList[b]?).getD 0

/-- Free spillway cells (SPL_STATUS.FREE). -/
def State.freeCells (s : State) : Nat := (List.range 4).foldl (fun n b => n + s.cellsIn b) 0

/-- The cell trigger compared with WER_GLOBAL (R140), for every PM MAC. -/
def State.cellEval (s : State) : State :=
  let f := s.freeCells
  let now := if f < s.fget Blk.PW0 Reg.WER_GLOBAL_XOFF_CELLS then true
    else if s.fget Blk.PW0 Reg.WER_GLOBAL_XON_CELLS ≤ f then false else s.cellTrig
  if now = s.cellTrig then s
  else foldL (List.finRange 32) (fun m t => t.xoffEval (macOf m)) { s with cellTrig := now }

/-- `n` cells taken, from bank `first` on in cyclic order: how many of each bank (R100). Which cells a frame gets is
open; the bank to begin with comes with the command (notes/assumptions/4.md). -/
def State.pickCells (s : State) (n first : Nat) : Option (List Nat) :=
  if s.freeCells < n then none
  else
    let r := (List.range 4).foldl (fun (r : Nat × List (Nat × Nat)) i =>
      let b := (first + i) % 4
      let k := min r.1 (s.cellsIn b)
      (r.1 - k, (b, k) :: r.2)) (n, [])
    some ((List.range 4).map (fun b => ((r.2.find? (fun e => e.1 == b)).map (·.2)).getD 0))

/-- Cells taken out of, or put back into, the free pool. -/
def State.useCells (s : State) (l : List Nat) : State :=
  { s with cells := Vector.ofFn (fun (b : Fin 4) => s.cells.get b - (l[b.val]?).getD 0) }.cellEval
def State.freeUp (s : State) (l : List Nat) : State :=
  { s with cells := Vector.ofFn (fun (b : Fin 4) => s.cells.get b + (l[b.val]?).getD 0) }.cellEval

/-- ⌈n / 256⌉ (R100). -/
def cellsFor (n : Nat) : Nat := (n + 255) / 256

/-! Frames. -/

def State.frame (s : State) (id : Nat) : Option Frame := s.frames.find? (fun f => f.id == id)
def State.modFrame (s : State) (id : Nat) (g : Frame → Frame) : State :=
  { s with frames := s.frames.map (fun f => if f.id == id then g f else f) }
/-- A frame moved to the end of the order in which frames are served. -/
def State.toBack (s : State) (id : Nat) : State :=
  { s with frames := s.frames.filter (fun f => f.id != id) ++ s.frames.filter (fun f => f.id == id) }

/-- R15, R139: a frame's last buffers are released. -/
def State.release (s : State) (f : Frame) : State :=
  let s := { s with frames := s.frames.filter (fun x => x.id != f.id),
                    mover := { s.mover with reqs := s.mover.reqs.filter (fun r => r.frame != f.id) } }
  let s := (s.freeUp f.cells).freeUp f.outCells
  match f.acct with
  | some p => s.acctAdd f.d.port p (-(f.d.len : Int))
  | none => s

/-- A frame dropped, counted in a counter of a block, and released. -/
def State.dropFrame (s : State) (f : Frame) (b : Nat) (ctr : Fld) : State := (s.bump b ctr).release f

/-- A frame dropped and counted in DROP_NOSA at its ingress MAC, or at the egress MAC of an injected one (R40, R97). -/
def State.dropNosa (s : State) (f : Frame) : State := s.dropFrame f (Blk.mac f.d.port.val) Ctr.MAC_DROP_NOSA

end Sys2Proof.Machine
end

