-- ==== Sys2Proof/Machine/SppSend.lean ====
section
/-! DEFINITION. How SPP frames are made and wait for transmission (03_peer_negotiation.md R53, R54, R56-R58). -/

namespace Sys2Proof.Machine

def State.sess (s : State) (p : PortId) : Sess := (s.mac (macOf p)).sess
def State.modSess (s : State) (p : PortId) (f : Sess → Sess) : State :=
  s.modMac (macOf p) (fun k => { k with sess := f k.sess })

/-- A field of a session's registers. -/
def State.sf (s : State) (p : PortId) (f : Fld) : Nat := s.fget (Blk.mac p.val) f
def State.setSf (s : State) (p : PortId) (f : Fld) (v : Nat) : State := s.fset (Blk.mac p.val) f v

/-- Session states (SPP_SESS_STATUS.STATE). -/
def sOFF : Nat := 0
def sWAITKEY : Nat := 1
def sDISCOVER : Nat := 2
def sIOFFER : Nat := 3
def sICONFIRM : Nat := 4
def sRSELECT : Nat := 5
def sUP : Nat := 6
def sNOMODE : Nat := 7
def sCLASH : Nat := 8

/-- STATE of a session. -/
def State.sst (s : State) (p : PortId) : Nat := s.sf p Reg.SPP_SESS_STATUS_STATE

/-- The device identity (SPP_ID). -/
def State.sppId (s : State) : Nat := s.fuses.id.toNat

/-- A key slot of a line MAC. -/
def State.keySlot (s : State) (p : PortId) (k : Nat) : KeySlot := (s.mac (macOf p)).keys.get (Fin.ofNat 2 k)
def State.modKey (s : State) (p : PortId) (k : Nat) (f : KeySlot → KeySlot) : State :=
  s.modMac (macOf p) (fun x => { x with keys := x.keys.set (k % 2) (f (x.keys.get (Fin.ofNat 2 k))) (by omega) })

/-- Some slot is valid. -/
def State.keyed (s : State) (p : PortId) : Bool := (s.keySlot p 0).valid || (s.keySlot p 1).valid

/-- Only keyed frames are sent and accepted (R58). -/
def State.needKey (s : State) (p : PortId) : Bool :=
  s.flag (Blk.mac p.val) Reg.SPP_SESS_STATUS_SA_SEEN || s.flag (Blk.mac p.val) Reg.SPP_SESS_CTRL_AUTH_REQ

/-- The slot used for transmission (SPP_SESS_STATUS.TXKN). -/
def State.txKn (s : State) (p : PortId) : Nat := s.sf p Reg.SPP_SESS_STATUS_TXKN

/-- The GMAC of R57 over header and payload. -/
def sppTag (key : List Byte) (seq : Nat) (body : List Byte) : List Byte :=
  (gcmSeal key (beBytes 8 seq ++ [0, 0, 0, 0]) body []).2

/-- The 36-byte header of R54. -/
def sppHeader (ty : Nat) (auth : Bool) (kn len sender target session seq : Nat) : List Byte :=
  [BitVec.ofNat 8 (16 + ty), BitVec.ofNat 8 ((if auth then 128 else 0) + (if auth then 64 * (kn % 2) else 0))]
    ++ beBytes 2 len ++ beBytes 8 sender ++ beBytes 8 target ++ beBytes 8 session ++ beBytes 8 seq

/-- A frame padded to 60 bytes, with its FCS. -/
def withFcs (l : List Byte) : List Byte :=
  let p := l ++ List.replicate (60 - l.length) 0
  p ++ fcsOf p

/-- The addresses, tag and EtherType of an SPP frame (R53). -/
def State.sppAddr (s : State) : List Byte :=
  let srcReg := s.fget Blk.SPP Reg.SPP_SRCMAC_SA
  beBytes 6 (s.fget Blk.SPP Reg.SPP_DA_DA) ++ beBytes 6 srcReg
    ++ (if s.flag Blk.SPP Reg.SPP_CTRL_VLAN then
          beBytes 2 0x8100 ++ beBytes 2 (s.fget Blk.SPP Reg.SPP_CTRL_PRIO * 8192 + s.fget Blk.SPP Reg.SPP_CTRL_VID)
        else [])
    ++ beBytes 2 (s.fget Blk.SPP Reg.SPP_ETYPE_ETYPE)

/-- A time in units of 2^-16 ns as the 96-bit DTB value of R388. -/
def to96 (u : Nat) : Nat := (u / dtbSecond % 2 ^ 48) * 2 ^ 48 + (u % dtbSecond / 65536) * 65536 + u % 65536
/-- A DTB time as the 12 bytes of a frame: seconds, nanoseconds, fraction (R55, R5). -/
def dtbBytes (v : Nat) : List Byte := beBytes 12 v
/-- A timestamp with a direction's board correction in picoseconds (R46, MAC_TS_ADJ). -/
def adjTs (u : Nat) (adj16 : Nat) : Nat :=
  ((u : Int) + (BitVec.ofNat 16 adj16).toInt * 65536 / 1000).toNat

/-- R53: a message put into the SPP transmit slot of a MAC, which holds 8. -/
def State.sppSend (s : State) (p : PortId) (ty target session : Nat) (payload : List Byte) : State :=
  if (s.mac (macOf p)).slot.length < 8 then
    s.modMac (macOf p) (fun k => { k with slot := k.slot ++ [⟨ty, target, session, payload⟩] })
  else s.bump (Blk.mac p.val) Ctr.MACSPP_SPP_TXDROP

/-- TX_TS, ECHO_TS and HOLD_NS of a BEAT that is transmitted now (R55). -/
def State.beatBody (s : State) (p : PortId) : List Byte :=
  let k := s.sess p
  let ts := to96 (adjTs s.tb.now (s.mf (macOf p) Reg.MAC_TS_ADJ_TX_ADJ))
  let hold := if k.beatGot then (dtbOf96 ts - dtbOf96 k.echoAt) / 65536 % 2 ^ 32 else 0
  dtbBytes ts ++ dtbBytes (if k.beatGot then k.echo else 0) ++ beBytes 4 hold ++ [0, 0, 0, 0]

/-- SEQ of the next frame: of the transmitting slot where a slot is valid, else of the session (R57). -/
def State.sppSeq (s : State) (p : PortId) : Nat :=
  if s.keyed p then (s.keySlot p (s.txKn p)).txSeq + 1 else (s.sess p).seq + 1

/-- The frame of a message that is transmitted now: keyed where a slot is valid (R58), with the next SEQ (R57). -/
def State.sppFrame (s : State) (p : PortId) (m : SppOut) : List Byte :=
  let auth := s.keyed p
  let kn := s.txKn p
  let payload := if m.ty = 5 then s.beatBody p else m.payload
  let body := sppHeader m.ty auth kn payload.length s.sppId m.target m.session (s.sppSeq p) ++ payload
  withFcs (s.sppAddr ++ body ++ (if auth then sppTag (s.keySlot p kn).tx (s.sppSeq p) body else []))

/-- SEQ advanced by a frame sent (R57). -/
def State.sppSent (s : State) (p : PortId) : State :=
  if s.keyed p then s.modKey p (s.txKn p) (fun k => { k with txSeq := s.sppSeq p })
  else s.modSess p (fun k => { k with seq := s.sppSeq p })

end Sys2Proof.Machine
end

