-- ==== Sys2Proof/Machine/SluOps.lean ====
section
/-! DEFINITION. The Sluice (08_sluice_commit.md): edges and messages (R156, R158, R175), stages' states, decisions of a
coordinator (R159), the parts of a participant's course that other units bring about (R160). -/

namespace Sys2Proof.Machine

/-- A DTB time of a frame as units of 2^-16 ns. -/
def dtbAt (l : List Byte) (i : Nat) : Nat := dtbOf96 (beAt l i 12)
/-- Microseconds and nanoseconds in units of 2^-16 ns. -/
def usU (n : Nat) : Nat := n * 1000 * 65536
def nsU (n : Nat) : Nat := n * 65536

/-- The time base moved on to an instant, if that lies ahead: a command that stands for an instant brings it about
(notes/assumptions/2.md). -/
def State.reach (s : State) (t : Nat) : State :=
  if s.tb.now < t then
    { s with tb := { s.tb with now := t, ticks := s.tb.ticks + (t - s.tb.now + 65535) / 65536 } }
  else s

/-- A stage's state (SLU_STAGEk). -/
def State.sst4 (s : State) (k : StageId) : Nat := s.stg k Reg.SLU_STAGE_STATE

/-- The states in which a stage is sealed, or being sealed, and not yet released (R151). -/
def sealedState (st : Nat) : Bool := decide (stSEALING ≤ st) && decide (st ≤ stDRAINING)

/-! Edges (R156). -/

/-- The uplink of the DOMAIN tree. -/
def State.uplink (s : State) : Option Edge :=
  let u := s.fget Blk.SLU Reg.SLU_DOMAIN_UP
  if h : u < 32 then some (.mac ⟨u, h⟩) else if 32 ≤ u ∧ u < 36 then some (.rl (Fin.ofNat 4 (u - 32))) else none

/-- The down edges of the DOMAIN tree: a bit that names a MAC that is not a line MAC, or the uplink, acts as 0. -/
def State.downEdges (s : State) : List Edge :=
  let w := s.rget Blk.SLU 0x030
  (((List.finRange 32).filter (fun m => bitAt w m.val && s.isLine m.val)).map Edge.mac
    ++ ((List.finRange 4).filter (fun l => bitAt w (32 + l.val))).map Edge.rl).filter (fun e => some e != s.uplink)

/-- An edge carries Sluice messages (R156): its session is UP, its link is trained, its device has a route. -/
def State.edgeUp (s : State) : Edge → Bool
  | .mac m => decide (s.sst m = sUP)
  | .rl l => s.linkUp l.val
  | .dev n => s.present n.val

/-- A message sent on an edge (R158, R175); on an edge that is down it is lost. -/
def State.sluSend (s : State) (e : Edge) (ty : Nat) (body : List Byte) : State :=
  if !(s.edgeUp e) then s
  else
    match e with
    | .mac m =>
      s.sppSend m ty (s.sf m Reg.SPP_SESS_PEER_PEER)
        (if s.sf m Reg.SPP_SESS_STATUS_ROLE = 1 then (s.sess m).attempt * 2 ^ 32 + (s.sess m).peerAttempt
         else (s.sess m).peerAttempt * 2 ^ 32 + (s.sess m).attempt) body
    | .rl l =>
      let dst := s.fget (Blk.rdg l.val) Reg.RDG_LSTATUS_NEIGHBOUR
      s.linkPut l ⟨mkHdr 4 dst s.myIndex 0 true true (8 + body.length) 0 0 (BitVec.ofNat 16 (beAt body 0 8)),
        BitVec.ofNat 8 ty :: List.replicate 7 0 ++ body⟩
    | .dev n =>
      (s.sendFlit ⟨mkHdr 4 n.val s.myIndex 0 true true (8 + body.length) 0 0 (BitVec.ofNat 16 (beAt body 0 8)),
        BitVec.ofNat 8 ty :: List.replicate 7 0 ++ body⟩).1

/-- A message sent on every edge of a list. -/
def State.sluSendAll (s : State) (es : List Edge) (ty : Nat) (body : List Byte) : State :=
  foldL es (fun e t => t.sluSend e ty body) s

/-! Message bodies (R158); TXN and ORIGIN lead (R55). -/

def txnHead (txn origin : Nat) : List Byte := beBytes 8 txn ++ beBytes 8 origin
def prepareBody (txn origin t voteBy guardNs scope : Nat) : List Byte :=
  txnHead txn origin ++ dtbBytes (to96 t) ++ dtbBytes (to96 voteBy) ++ beBytes 4 guardNs ++ [BitVec.ofNat 8 scope, 0, 0, 0]
def voteBody (txn origin yes no firstNo cause : Nat) : List Byte :=
  txnHead txn origin ++ beBytes 4 yes ++ beBytes 4 no ++ beBytes 2 firstNo ++ [BitVec.ofNat 8 cause, 0, 0, 0, 0, 0]
def decideBody (txn origin t yes : Nat) : List Byte := txnHead txn origin ++ dtbBytes (to96 t) ++ beBytes 4 yes
def abortBody (txn origin t cause : Nat) : List Byte :=
  txnHead txn origin ++ dtbBytes (to96 t) ++ [BitVec.ofNat 8 cause, 0, 0, 0]

/-- LEN and the reserved bytes of a message (R158, R162). -/
def sluFormOk (ty : Nat) (b : List Byte) : Bool :=
  if ty = 6 then b.length == 48 && beAt b 45 3 == 0 && (beAt b 44 1 == 1 || beAt b 44 1 == 2)
  else if ty = 7 then b.length == 32 && beAt b 27 5 == 0
  else if ty = 8 then b.length == 32
  else if ty = 9 then b.length == 32 && beAt b 29 3 == 0
  else false

/-! The coordinator (R159). -/

/-- SLU_STAGEk.YES set, at most 15 bits. -/
def State.setYes (s : State) (k : StageId) (n : Nat) : State := s.setStg k Reg.SLU_STAGE_YES n

/-- ABORT decided at the coordinator: told on every edge that PREPARE was sent on, and the stage discarded. -/
def State.coordAbort (s : State) (k : StageId) (cause : Nat) : State :=
  let g := s.stage k
  let s := s.sluSendAll (g.edges.map (·.1)) 9 (abortBody g.txn g.origin g.t cause)
  (s.setYes k g.yes).discardStage k cause

/-- COMMIT decided at the coordinator. -/
def State.coordCommit (s : State) (k : StageId) : State :=
  let g := s.stage k
  let s := s.sluSendAll (g.edges.map (·.1)) 8 (decideBody g.txn g.origin g.t g.yes)
  let s := ((s.setYes k g.yes).setStg k Reg.SLU_STAGE_DECIDED 1).setStg k Reg.SLU_STAGE_STATE stPENDING
  s.modStage k (fun x => { x with due := some x.t })

/-- The coordinator's decision as far as its votes allow one (R159). -/
def State.coordDecide (s : State) (k : StageId) : State :=
  let g := s.stage k
  if s.sst4 k ≠ stVOTING then s
  else if 0 < g.no then s.coordAbort k 5
  else if g.parts < g.yes then s.coordAbort k 4
  else if g.yes = g.parts then s.coordCommit k
  else s

/-- An edge goes down (R156, R159): a coordinator that waits for its vote aborts; a participant waits for it no more
(R160). -/
def State.sluEdgeDown (s : State) (e : Edge) : State :=
  let s := foldL (List.finRange 64) (fun k t =>
    if t.sst4 k = stVOTING ∧ (t.stage k).edges.any (fun x => x.1 == e && !x.2) then t.coordAbort k 6 else t) s
  { s with txns := s.txns.map (fun r =>
      { r with edges := r.edges.map (fun x => if x.1 == e then (x.1, true) else x) }) }

/-- GROUP routes that left RDG_GROUP.PRESENT in a change (R171, R175), and the ridge edges of links that left UP. -/
def State.sluPresence (s before : State) : State :=
  let s := foldL (List.finRange 8) (fun n t => if before.present n.val && !(t.present n.val) then t.sluEdgeDown (.dev n) else t) s
  foldL (List.finRange 4) (fun l t => if before.linkUp l.val && !(t.linkUp l.val) then t.sluEdgeDown (.rl l) else t) s

/-! SA events (R132). -/

/-- R132: an event posted to a basin's SA event queue, lost when 16 wait. -/
def State.saPost (s : State) (b : BasinId) (kind sc : Nat) (an : BitVec 2) : State :=
  let q := s.saEvq b.val
  let q' : SaEvq :=
    if 16 ≤ q.q.length then { q with lost := true }
    else { q with q := q.q ++ [⟨kind, sc, an, s.ns⟩] }
  { s with saEvts := sparsePut ⟨[], false⟩ b.val q' s.saEvts }

end Sys2Proof.Machine
end

