-- ==== Sys2Proof/Machine/SppOps.lean ====
section
/-! DEFINITION. SPP sessions (03_peer_negotiation.md): the receive checks of R59, the choice of R61 and the state
machine of R63 to R66; what a queue's head does while the link or the peer is down (R39, R66). -/

namespace Sys2Proof.Machine

/-! What the weir drops at the head of its queues (R39, R66). -/

/-- R66: the data drop of a line MAC is in force. -/
def State.peerDrop (s : State) (p : PortId) : Bool :=
  s.isLine p.val && s.flag (Blk.mac p.val) Reg.SPP_SESS_CTRL_DOWN_ACT && (s.sess p).armed && decide (s.sst p ≠ sUP)

/-- The frames of a queue, head first. -/
def State.queueOf (s : State) (m : PortId) (q : Fin 8) : List Frame := s.frames.filter (fun f => f.loc == .queue m q)

/-- R39, R66: frames that reach the head of a queue while their MAC's bit is 0, or while the peer drop is in force, are
dropped; an MKPDU passes the peer drop. -/
def State.weirDrop (s : State) (m : PortId) : State :=
  foldL (List.finRange 8) (fun q t =>
    if !(t.macUp (macOf m)) then
      foldL (t.queueOf m q) (fun f u => u.dropFrame f (Blk.mac m.val) Ctr.MAC_DROP_LINKDOWN) t
    else if t.peerDrop m then
      foldL ((t.queueOf m q).takeWhile (fun f => !f.d.mkpdu)) (fun f u =>
        u.dropFrame f (Blk.mac m.val) Ctr.MACSPP_DROP_PEERDOWN) t
    else t) s

/-- A queue's occupancy (R98) shown in WER_QOCC. -/
def State.qocc (s : State) (m : PortId) (q : Fin 8) : Nat := (s.queueOf m q).foldl (fun n f => n + f.obytes.length) 0

/-! Sessions. -/

/-- A session's state and what SPP_SESS_STATUS shows in it: no ROLE before a peer is recorded, MODE, BEAT_US and SCI
only in UP. -/
def State.setSst (s : State) (p : PortId) (st : Nat) : State :=
  let s := s.setSf p Reg.SPP_SESS_STATUS_STATE st
  let s := if st < sIOFFER then s.setSf p Reg.SPP_SESS_STATUS_ROLE 0 else s
  if st = sUP then s
  else ((s.setSf p Reg.SPP_SESS_STATUS_MODE 0).setSf p Reg.SPP_SESS_STATUS_BEAT_US 0).setSf p Reg.SPP_SESS_STATUS_SCI 0

/-- The DOWN event of a session that leaves UP, reported to the Sluice (R63, R64); the peer drop may come into force. -/
def State.downEvent (s : State) (p : PortId) (st : Nat) : State :=
  if s.sst p = sUP then
    let s := (s.setSst p st).setEvt Blk.SPP Reg.SPP_EVENT0_DOWN p.val
    (s.sluEdgeDown (.mac p)).weirDrop p
  else s.setSst p st

/-- A new attempt (R62, R67): its number, and the values that this entry to DISCOVER fixes. -/
def State.newAttempt (s : State) (p : PortId) : State :=
  let r := if (s.sess p).begun then ((s.sess p).attempt + 1, s) else ((s.random.1.toNat), s.random.2)
  let s := r.2
  let s := s.modSess p (fun k =>
    { k with begun := true, attempt := r.1 % 2 ^ 32, peerAttempt := 0, peerBeat := 0,
             pref := s.rget (Blk.mac p.val) 0x308, floor := s.sf p Reg.SPP_SESS_CTRL_FLOOR,
             beat := s.sf p Reg.SPP_SESS_CTRL_BEAT_US, sciReq := s.flag (Blk.mac p.val) Reg.SPP_SESS_CTRL_SCI_REQ,
             offer := [], select := [], steps := 0, missed := 0 })
  let s := (s.setSf p Reg.SPP_SESS_PEER_PEER 0).setSf p Reg.SPP_SESS_RTT_RTT_NS 0xFFFFFFFF
  s.setSf p Reg.SPP_SESS_STATUS_ROLE 0

/-- A HELLO (R55). -/
def State.sendHello (s : State) (p : PortId) (target : Nat) : State :=
  s.sppSend p 1 target 0 (beBytes 4 (s.sess p).attempt ++ beBytes 2 (s.sess p).beat ++ [0, 0])

/-- DISCOVER entered: new attempt, and a HELLO that names the last peer heard (R54, R63). -/
def State.discover (s : State) (p : PortId) : State :=
  let s := (s.downEvent p sDISCOVER).newAttempt p
  s.sendHello p (s.sess p).heard

/-- The session value (R62): the initiator's attempt over the responder's. -/
def State.sessVal (s : State) (p : PortId) : Nat :=
  if s.sf p Reg.SPP_SESS_STATUS_ROLE = 1 then (s.sess p).attempt * 2 ^ 32 + (s.sess p).peerAttempt
  else (s.sess p).peerAttempt * 2 ^ 32 + (s.sess p).attempt

/-- The recorded peer. -/
def State.peer (s : State) (p : PortId) : Nat := s.sf p Reg.SPP_SESS_PEER_PEER

/-- A message to the recorded peer in the current session. -/
def State.sendPeer (s : State) (p : PortId) (ty : Nat) (payload : List Byte) : State :=
  s.sppSend p ty (s.peer p) (s.sessVal p) payload

/-- The rows of R63 that need no message: OFF, WAIT_KEY and the start of a session. -/
def State.sessEval (s : State) (p : PortId) : State :=
  let st := s.sst p
  let run := s.macUp (macOf p) && s.flag (Blk.mac p.val) Reg.SPP_SESS_CTRL_EN && s.isLine p.val && !(s.carries p.val)
  if !run then (if st = sOFF then s else s.downEvent p sOFF)
  else if st = sOFF then
    if s.ready Rdy.spp then
      let s := s.modSess p (fun k => { k with seq := 0 })
      if s.needKey p && !(s.keyed p) then s.setSst p sWAITKEY else s.discover p
    else s
  else if st = sWAITKEY then (if s.keyed p then s.discover p else s)
  else if s.needKey p && !(s.keyed p) then s.downEvent p sWAITKEY
  else s

/-- KEY0, KEY1 and TXKN after the slots changed (R56), and what the session does. -/
def State.keysChanged (s : State) (p : PortId) : State :=
  let v0 := (s.keySlot p 0).valid
  let v1 := (s.keySlot p 1).valid
  let kn := if (s.keySlot p (s.txKn p)).valid then s.txKn p else if v0 then 0 else if v1 then 1 else s.txKn p
  let s := (s.setSf p Reg.SPP_SESS_STATUS_KEY0 (if v0 then 1 else 0)).setSf p Reg.SPP_SESS_STATUS_KEY1 (if v1 then 1 else 0)
  (s.setSf p Reg.SPP_SESS_STATUS_TXKN kn).sessEval p

/-! Selection (R60, R61). -/

/-- The modes of a preference list: until the first 0, entries of 17 and more skipped. -/
def prefList (w : Word) : List Nat :=
  (((List.range 8).map (fun i => bits w.toNat (8 * i + 7) (8 * i))).takeWhile (fun c => c ≠ 0)).filter (fun c => c ≤ 16)

/-- A session's supported set, in order of preference (R60). -/
def Sess.supported (k : Sess) : List Nat := (prefList k.pref).filter (fun c => k.floor ≤ c)

/-- SUPPORTED of an OFFER. -/
def Sess.mask (k : Sess) : Nat := (k.supported.eraseDups).foldl (fun n c => n + 2 ^ c) 0

/-- An OFFER's payload (R55). -/
def Sess.offerBody (k : Sess) : List Byte :=
  beBytes 4 k.mask ++ [if k.sciReq then 0x80 else 0] ++ beBytes 2 k.beat ++ [0]

/-- The initiator's SELECT for an OFFER (R61). -/
def Sess.choose (k : Sess) (offer : List Byte) : List Byte :=
  let sup := beAt offer 0 4
  let mode := ((k.supported).find? (fun c => bits sup c c = 1)).getD 0
  let sci := k.sciReq || bits (beAt offer 4 1) 7 7 = 1
  [BitVec.ofNat 8 mode, if sci then 0x80 else 0] ++ beBytes 2 (max k.beat (beAt offer 5 2)) ++ [0, 0, 0, 0]

/-- The responder's RESULT for a SELECT (R61). -/
def Sess.judge (k : Sess) (sel : List Byte) : Nat :=
  if !(k.supported.contains (beAt sel 0 1)) then 1
  else if beAt sel 2 2 ≠ max k.beat k.peerBeat then 2
  else if k.sciReq && bits (beAt sel 1 1) 7 7 = 0 then 3
  else 0

/-- A BEAT put into the slot (R64). -/
def State.sendBeat (s : State) (p : PortId) : State :=
  s.sendPeer p 5 []

/-- UP entered with what a SELECT chose (R61, R63, R64). -/
def State.sessUp (s : State) (p : PortId) (sel : List Byte) : State :=
  let s := (s.setSst p sUP).setSf p Reg.SPP_SESS_STATUS_MODE (beAt sel 0 1)
  let s := (s.setSf p Reg.SPP_SESS_STATUS_SCI (bits (beAt sel 1 1) 7 7)).setSf p Reg.SPP_SESS_STATUS_BEAT_US (beAt sel 2 2)
  let s := s.modSess p (fun k => { k with missed := 0, beatGot := false, echo := 0, echoAt := 0, armed := true })
  (s.setEvt Blk.SPP Reg.SPP_EVENT0_UP p.val).sendBeat p

/-- NOMODE entered with its event. -/
def State.noMode (s : State) (p : PortId) : State := (s.setSst p sNOMODE).setEvt Blk.SPP Reg.SPP_EVENT1_NOMODE p.val

/-- A message the state has no row for (R63). -/
def State.unexp (s : State) (p : PortId) : State := s.bump (Blk.mac p.val) Ctr.MACSPP_RX_UNEXP

/-- A HELLO handled as in DISCOVER (R63). -/
def State.takeHello (s : State) (p : PortId) (m : SppMsg) : State :=
  let s := (s.setSf p Reg.SPP_SESS_PEER_PEER m.sender).modSess p (fun k =>
    { k with peerAttempt := beAt m.payload 0 4, peerBeat := beAt m.payload 4 2, steps := 0 })
  let init := decide (s.sppId < m.sender)
  let s := s.setSf p Reg.SPP_SESS_STATUS_ROLE (if init then 1 else 2)
  let s := if m.target ≠ s.sppId then s.sendHello p m.sender else s
  if init then s.setSst p sIOFFER
  else (s.sendPeer p 2 (s.sess p).offerBody).setSst p sRSELECT

/-- R63 for an accepted HELLO. -/
def State.onHello (s : State) (p : PortId) (m : SppMsg) : State :=
  let same := decide (m.sender = s.peer p) && decide (beAt m.payload 0 4 = (s.sess p).peerAttempt)
  let st := s.sst p
  if st = sDISCOVER then s.takeHello p m
  else if (st = sIOFFER ∨ st = sRSELECT) ∧ same then
    let s := if m.target ≠ s.sppId then s.sendHello p m.sender else s
    if st = sRSELECT then s.sendPeer p 2 (s.sess p).offerBody else s
  else if (st = sIOFFER ∨ st = sICONFIRM ∨ st = sRSELECT ∨ st = sNOMODE) ∧ !same then s.takeHello p m
  else if st = sUP ∧ !same then ((s.downEvent p sDISCOVER).newAttempt p).takeHello p m
  else s.unexp p

/-- An OFFER answered with SELECT (R61, R63). -/
def State.answerOffer (s : State) (p : PortId) (m : SppMsg) : State :=
  let sel := (s.sess p).choose m.payload
  let s := (s.modSess p (fun k => { k with offer := m.payload, select := sel, steps := 0 })).sendPeer p 3 sel
  if beAt sel 0 1 = 0 then s.noMode p else s.setSst p sICONFIRM

/-- R63 for an accepted OFFER. -/
def State.onOffer (s : State) (p : PortId) (m : SppMsg) : State :=
  let st := s.sst p
  if st = sDISCOVER ∧ s.sppId < m.sender then
    let s := (s.setSf p Reg.SPP_SESS_PEER_PEER m.sender).setSf p Reg.SPP_SESS_STATUS_ROLE 1
    let s := s.modSess p (fun k => { k with peerAttempt := m.session % 2 ^ 32, peerBeat := beAt m.payload 5 2 })
    s.answerOffer p m
  else if st = sIOFFER then s.answerOffer p m
  else if st = sICONFIRM ∧ m.payload = (s.sess p).offer then s.sendPeer p 3 (s.sess p).select
  else s.unexp p

/-- R63 for an accepted SELECT. -/
def State.onSelect (s : State) (p : PortId) (m : SppMsg) : State :=
  let st := s.sst p
  if st = sRSELECT then
    if beAt m.payload 0 1 = 0 then s.noMode p
    else
      let r := (s.sess p).judge m.payload
      let s := s.sendPeer p 4 (m.payload.take 4 ++ [BitVec.ofNat 8 r, 0, 0, 0])
      let s := s.modSess p (fun k => { k with select := m.payload })
      if r = 0 then s.sessUp p m.payload else s.noMode p
  else if st = sUP ∧ s.sf p Reg.SPP_SESS_STATUS_ROLE = 2 ∧ m.payload = (s.sess p).select then
    s.sendPeer p 4 (m.payload.take 4 ++ [0, 0, 0, 0])
  else s.unexp p

/-- R63 for an accepted CONFIRM. -/
def State.onConfirm (s : State) (p : PortId) (m : SppMsg) : State :=
  if s.sst p = sICONFIRM then
    if beAt m.payload 4 1 ≠ 0 then s.noMode p
    else if m.payload.take 4 = (s.sess p).select.take 4 then s.sessUp p (s.sess p).select
    else s.unexp p
  else s.unexp p

/-- R63, R65 for an accepted BEAT. -/
def State.onBeat (s : State) (p : PortId) (m : SppMsg) : State :=
  if s.sst p = sUP then
    let echo := beAt m.payload 12 12
    let rtt := (dtbOf96 m.at_ - dtbOf96 echo) / 65536 - beAt m.payload 24 4
    let s := if echo = 0 then s else s.setSf p Reg.SPP_SESS_RTT_RTT_NS (min rtt 0xFFFFFFFF)
    s.modSess p (fun k => { k with missed := 0, beatGot := true, echo := beAt m.payload 0 12, echoAt := m.at_ })
  else s.unexp p

/-- R63 for an accepted PREPARE, VOTE, DECIDE or ABORT: delivered to the Sluice in UP. -/
def State.onSluice (s : State) (p : PortId) (m : SppMsg) : State :=
  if s.sst p = sUP then { s with sluIn := s.sluIn ++ [⟨.mac p, none, m.ty, m.payload, m.at_⟩] } else s.unexp p

/-! The receive checks (R59). -/

/-- LEN as R55 gives it. -/
def sppLenOk (ty len : Nat) : Bool :=
  if 1 ≤ ty ∧ ty ≤ 4 then len == 8 else if ty = 5 then len == 32 else decide (6 ≤ ty ∧ ty ≤ 9 ∧ 16 ≤ len ∧ len ≤ 256)

/-- R59, step 7. -/
def State.sppFresh (s : State) (p : PortId) (ty session : Nat) : Bool :=
  if ty = 1 then true
  else if ty = 2 then decide (session / 2 ^ 32 = (s.sess p).attempt)
  else decide (s.sf p Reg.SPP_SESS_STATUS_ROLE ≠ 0) && decide (session = s.sessVal p)

/-- R59: a received SPP frame, from the first byte after the EtherType, without its FCS. What passes waits in the
session's inbox for its command; types 6 to 9 go to the Sluice at once. -/
def State.sppReceive (s : State) (p : PortId) (b : List Byte) (ts : Nat) : State :=
  let blk := Blk.mac p.val
  let ty := beAt b 0 1 % 16
  let auth := beAt b 1 1 ≥ 128
  let kn := bits (beAt b 1 1) 6 6
  let len := beAt b 2 2
  let sender := beAt b 4 8
  let target := beAt b 12 8
  let session := beAt b 20 8
  let seq := beAt b 28 8
  let payload := part b 36 len
  if beAt b 0 1 / 16 ≠ 1 ∨ !(sppLenOk ty len) ∨ b.length < 36 + len + (if auth then 16 else 0) then
    s.bump blk Ctr.MACSPP_RX_MALFORMED
  else if sender = s.sppId then
    let s := s.bump blk Ctr.MACSPP_RX_MISDIR
    if sDISCOVER ≤ s.sst p then (s.downEvent p sCLASH).setEvt Blk.SPP Reg.SPP_EVENT1_CLASH p.val else s
  else if ty ≠ 1 ∧ target ≠ s.sppId then s.bump blk Ctr.MACSPP_RX_MISDIR
  else if auth ∧ (!(s.keySlot p kn).valid ∨ sppTag (s.keySlot p kn).rx seq (b.take (36 + len)) ≠ part b (36 + len) 16) then
    s.bump blk Ctr.MACSPP_RX_BADAUTH
  else if !auth ∧ (s.needKey p ∨ 6 ≤ ty) then s.bump blk Ctr.MACSPP_RX_BADAUTH
  else if auth ∧ seq ≤ (s.keySlot p kn).rxHigh then s.bump blk Ctr.MACSPP_RX_REPLAY
  else
    let s := if auth then s.modKey p kn (fun k => { k with rxHigh := seq }) else s
    if s.peer p ≠ 0 ∧ ty ≠ 1 ∧ sender ≠ s.peer p then s.bump blk Ctr.MACSPP_RX_MISDIR
    else if !(s.sppFresh p ty session) then s.bump blk Ctr.MACSPP_RX_STALE
    else
      let s := s.bump blk Ctr.MACSPP_RX_OK
      let s := s.modSess p (fun k => { k with heard := sender })
      let m : SppMsg := ⟨ty, sender, target, session, payload, ts⟩
      if 6 ≤ ty then s.onSluice p m
      else s.modSess p (fun k => { k with inbox := k.inbox ++ [m] })

/-- The oldest accepted message of a session, taken out if it has a type. -/
def State.sppTake (s : State) (p : PortId) (ty : Nat) : Option (SppMsg × State) :=
  match (s.sess p).inbox with
  | m :: rest => if m.ty = ty then some (m, s.modSess p (fun k => { k with inbox := rest })) else none
  | [] => none

end Sys2Proof.Machine
end

