-- ==== Sys2Proof/Machine/LinkOps.lean ====
section
/-! DEFINITION. Links (02_ports_and_lanes.md): readiness set and cleared (R37, R39), lanes withheld (R34), frames that
leave a MAC (R39, R43, R44, R46-R48, R53). -/

namespace Sys2Proof.Machine

/-- A MAC-block counter advanced. -/
def State.mbump (s : State) (m : MacId) (f : Fld) : State := s.bump (Blk.mac m.val) f

/-! The rings of a management DMA (R50). -/

/-- The index of a management port's MAC block. -/
def mgMac (i : Fin 2) : MacId := ⟨32 + i.val, by omega⟩

/-- The attributes of a management DMA's accesses (R50, R74); N world and B0 without a record. -/
def State.mgAcc (s : State) (i : Fin 2) : Access :=
  match s.plat.mgs.find? (fun r => r.idx == i.val) with
  | some r => ⟨.mgdma i, r.world, r.basin, false⟩
  | none => ⟨.mgdma i, .N, 0, false⟩

/-- The descriptor that a management DMA's transmit ring stands at goes back: OWN cleared, ERR as given, with TSREQ
the timestamp, HEAD advanced (R50). A refused write leaves the DMA at it. -/
def State.mgTxBack (s : State) (i : Fin 2) (err req : Bool) (ts : Nat) : State :=
  let b := Blk.mac (mgMac i).val
  let size := s.fget b Reg.MAC_TXRING_SIZE
  let head := s.fget b Reg.MAC_RINGPTR_TX_HEAD
  if size = 0 then s
  else
    let pa := s.fget b Reg.MAC_TXRING_BASE * 32 + 32 * (head % size)
    let flags : Byte := BitVec.ofNat 8 ((if err then 2 else 0) + (if req then 4 else 0))
    let w := s.dmaWrite (s.mgAcc i) (pa + 10) (flags :: (if req && !err then [0, 0, 0, 0, 0] ++ leBytes 12 ts else []))
    if w.2 = .ok then w.1.fset b Reg.MAC_RINGPTR_TX_HEAD ((head + 1) % size) else w.1

/-- The frame that a MAC has on the wire is cut off, and what it had picked is dropped (R39); a management
DMA's descriptor goes back with ERR. -/
def State.cutTx (s : State) (m : MacId) : State :=
  let k := s.mac m
  let s := s.modMac m (fun k => { k with tx := none, next := none, mgTx := none })
  let s := match k.tx.bind s.frame with
    | some f =>
      let s := { (s.mbump m Ctr.MAC_TX_TRUNC) with out := Out.frame m f.obytes true :: s.out }
      s.release f
    | none => s
  let s := match k.next.bind s.frame with
    | some f => s.dropFrame f (Blk.mac m.val) Ctr.MAC_DROP_LINKDOWN
    | none => s
  match k.mgTx with
  | some f =>
    { (s.mbump m Ctr.MAC_TX_TRUNC) with out := Out.frame m f.bytes true :: s.out }.mgTxBack (Fin.ofNat 2 (m.val - 32)) true f.tsReq 0
  | none => s

/-- R39: a MAC's readiness bit clears. -/
def State.macDown (s : State) (m : MacId) : State :=
  if !(s.macUp m) then s
  else
    let s := (s.setReady (Rdy.ofMac m) false).setMf m Reg.MAC_STATUS_LINK 0
    let s := (s.setMf m Reg.MAC_EVENT_LINK_DOWN 1).cutTx m
    let s := (s.setMf m Reg.MAC_FC_STATE_RX_PAUSED 0).setMf m Reg.MAC_FC_STATE_TX_XOFF 0
    let n := (s.mac m).slot.length
    let s := s.modMac m (fun k => { k with slot := [], fcDue := false })
    if h : m.val < 32 then
      let p : PortId := ⟨m.val, h⟩
      let s := s.addCtr (Blk.mac m.val) Ctr.MACSPP_SPP_TXDROP (if s.isLine m.val then n else 0)
      (s.sessEval p).weirDrop p
    else s

/-- A MAC leaves what it was doing and negotiates anew (R34, R37). -/
def State.macRestart (s : State) (m : MacId) : State := (s.macDown m).macStart m

/-- The state of a MAC after its candidates changed (R34): an UP link stays while its mode's lanes are in service; a MAC
that has settled on a mode that is no candidate any more, or with MEDIUM = 1 on another than the highest, starts anew. -/
def State.macReeval (s : State) (m : MacId) : State :=
  let st := s.macState m
  if s.macHeld m then (if st = 0 then s else s.macRestart m)
  else if st = 0 then s.macStart m
  else if st = 4 then (if (s.usedLanes m).all (fun k => s.laneIn k) then s else s.macRestart m)
  else if st = 5 then s
  else if st = 1 then (if (s.candidates m).isEmpty then s.macStart m else s)
  else
    let settled := match s.modeOf m with
      | some c => s.candidate m c && !(s.flag (Blk.mac m.val) Reg.MAC_CTRL_MEDIUM && (s.candidates m).head? != some c)
      | none => false
    if settled then s else s.macStart m

/-- The MAC whose group holds a lane (R30). -/
def State.macOfLane (s : State) (k : Nat) : Option MacId :=
  (s.plat.macs.find? (fun r => r.bound && decide (r.base ≤ k) && decide (k < r.base + r.width))).map
    (fun r => Fin.ofNat 34 (r.idx % 32))

/-- A lane withheld, or given back (R34). -/
def State.laneChanged (s : State) (k : Nat) : State :=
  let s := if s.laneIn k then s else s.laneOff k
  match s.macOfLane k with
  | some m => s.macReeval m
  | none => s

/-- R37: a MAC's readiness bit is set, and the first frame out shows the XOFF state in force (R39, R44). -/
def State.macRise (s : State) (m : MacId) : State :=
  let s := (s.setMf m Reg.MAC_STATUS_STATE 4).setReady (Rdy.ofMac m) true
  let s := (s.setMf m Reg.MAC_STATUS_LINK 1).setMf m Reg.MAC_EVENT_LINK_UP 1
  let s := s.modMac m (fun k => { k with fcDue := decide (s.fcMode m ≠ 0) })
  if h : m.val < 32 then s.sessEval ⟨m.val, h⟩ else s

/-! Transmission. -/

/-- A priority of a MAC is paused by the partner (R42, R43). -/
def State.paused (s : State) (m : MacId) (p : Nat) : Bool := bits (s.mf m Reg.MAC_FC_STATE_RX_PAUSED) p p = 1

/-- The SPP slot has a frame that may leave (R53). -/
def State.slotReady (s : State) (m : MacId) : Bool :=
  !(s.mac m).slot.isEmpty && !(s.paused m (s.fget Blk.SPP Reg.SPP_CTRL_PRIO))

/-- The picked frame's transmission begins once the wire is free and no flow-control or SPP frame goes ahead (R44,
R53). -/
def State.txStart (s : State) (m : MacId) : State :=
  let k := s.mac m
  if k.tx.isNone && !k.fcDue && !(s.slotReady m) then s.modMac m (fun k => { k with tx := k.next, next := none }) else s

/-- The flow-control frame of R44: PFC with the XOFF priorities and those just released, or PAUSE. The source
address is SPP_SRCMAC. DESIGN CHOICE, notes/assumptions/30.md. -/
def State.fcFrame (s : State) (m : MacId) : List Byte :=
  let want := s.wantXoff m
  let was := BitVec.ofNat 8 (s.mf m Reg.MAC_FC_STATE_TX_XOFF)
  let q := s.mf m Reg.MAC_FC_QUANTA
  let head := [0x01, 0x80, 0xC2, 0x00, 0x00, 0x01] ++ beBytes 6 (s.fget Blk.SPP Reg.SPP_SRCMAC_SA) ++ beBytes 2 0x8808
  withFcs (head ++
    (if s.fcMode m = 1 then beBytes 2 1 ++ beBytes 2 (if want = 0 then 0 else q)
     else beBytes 2 0x0101 ++ beBytes 2 (want ||| was).toNat
      ++ ((List.range 8).map (fun p => beBytes 2 (if bitAt want p then q else 0))).flatten))

/-- A flow-control frame sent (R44); for a borrowed MAC there is none. -/
def State.fcSend (s : State) (m : MacId) : State :=
  let fr := s.fcFrame m
  let s := ((s.mbump m Ctr.MAC_TX_FC).mbump m Ctr.MAC_TX_FRAMES).addCtr (Blk.mac m.val) Ctr.MAC_TX_BYTES fr.length
  let s := { s with out := Out.frame m fr false :: s.out }
  let s := s.setMf m Reg.MAC_FC_STATE_TX_XOFF (s.wantXoff m).toNat
  (s.modMac m (fun k => { k with fcDue := false })).txStart m

/-- The FRAME flits of a frame with its 16-byte prefix (R177: timestamp, the frame's length n): `dev` the partner, `down` the direction to the carrier. -/
def State.lentFlits (s : State) (dev m prio : Nat) (down : Bool) (ts : Nat) (bs : List Byte) : List Flit :=
  let all := leBytes 12 (ts % 2 ^ 96) ++ leBytes 2 bs.length ++ [0, 0] ++ bs
  let n := (all.length + 239) / 240
  let tag : BitVec 16 := BitVec.ofNat 16 (m + prio * 32 + (if down then 256 else 0))
  (List.range n).map (fun i =>
    let pl := part all (240 * i) 240
    ⟨mkHdr 1 dev s.myIndex 0 (i == 0) (i + 1 == n) pl.length 0 0 tag, pl⟩)

/-- Flits sent one after the other. -/
def State.sendFlits (s : State) (fs : List Flit) : State := foldL fs (fun f t => (t.sendFlit f).1) s

/-- The bytes of a lent MAC that wait for room on the ridge links, against the carrier's 256 KiB (R177). -/
def State.lentWaiting (s : State) (m : Nat) : Nat :=
  (s.links.toList.flatMap (·.waitq)).foldl (fun n f => if f.ty = 1 ∧ f.tag.toNat % 32 = m then n + f.payload.length else n) 0

/-! Precision time (R46-R48). -/

/-- Where a frame's PTP message begins, and whether it goes over UDP: after EtherType 0x88F7, or at UDP ports 319 and
320 over IPv4 or IPv6. PRESUMED (IEEE 1588-2019), notes/assumptions/31.md. -/
structure PtpPlace where
  at_ : Nat
  v4 : Option Nat
  v6 : Bool
  deriving DecidableEq, Repr

/-- Where the EtherType stands, after at most one tag (R52). -/
def etAt (b : List Byte) : Nat := if beAt b 12 2 = 0x8100 ∨ beAt b 12 2 = 0x88A8 then 16 else 12
/-- The EtherType after at most one tag (R52). -/
def etherType (b : List Byte) : Nat := beAt b (etAt b) 2

def ptpPlace (b : List Byte) : Option PtpPlace :=
  let e := etAt b
  let ty := beAt b e 2
  let ptpPort := fun u => beAt b (u + 2) 2 = 319 ∨ beAt b (u + 2) 2 = 320
  if ty = 0x88F7 then some ⟨e + 2, none, false⟩
  else if ty = 0x0800 then
    let u := e + 2 + 4 * (beAt b (e + 2) 1 % 16)
    if beAt b (e + 11) 1 = 17 ∧ ptpPort u then some ⟨u + 8, some (u + 6), false⟩ else none
  else if ty = 0x86DD then
    let u := e + 42
    if beAt b (e + 8) 1 = 17 ∧ ptpPort u then some ⟨u + 8, none, true⟩ else none
  else none

/-- R47: an entry of the transmit timestamp FIFO of 64, lost when it is full. -/
def State.txtsPut (s : State) (m : MacId) (b : List Byte) (ts : Nat) : State :=
  let q := (s.mac m).txts
  let at_ := ((ptpPlace b).map (·.at_)).getD 0
  if 64 ≤ q.length then (s.mbump m Ctr.MAC_TS_LOST).setMf m Reg.MAC_EVENT_TS_OVF 1
  else
    let s := if q.isEmpty then s.setMf m Reg.MAC_EVENT_TS_AVAIL 1 else s
    s.modMac m (fun k => { k with txts := q ++ [⟨ts, beAt b (at_ + 30) 2, beAt b at_ 1 % 16, beAt b (at_ + 4) 1⟩] })

/-- R48: the one-step update of a frame as it is transmitted at `ts`: originTimestamp of a Sync; with an ingress
timestamp `ing`, the residence time added to correctionField; the UDP checksum over IPv4 becomes 0 and the FCS is made
anew. -/
def oneStep (b : List Byte) (ing : Option Nat) (ts : Nat) : List Byte :=
  match ptpPlace b with
  | none => b
  | some w =>
    let body := b.take (b.length - 4)
    let body := if beAt b w.at_ 1 % 16 = 0 then patch body (w.at_ + 34) (beBytes 10 (ts / 65536)) else body
    let body := match ing with
      | some t => patch body (w.at_ + 8) (beBytes 8 (beAt b (w.at_ + 8) 8 + (dtbOf96 ts - dtbOf96 t)))
      | none => body
    let body := match w.v4 with
      | some u => patch body u [0, 0]
      | none => body
    body ++ fcsOf body

end Sys2Proof.Machine
end

