-- ==== Sys2Proof/Machine/ChanOps.lean ====
section
/-! DEFINITION. Cascade channels (05_cascade_fabric.md): steering (R86), the intake (R85, R87, R88, R103), chains
(R75, R89), tables (R91-R96), failover (17_fault_tolerance.md R322-R324). -/

namespace Sys2Proof.Machine

/-! Channels. -/

/-- Whether a channel is one of a linked pair (R74). -/
def State.linkedCh (s : State) (c : ChanId) : Bool := s.plat.links.contains (c.val / 2 * 2)
/-- The channel that carries a channel's frames: the even one of a linked pair (R85). -/
def State.headCh (s : State) (c : ChanId) : ChanId := if s.linkedCh c then ⟨c.val / 2 * 2, by omega⟩ else c
/-- A channel's record (R74). -/
def State.chanRec (s : State) (c : ChanId) : Option ChanRec := s.plat.chans.find? (fun r => r.ch == c.val)
/-- The owner of a channel. -/
def State.chOwner (s : State) (c : ChanId) : BasinId := ((s.chanRec c).map (·.owner)).getD 0
/-- A basin is a member of a channel (R74). -/
def State.chMember (s : State) (c : ChanId) (b : BasinId) : Bool :=
  (s.chanRec c).any (fun r => r.members.any (fun m => m.basin == b))
/-- CAS_STATUS.STATE of a channel. -/
def State.chState (s : State) (c : ChanId) : Nat := s.fget (Blk.cas c.val) Reg.CAS_STATUS_STATE
def State.chan (s : State) (c : ChanId) : Chan := s.chans.get c
def State.modChan (s : State) (c : ChanId) (f : Chan → Chan) : State :=
  { s with chans := s.chans.set c.val (f (s.chans.get c)) c.isLt }

/-- The channels of a pair, or the one channel. -/
def State.bothCh (s : State) (c : ChanId) : List Nat :=
  if s.linkedCh c then [c.val / 2 * 2, c.val / 2 * 2 + 1] else [c.val]

/-- The state of a channel, or of both of a pair, with the readiness bits that show it (R27, R322, R325). -/
def State.chSet (s : State) (c : ChanId) (st : Nat) : State :=
  foldL (s.bothCh c) (fun x t =>
    let st' := if st = 1 ∧ s.linkedCh c ∧ x % 2 = 1 then 4 else st
    let t := (t.fset (Blk.cas x) Reg.CAS_STATUS_STATE st').setReady (Rdy.ch x) (decide (st = 1))
    foldN 8 (fun i u => u.setReady (Rdy.tier (8 * x + i)) (decide (st = 1))) t) s

/-! Steering (R86, R323). -/

/-- A tag EtherType (802.1Q, 802.1ad). -/
def isTag (e : Nat) : Bool := e == 0x8100 || e == 0x88A8
/-- The offset of a SecTAG's EtherType, directly after the source address or after one tag (R88). -/
def secAt (b : List Byte) : Option Nat :=
  if beAt b 12 2 = 0x88E5 then some 12 else if isTag (beAt b 12 2) ∧ beAt b 16 2 = 0x88E5 then some 16 else none
/-- The steering key of R86; a frame from a basin's ring takes the client's (R97). -/
def steerKey (line : Bool) (b : List Byte) : List Byte :=
  if line then
    match secAt b with
    | some o => if bits (beAt b (o + 2) 1) 5 5 = 1 then part b (o + 8) 8 else part b 6 6 ++ [0, 1]
    | none => part b 6 6 ++ [0, 0]
  else part b 0 12 ++ beBytes 2 (if isTag (beAt b 12 2) then beAt b 14 2 % 4096 else 0)

/-- The j-th of a list of channels, j = CRC-32 of the key mod k. -/
def pickCh (l : List ChanId) (key : List Byte) : Option ChanId := l[crc32 key % l.length]?
/-- The in-service channels of a channel's FAILOVER mask (R323). -/
def State.failoverSet (s : State) (c : ChanId) : List ChanId :=
  (List.finRange 8).filter (fun x => (s.chanRec c).any (fun r => bitAt r.failover x.val) && decide (s.chState x = 1)
    && !(s.chan x).quiescing)
/-- R323: where a frame that steering gives to a channel goes. -/
def State.routeCh (s : State) (c : ChanId) (key : List Byte) : Option ChanId :=
  if s.chState c = 2 ∨ s.chState c = 3 ∨ (s.chan c).quiescing then pickCh (s.failoverSet c) key else some c
/-- The channels of a MAC's CHANNELS mask (R74). -/
def State.macChans (s : State) (m : PortId) : List ChanId :=
  (List.finRange 8).filter (fun c => (s.macRec m.val).any (fun r => bitAt r.channels c.val))

/-- A frame's steering key. -/
def Frame.steer (f : Frame) : List Byte := steerKey (f.d.dec && !f.d.inject) f.bytes

/-! Intake (R85, R87, R88, R103). -/

/-- A frame dropped and counted in a counter of its channel. -/
def State.chDrop (s : State) (f : Frame) (ctr : Fld) : State := s.dropFrame f (Blk.cas f.ch.val) ctr

/-- The bytes that wait for an intake. -/
def State.waiting (s : State) (c : ChanId) : Nat :=
  (s.frames.filter (fun f => f.ch == c && f.loc == .wait)).foldl (fun n f => n + f.d.len) 0

/-- R87: a frame arrives for a channel's intake; while more than INTAKE_MAX waits it is dropped. -/
def State.arrive (s : State) (f : Frame) (c : ChanId) : State :=
  let f := { f with ch := c, loc := .wait }
  if s.fget (Blk.cas c.val) Reg.CAS_CTRL_INTAKE_MAX * 1024 < s.waiting c then s.chDrop f Ctr.CAS_DROP_INTAKE
  else { s with frames := s.frames.filter (fun x => x.id != f.id) ++ [f] }

/-- R323: a frame given by steering to a channel, redirected or dropped in DROP_CHFAIL where that is failed or quiesced. -/
def State.giveTo (s : State) (f : Frame) (c : ChanId) : State :=
  match s.routeCh c f.steer with
  | some c' => s.arrive f c'
  | none => s.dropFrame f (Blk.cas c.val) Ctr.CAS_DROP_CHFAIL

/-- R86: a received frame steered by its ingress MAC's CHANNELS mask. -/
def State.steerFrame (s : State) (f : Frame) : State :=
  match pickCh (s.macChans f.d.port) f.steer with
  | some c => s.giveTo f c
  | none => s.release f

/-- The descriptor of a frame that enters intake (R88). What the rule does not name is 0 or not valid, except PRIO, a free
value until a K entry gives it (notes/assumptions/8.md); a frame of an inject ring keeps what R97 gave it, a frame replayed
through a failover channel TS, PORT, BASIN and EPOCH (R324). -/
def State.intakeDesc (s : State) (f : Frame) : Desc :=
  let o := secAt f.bytes
  let d := { f.d with
    hdr := 0, sectag := o.isSome, offSec := o.getD 0xFF, offL3 := 0xFF, offL4 := 0xFF, nodes := 0, meterId := 0,
    editIdx := 0, colour := 0, reason := 0, next := 0, key := List.replicate 24 0 }
  if f.d.inject then { d with accepted := true }
  else
    { d with accepted := false, sc := none, out := none, action := 0, tsreq := false, onestep := false,
             prio := (Config.freeWord s.free).toNat % 8, basin := s.ownerOf f.d.port.val,
             mkpdu := f.d.dec && etherType f.bytes == 0x888E,
             epoch := if f.chReplay then f.d.epoch else s.epoch }

/-! Chains (R75, R89). -/

/-- The configuration of an epoch (R83). -/
def State.cfgsOf (s : State) (e : Bool) : List BasinCfg := if e = s.epoch then s.cfgNow else s.cfgOld
def State.basinCfg (s : State) (e : Bool) (b : BasinId) : Option BasinCfg := (s.cfgsOf e).find? (fun c => c.basin == b)
/-- The function codes of a channel's slots, 16 of them for a linked pair. -/
def State.slotCodes (s : State) (e : Bool) (c : ChanId) : List Nat :=
  let of := fun (x : Nat) =>
    (((s.basinCfg e (s.chOwner c)).bind (fun g => g.chains.find? (fun r => r.1 == x))).map (·.2)).getD []
  if s.linkedCh c then of (c.val / 2 * 2) ++ of (c.val / 2 * 2 + 1) else of c.val

/-- Function codes of R75. -/
def fnP : Nat := 1
def fnK : Nat := 2
def fnA : Nat := 3
def fnV : Nat := 4
def fnE : Nat := 5
def fnM : Nat := 6

/-- The tiers of a channel with their functions, NONE left out, in visiting order. -/
def State.chainAt (s : State) (e : Bool) (c : ChanId) : List (Nat × Nat) :=
  ((s.slotCodes e c).zipIdx.map (fun x => (8 * (s.headCh c).val + x.2, x.1))).filter (fun x => x.2 ≠ 0)

/-- The tiers that a frame visits: V tiers pass encrypt frames (R89), injected frames skip P and K (R97). -/
def State.stops (s : State) (f : Frame) : List (Nat × Nat) :=
  (s.chainAt f.d.epoch f.ch).filter (fun x =>
    !(x.2 == fnV && !f.d.dec) && !(f.d.inject && (x.2 == fnP || x.2 == fnK)))

/-- The last tier of a function in a frame's chain. -/
def State.lastTier (s : State) (f : Frame) (fn : Nat) : Option Nat :=
  (((s.chainAt f.d.epoch f.ch).filter (fun x => x.2 == fn)).getLast?).map (·.1)
/-- The first tier of a function in a frame's chain. -/
def State.firstTier (s : State) (f : Frame) (fn : Nat) : Option Nat :=
  ((s.chainAt f.d.epoch f.ch).find? (fun x => x.2 == fn)).map (·.1)

/-- A tier's number, out of range numbers taken as 0 (they do not occur). -/
def tierOf (n : Nat) : TierId := Fin.ofNat 64 n

/-- The next tier a frame visits after tier `t`. -/
def State.nextStop (s : State) (f : Frame) (t : Nat) : Option Nat := ((s.stops f).map (·.1)).find? (fun x => decide (t < x))
def State.goNext (s : State) (f : Frame) (t : Nat) : State :=
  match s.nextStop f t with
  | some x => s.modFrame f.id (fun g => { g with loc := .tier (tierOf x) })
  | none => s
/-- A punted frame goes on to the last M tier, which writes it (R89, R97). -/
def State.puntFrom (s : State) (f : Frame) (reason : Nat) : State :=
  s.modFrame f.id (fun g => { g with d := { f.d with reason := reason },
                                     loc := .tier (tierOf ((s.lastTier f fnM).getD 0)) })

/-- The frame a tier acts on next, if the tier has that function for it. -/
def State.frameAt (s : State) (t : TierId) (fn : Nat) : Option Frame :=
  match s.frames.find? (fun f => f.loc == .tier t) with
  | some f => if (s.stops f).contains (t.val, fn) || (fn == fnM && decide (f.d.reason ≠ 0)) then some f else none
  | none => none

/-- R87, R88: the intake takes the oldest waiting frame of an in-service channel. -/
def State.takeIn (s : State) (c : ChanId) : State :=
  match s.frames.find? (fun f => f.ch == c && f.loc == .wait) with
  | some f =>
    if s.chState c = 1 ∧ !(s.chan c).quiescing then
      let re := f.chReplay
      let f := { f with d := s.intakeDesc f, chReplay := false }
      let s := (s.draw 1).bump (Blk.cas c.val) Ctr.CAS_FRAMES_IN
      let s := if re then s.bump (Blk.cas c.val) Ctr.CAS_REPLAYED_CH else s
      match (s.stops f).head? with
      | some x => (s.modFrame f.id (fun _ => { f with loc := .tier (tierOf x.1) })).toBack f.id
      | none => s
    else s
  | none => s

/-! Tables (R75, R76, R91-R93). -/

/-- The 64 bytes of a row; a row that nothing wrote is all 0 (R76). -/
def TableDef.row (t : TableDef) (i : Nat) : List Byte := sparseGet (List.replicate 64 0) i t.data
/-- The tables of a basin on a tier, in ascending table ID. -/
def State.tablesAt (s : State) (e : Bool) (b : BasinId) (t : Nat) : List TableDef :=
  match s.basinCfg e b with
  | some g => (List.range 16).filterMap (fun i => g.tables.find? (fun x => x.tier == t && x.id == i))
  | none => []

/-- A frame byte as parsing sees it (R92). -/
def seen (b : List Byte) (i : Nat) : Byte := if i < min b.length 256 then (b[i]?).getD 0 else 0

/-- LEN_SHIFT (R91). -/
def shiftLen (v x : Nat) : Nat := if v < 4 then x * 2 ^ v else x / 2 ^ (v - 3)

/-- The header length a node gives (R91). -/
def nodeLen (row b : List Byte) (h : Nat) : Nat :=
  let off := beAt row 2 1
  beAt row 1 1 + (if off = 0xFF then 0
    else shiftLen (beAt row 4 1 % 8) ((seen b (h + off)).toNat &&& beAt row 3 1))

/-- The EXTRACT entries applied in order (R91). -/
def nodeExtract (row b : List Byte) (h : Nat) (key : List Byte) : List Byte :=
  (List.range 4).foldl (fun k i =>
    let src := beAt row (8 + 2 * i) 1
    let c := beAt row (9 + 2 * i) 1
    if src = 0xFF then k
    else (List.range (c / 32 + 1)).foldl (fun k j => k.set (c % 32 + j) (seen b (h + src + j))) k) key

/-- The NEXT of the first used transition whose masked selector matches. -/
def nodeNext (row : List Byte) (sel : Nat) : Option Nat :=
  ((List.range 8).map (fun i => part row (16 + 6 * i) 6)).findSome? (fun e =>
    if leAt e 4 2 ≠ 0xFFFF ∧ (sel &&& leAt e 2 2) = leAt e 0 2 then some (leAt e 4 2) else none)

/-- How a P tier leaves a frame. -/
inductive ParseEnd where
  | more
  | accept
  | reject
  | punt
  deriving DecidableEq, Repr

/-- Up to `n` nodes of R92 evaluated. -/
def parseRun (t : TableDef) (b : List Byte) : Nat → Desc → Desc × ParseEnd
  | 0, d => (d, .more)
  | n + 1, d =>
    let row := t.row d.next
    let fl := beAt row 0 1
    let len := nodeLen row b d.hdr
    let d := { d with nodes := (d.nodes + 1) % 64 }
    if t.rows ≤ d.next ∨ fl % 2 = 0 ∨ len = 0 ∨ min b.length 256 < d.hdr + len then (d, .reject)
    else
      let so := beAt row 5 1
      let sel := if so = 0xFF then 0 else (seen b (d.hdr + so)).toNat * 256 + (seen b (d.hdr + so + 1)).toNat
      let d := { d with
        offL3 := if bits fl 2 2 = 1 then d.hdr % 256 else d.offL3, offL4 := if bits fl 3 3 = 1 then d.hdr % 256 else d.offL4,
        offSec := if bits fl 4 4 = 1 then d.hdr % 256 else d.offSec, key := nodeExtract row b d.hdr d.key, hdr := d.hdr + len }
      match nodeNext row sel with
      | none => (if bits fl 1 1 = 1 then (d, .accept) else (d, .reject))
      | some x =>
        if x = 0x8000 then (d, .accept)
        else if x = 0x8002 then (d, .punt)
        else if x < 0x1000 ∧ x < t.rows then parseRun t b n { d with next := x }
        else (d, .reject)

/-- R92: a P tier acts on a frame. -/
def State.parse (s : State) (f : Frame) (t : TierId) : State :=
  if f.d.accepted then s.goNext f t.val
  else
    match (s.tablesAt f.d.epoch f.d.basin t.val).find? (fun x => x.kind == .graph) with
    | none => s.chDrop f Ctr.CAS_DROP_PARSE
    | some tb =>
      let r := parseRun tb f.bytes 4 f.d
      let f := { f with d := r.1 }
      let s := s.modFrame f.id (fun _ => f)
      match r.2 with
      | .reject => s.chDrop f Ctr.CAS_DROP_PARSE
      | .punt => s.puntFrom f 4
      | .accept => (s.modFrame f.id (fun g => { g with d := { g.d with accepted := true } })).goNext f t.val
      | .more => if s.lastTier f fnP = some t.val then s.chDrop f Ctr.CAS_DROP_PARSE else s.goNext f t.val

/-- The entry of a table that a key buffer hits, padded to 24 bytes (R93). Key, mask and entry follow one another in a
row (notes/assumptions/32.md). -/
def TableDef.hit (t : TableDef) (key : List Byte) : Option (List Byte) :=
  let zero := List.replicate 64 (0 : Byte)
  let k := t.keyBits / 8
  let kb := part (key ++ List.replicate 64 0) 0 k
  let entry := fun (row : List Byte) (at_ : Nat) => part row at_ t.entryBytes ++ List.replicate (24 - t.entryBytes) 0
  match t.kind with
  | .exact => (t.data.find? (fun r => decide (r.1 < t.rows) && r.2 != zero && part r.2 0 k == kb)).map (fun r => entry r.2 k)
  | .ternary =>
    (t.data.find? (fun r => decide (r.1 < t.rows) && r.2 != zero
      && List.zipWith (· &&& ·) kb (part r.2 k k) == part r.2 0 k)).map (fun r => entry r.2 (2 * k))
  | .direct =>
    let row := t.row (beAt key 0 2 % 2 ^ t.keyBits)
    if row = zero then none else some (entry row 0)
  | .graph => none

/-- An entry's fields applied to a descriptor; ACTION comes last (R93). -/
def applyEntry (d : Desc) (e : List Byte) : Desc :=
  { d with
    basin := if beAt e 1 1 = 0xFF then d.basin else Fin.ofNat 64 (beAt e 1 1),
    prio := if 128 ≤ beAt e 2 1 then beAt e 2 1 % 8 else d.prio,
    out := if 128 ≤ beAt e 3 1 then some (Fin.ofNat 32 (beAt e 3 1)) else d.out,
    sc := if 2 ^ 31 ≤ leAt e 4 4 then some (leAt e 4 4 % 2 ^ 18) else d.sc,
    meterId := if leAt e 8 2 ≠ 0 then leAt e 8 2 else d.meterId,
    editIdx := if leAt e 10 2 ≠ 0 then leAt e 10 2 else d.editIdx,
    tsreq := d.tsreq || bits (beAt e 12 1) 0 0 = 1, onestep := d.onestep || bits (beAt e 12 1) 1 1 = 1,
    key := if bits (beAt e 12 1) 2 2 = 1 then part e 16 8 ++ d.key.drop 8 else d.key,
    action := beAt e 0 1 }

/-- R90: the change of basin that an entry asks for is refused. -/
def State.badBasin (s : State) (f : Frame) (e : List Byte) : Bool :=
  let b := beAt e 1 1
  b != 0xFF && decide (b ≠ f.d.basin.val)
    && !(decide (f.d.basin = s.ownerOf f.d.port.val) && decide (b < 64) && s.chMember f.ch (Fin.ofNat 64 b))

/-- Where R94 sends a frame that leaves the last K tier. -/
inductive Verdict where
  | go
  | punt (reason : Nat)
  | noSa
  | drop (ctr : Fld)
  deriving DecidableEq, Repr

/-- OUT names a MAC whose CHANNELS mask holds a channel of which the frame's basin is a member (R94). -/
def State.outOk (s : State) (d : Desc) (line : Bool) : Bool :=
  match d.out with
  | some m => (if line then s.isLine m.val else s.isClient m.val) && (s.macChans m).any (fun c => s.chMember c d.basin)
  | none => false

/-- R94. -/
def State.verdict (s : State) (d : Desc) : Verdict :=
  if d.mkpdu then .punt 3
  else if d.action = 0 then
    (if s.fget (Blk.bw d.basin.val) Reg.WER_FRAME_CTRL_MISS = 1 then .punt 2 else .drop Ctr.CAS_DROP_MISS)
  else if d.dec ∧ !d.sectag then .noSa
  else if d.action = 4 then .drop Ctr.CAS_DROP_ACTION
  else if d.action = 5 then (if d.dec then .drop Ctr.CAS_DROP_ACTION else .punt 1)
  else if d.action = 1 ∧ !d.dec ∧ d.sc.isSome ∧ s.outOk d true then .go
  else if d.action = 2 ∧ d.dec ∧ d.sc.isSome ∧ s.outOk d false then .go
  else if d.action = 3 ∧ !d.dec ∧ s.outOk d false then .go
  else .drop Ctr.CAS_DROP_ACTION

/-- R93, R94: a K tier acts on a frame. -/
def State.classify (s : State) (f : Frame) (t : TierId) : State :=
  let hit := if f.d.action ≠ 0 then none else (s.tablesAt f.d.epoch f.d.basin t.val).findSome? (fun x => x.hit f.d.key)
  match hit with
  | some e =>
    if s.badBasin f e then s.chDrop f Ctr.CAS_DROP_BASIN else fin { f with d := applyEntry f.d e }
  | none => fin f
where
  fin (f : Frame) : State :=
    let s := s.modFrame f.id (fun _ => f)
    if s.lastTier f fnK = some t.val then
      match s.verdict f.d with
      | .go => s.goNext f t.val
      | .punt r => s.puntFrom f r
      | .noSa => s.dropNosa f
      | .drop c => s.chDrop f c
    else s.goNext f t.val

/-- The row of a tier's DIRECT table that E and M tiers read; row 0 is never read (R95, R96). -/
def State.directRow (s : State) (f : Frame) (t : TierId) (i : Nat) : Option (TableDef × List Byte) :=
  if i = 0 then none
  else
    match (s.tablesAt f.d.epoch f.d.basin t.val).find? (fun x => x.kind == .direct) with
    | some tb => if i < tb.rows then some (tb, tb.row i) else none
    | none => none

/-- R95: an E tier records the edits of its row. -/
def State.editAt (s : State) (f : Frame) (t : TierId) : State :=
  let s := match s.directRow f t f.d.editIdx with
    | some r => s.modFrame f.id (fun g => { g with edit := r.2 })
    | none => s
  s.goNext f t.val

/-! Meters (R96), in units of 1/8000 byte: at R Mbit/s, R units come in a nanosecond. -/

/-- A bucket brought up to a tick. -/
def fillTo (have_ : Int) (rate cap dt : Nat) : Int := min (have_ + (rate * dt : Nat)) (cap : Int)

/-- Which version of a meter row a frame acts on. -/
def State.meterKey (s : State) (f : Frame) (t : TierId) (tb : TableDef) : MeterKey :=
  ⟨decide (f.d.epoch ≠ s.epoch) && s.switched.contains (f.d.basin.val, t.val), f.d.basin, t, tb.id, f.d.meterId⟩

/-- The colour of a frame and the buckets after it: RFC 2698, colour-blind. A bucket nothing used is full
(notes/assumptions/33.md). -/
def State.meter (s : State) (f : Frame) (t : TierId) : Nat × Bool × State :=
  match s.directRow f t f.d.meterId with
  | none => (0, false, s)
  | some (tb, row) =>
    if beAt row 24 1 ≠ 1 then (0, false, s)
    else
      let key := s.meterKey f t tb
      let cap := leAt row 8 4 * 8000
      let pcap := leAt row 12 4 * 8000
      let now := s.tb.ticks
      let m := ((s.meters.find? (fun e => e.1 == key)).map (·.2)).getD ⟨cap, pcap, now⟩
      let tc := fillTo m.tc (leAt row 0 4) cap (now - m.last)
      let tp := fillTo m.tp (leAt row 4 4) pcap (now - m.last)
      let n : Int := f.d.len * 8000
      let r : Nat × Meter :=
        if tp < n then (2, ⟨tc, tp, now⟩) else if tc < n then (1, ⟨tc, tp - n, now⟩) else (0, ⟨tc - n, tp - n, now⟩)
      (r.1, beAt row 25 1 != 1,
        { s with meters := (key, r.2) :: s.meters.filter (fun e => e.1 != key) })

/-! Channel failure and quiescing (R322-R325). -/

/-- A frame in a channel's chain: past intake and not past the last tier. -/
def Frame.inChain (f : Frame) : Bool :=
  match f.loc with
  | .wait => f.chReplay
  | .queue _ _ => false
  | .out _ => false
  | _ => true

/-- A frame as it re-enters intake (R324). -/
def Frame.again2 (f : Frame) : Frame :=
  { f with loc := .wait, outCells := [], req := none, again := false, flip := false, icvBad := false, plain := [], vok := false,
           edit := [], chReplay := true }

/-- Frames moved to a channel's failover channels: `mine` replayed from the start of the chain, ahead of what waits there
(R324); `late` steered anew, behind them (R323). -/
def State.reroute (s : State) (c : ChanId) (mine late : List Frame) : State :=
  let s := foldL mine (fun f t => t.freeUp f.outCells) s
  let s := { s with frames := s.frames.filter (fun f => !(mine.contains f) && !(late.contains f)) }
  let s := foldL mine (fun f t =>
    let g := f.again2
    match pickCh (t.failoverSet c) f.steer with
    | some c' => { t with frames := t.frames ++ [{ g with ch := c' }] }
    | none => t.dropFrame g (Blk.cas c.val) Ctr.CAS_DROP_CHFAIL) s
  let isMine := fun (f : Frame) => mine.any (fun g => g.id == f.id)
  let s := { s with frames := s.frames.filter isMine ++ s.frames.filter (fun f => !(isMine f)) }
  foldL late (fun f t => t.giveTo f c) s

/-- The frames that wait for a channel's intake: those replayed into it, and the others. -/
def State.waiters (s : State) (c : ChanId) (replays : Bool) : List Frame :=
  s.frames.filter (fun f => f.ch == c && f.loc == .wait && f.chReplay == replays)

/-- R324: the frames of a failed channel. -/
def State.replayCh (s : State) (c : ChanId) : State :=
  s.reroute c (s.frames.filter (fun f => f.ch == c && f.inChain)) (s.waiters c false)

/-- R322: a channel fails: cause 1 parity, 2 table read, 3 descriptor store, 4 freeze, 5 test. INFO of
the record is ERR_REC1's. -/
def State.channelFail (s : State) (c : ChanId) (tier cause : Nat) : State :=
  let c := s.headCh c
  if s.chState c = 1 ∨ s.chState c = 3 ∨ (s.chState c = 2 ∧ cause = 5) then
    let s := (((s.chSet c 2).modChan c (fun k => { k with quiescing := false, testing := false }))).replayCh c
    s.devError 8 4 c.val (s.chOwner c) 0 (BitVec.ofNat 16 (tier % 64 + cause * 256))
  else s

/-- CAS_CMD (R325): 1 QUIESCE, 2 TEST, 3 RETURN; a command to the odd channel of a pair acts on the pair. -/
def State.casCmd (s : State) (c : ChanId) (op : Nat) : State :=
  let c := s.headCh c
  let st := s.chState c
  let k := s.chan c
  if op = 1 ∧ st = 1 ∧ !k.quiescing then
    let s := s.modChan c (fun k => { k with quiescing := true })
    s.reroute c (s.waiters c true) (s.waiters c false)
  else if op = 2 ∧ (st = 2 ∨ st = 3) ∧ !k.testing then s.modChan c (fun k => { k with testing := true })
  else if op = 3 ∧ st = 3 ∧ !k.testing then s.chSet c 1
  else s

end Sys2Proof.Machine
end

