-- ==== Sys2Proof/Machine/FrameOps.lean ====
section
/-! DEFINITION. Jets and MACsec (06_jets_and_macsec.md): SAs as frames see them (R112, R117, R118), leases and PNs (R119,
R121), SecTAG checks (R122, R123), IVs (R120), the crossbar and jets (R108, R109, R128), the output of a frame with its
edits (R95, R119, R124). -/

namespace Sys2Proof.Machine

/-! Suites (R60, R110). -/

/-- An XPN suite. -/
def modeXpn (m : Nat) : Bool := [3, 4, 8, 9, 10, 14, 15, 16].contains m
/-- A 256-bit suite. -/
def mode256 (m : Nat) : Bool := [2, 4, 11, 12, 13, 14, 15, 16].contains m
/-- The bytes of secure data that go in clear; for integrity only, all of them. -/
def modeClear (m n : Nat) : Nat := if m < 5 then n else min n (([50, 30, 0][(m - 5) % 3]?).getD 0)

/-! SCs and SAs as a frame's epoch sees them (R117). -/

def State.scsOf (s : State) (e : Bool) : List Sc := if e = s.epoch then s.scNow else s.scOld
def State.run (s : State) (uid : Nat) : Option SaRun := s.runs.find? (fun r => r.uid == uid)
def State.modRun (s : State) (uid : Nat) (f : SaRun → SaRun) : State :=
  { s with runs := s.runs.map (fun r => if r.uid == uid then f r else r) }
def Sc.sa (c : Sc) (an : Nat) : Option SaCfg := c.sas.find? (fun a => a.an.toNat == an)
/-- REPLAY of an SC (R114). -/
def Sc.replay (c : Sc) : Bool := bitAt c.flags 4
def Sc.inclSci (c : Sc) : Bool := bitAt c.flags 1

/-- R120. -/
def ivOf (c : Sc) (a : SaCfg) (pn : Nat) : List Byte :=
  if modeXpn c.mode then xorBytes a.salt (a.ssci ++ beBytes 8 pn) else c.sci ++ beBytes 4 pn

/-- The SecTAG of R119, its SL still 0. -/
def secTag (c : Sc) (an pn : Nat) : List Byte :=
  let b := fun (x : Bool) (n : Nat) => if x then n else 0
  [0x88, 0xE5, BitVec.ofNat 8 (b (bitAt c.flags 2) 64 + b c.inclSci 32 + b (bitAt c.flags 3) 16
    + b (decide (5 ≤ c.mode)) 12 + an), 0] ++ beBytes 4 (pn % 2 ^ 32) ++ (if c.inclSci then c.sci else [])

/-- The length of a received SecTAG. -/
def secTagLen (tci : Nat) : Nat := if bits tci 5 5 = 1 then 16 else 8

/-- R123. -/
def recoverPn (l pn32 : Nat) : Nat :=
  let b := max l (2 ^ 31) - 2 ^ 31
  b + (pn32 + 2 ^ 32 - b % 2 ^ 32) % 2 ^ 32

/-- A received frame's SecTAG: its offset, TCI, SL, PN and secure data length, without SecTAG and ICV. -/
structure RxTag where
  at_ : Nat
  tci : Nat
  sl : Nat
  pn : Nat
  len : Nat
  secure : Int
  deriving DecidableEq, Repr

def rxTag (b : List Byte) : RxTag :=
  let o := (secAt b).getD 12
  let tci := beAt b (o + 2) 1
  let n := secTagLen tci
  ⟨o, tci, beAt b (o + 3) 1, beAt b (o + 4) 4, n, (b.length : Int) - 4 - o - n - 16⟩

/-- A check of R122 fails. -/
def badTag (b : List Byte) (c : Sc) : Bool :=
  let t := rxTag b
  let bit := fun i => bits t.tci i i
  decide (bit 7 = 1) || decide (bit 6 = 1 ∧ bit 5 = 1) || decide (bit 5 = 1 ∧ bit 4 = 1)
    || decide (48 ≤ t.sl) || decide (t.sl ≠ 0 ∧ (t.sl : Int) ≠ t.secure)
    || decide (bits t.tci 3 2 ≠ (if 5 ≤ c.mode then 3 else 0))
    || (decide (bit 5 = 1) && part b (t.at_ + 8) 8 != c.sci)
    || (!(modeXpn c.mode) && decide (t.pn = 0)) || decide (t.secure < 0)

/-! Packet numbers (R119, R121). -/

/-- The last PN of an SA. -/
def lastPn (mode : Nat) : Nat := if modeXpn mode then 2 ^ 64 - 1 else 2 ^ 32 - 1

/-- The warning threshold of an SA (SA_PN_WARN). -/
def State.pnWarn (s : State) (mode : Nat) : Nat :=
  if modeXpn mode then s.fget Blk.SA Reg.SA_PN_WARN_WARN64 * 2 ^ 32 else s.fget Blk.SA Reg.SA_PN_WARN_WARN32

/-- A PN from a tier's lease, or from a new one; none when the SA is exhausted. -/
def State.takePn (s : State) (t : TierId) (c : Sc) (a : SaCfg) : Option Nat × State :=
  let mine := fun (l : Lease) => l.tier == t && l.uid == a.uid
  let put := fun (s : State) (l : Lease) => { s with leases := l :: s.leases.filter (fun x => !(mine x)) }
  match s.leases.find? (fun l => mine l && decide (l.next < l.stop)) with
  | some l => (some l.next, put s { l with next := l.next + 1 })
  | none =>
    match s.run a.uid with
    | none => (none, s)
    | some r =>
      if lastPn c.mode < r.ctr then
        let s := s.modRun a.uid (fun r => { r with exhausted := true })
        (none, if r.exhausted then s else s.saPost c.basin 2 c.sc a.an)
      else
        let n := min (s.fget Blk.SA Reg.SA_CTRL_LEASE) (lastPn c.mode + 1 - r.ctr)
        let warn := decide (s.pnWarn c.mode ≤ r.ctr + n) && !r.warned
        let s := s.modRun a.uid (fun r => { r with ctr := r.ctr + n, warned := r.warned || warn })
        let s := if warn then s.saPost c.basin 1 c.sc a.an else s
        (some r.ctr, put s ⟨t, a.uid, r.ctr + 1, r.ctr + n⟩)

/-! The A tier (R89, R118, R119, R122). -/

/-- What the A tier finds for a frame. -/
inductive SaAns where
  | noSa
  | wrong
  | sa (c : Sc) (a : SaCfg)
  deriving DecidableEq, Repr

/-- The SC and the SA that a PROTECT or VERIFY frame needs (R94, R112, R118, R125). -/
def State.saFor (s : State) (f : Frame) : SaAns :=
  match (s.scsOf f.d.epoch).find? (fun c => some c.sc == f.d.sc) with
  | none => .noSa
  | some c =>
    if c.basin ≠ f.d.basin then .noSa
    else if c.rx ≠ f.d.dec ∨ (if f.d.dec then c.mac ≠ f.d.port else some c.mac ≠ f.d.out) then .wrong
    else
      match c.sa (if f.d.dec then (rxTag f.bytes).tci % 4 else c.encAn.toNat) with
      | none => .noSa
      | some a =>
        match f.d.dec, a.notAfter with
        | true, some t => if t ≤ dtbOf96 f.d.ts then .noSa else .sa c a
        | _, _ => .sa c a

/-- A frame handed to the crossbar with its request (R119). -/
def State.offerJet (s : State) (f : Frame) (c : Sc) (a : SaCfg) (pn : Nat) (tag : List Byte) : State :=
  s.modFrame f.id (fun g => { g with loc := .cross, req := some ⟨a.uid, c.sc, a.an.toNat, pn, a.key, ivOf c a pn, c.mode, tag⟩ })

/-- The A tier's work on a frame whose SA it holds. -/
def State.saUse (s : State) (f : Frame) (t : TierId) (c : Sc) (a : SaCfg) : State :=
  if f.d.dec then
    if badTag f.bytes c then s.chDrop f Ctr.CAS_RX_BADTAG
    else
      let x := rxTag f.bytes
      let pn := if modeXpn c.mode then recoverPn (((s.run a.uid).map (·.l)).getD 0) x.pn else x.pn
      s.offerJet f c a pn (part f.bytes x.at_ x.len)
  else if ((s.run a.uid).map (·.exhausted)).getD false then s.chDrop f Ctr.CAS_DROP_PNEXH
  else
    let r := s.takePn t c a
    match r.1 with
    | some pn => r.2.offerJet f c a pn (secTag c a.an.toNat pn)
    | none => r.2.chDrop f Ctr.CAS_DROP_PNEXH

/-- A FORWARD frame, or an injected MKPDU: past the crossbar (R94, R108), behind a replay it waits at the rejoin point
(R102). -/
def State.bypass (s : State) (f : Frame) (t : TierId) : State :=
  if s.frames.any (fun g => g.ch == f.ch && g.again) then s.modFrame f.id (fun g => { g with loc := .rejoin })
  else s.goNext f t.val

/-- A frame of the channel is held at the last A tier, waiting for an SA or for the crossbar. -/
def State.heldAtA (s : State) (f : Frame) (t : TierId) : Bool :=
  s.frames.any (fun g => g.ch == f.ch && (g.loc == .cross || g.loc == .fetch t))

/-- The uids that a tier's outstanding fetches bring. -/
def State.inFlight (s : State) (t : TierId) : List Nat :=
  (s.frames.filter (fun g => g.loc == .fetch t)).filterMap (fun g => g.req.map (·.uid))

/-- R89, R118 to R122: the last A tier acts on a frame; earlier ones pass it on. -/
def State.aTier (s : State) (f : Frame) (t : TierId) : State :=
  if s.lastTier f fnA ≠ some t.val then s.goNext f t.val
  else if f.d.action ≠ 1 ∧ f.d.action ≠ 2 then (if s.heldAtA f t then s else s.bypass f t)
  else
    match s.saFor f with
    | .sa c a =>
      if s.saCache.contains (t.val, a.uid) then (if s.heldAtA f t then s else s.saUse f t c a)
      else if (s.inFlight t).contains a.uid ∨ 32 ≤ (s.inFlight t).length
        ∨ s.frames.any (fun g => g.ch == f.ch && g.loc == .cross) then s
      else
        (s.modFrame f.id (fun g => { g with loc := .fetch t, req := some ⟨a.uid, c.sc, a.an.toNat, 0, [], [], c.mode, []⟩ })).bump
          (Blk.cas f.ch.val) Ctr.CAS_A_MISS
    | .noSa => if s.heldAtA f t then s else s.dropNosa f
    | .wrong => if s.heldAtA f t then s else s.chDrop f Ctr.CAS_DROP_ACTION

/-- An SA put into a tier's cache of 8,192; the one that makes room for it loses its lease (R89, R119). -/
def State.cacheSa (s : State) (t : TierId) (uid victim : Nat) : State :=
  let mine := s.saCache.filter (fun e => e.1 == t.val)
  let s :=
    if mine.length < 8192 then s
    else
      match mine[victim % mine.length]? with
      | some e => { s with saCache := s.saCache.filter (fun x => x != e),
                           leases := s.leases.filter (fun l => !(l.tier == t && l.uid == e.2)) }
      | none => s
  { s with saCache := (t.val, uid) :: s.saCache.filter (fun x => x != (t.val, uid)) }

/-! Jets (R108, R109, R128). -/

def State.jst (s : State) (j : JetId) : Nat := s.fget (Blk.jet j.val) Reg.JET_STATUS_STATE
def State.jplace (s : State) (j : JetId) : Nat := s.fget (Blk.jet j.val) Reg.JET_STATUS_PLACE
/-- The state of a jet, with its readiness bit: 1 in states 1 to 4 (JET_STATUS). -/
def State.setJst (s : State) (j : JetId) (st : Nat) : State :=
  (s.fset (Blk.jet j.val) Reg.JET_STATUS_STATE st).setReady (Rdy.jet j.val) (decide (1 ≤ st) && decide (st ≤ 4))
/-- A jet works in a place; a test it was under is abandoned. -/
def State.jetTake (s : State) (j : JetId) (p : Nat) : State :=
  let s := (s.setJst j 1).fset (Blk.jet j.val) Reg.JET_STATUS_PLACE p
  { s with jetTest := setBit s.jetTest j.val false }
/-- The basins that a place serves (R74, R109). -/
def State.placeMask (s : State) (p : Nat) : BitVec 64 :=
  ((s.plat.jets.find? (fun r => r.idx == p)).map (·.basins)).getD (BitVec.allOnes 64)

/-- The jets eligible for a basin's frames. -/
def State.eligible (s : State) (b : BasinId) : List JetId :=
  (List.finRange 10).filter (fun j => decide (s.jst j = 1) && decide (s.jplace j < 10) && bitAt (s.placeMask (s.jplace j)) b.val)

/-- The first of a list after a jet, in ascending cyclic order. -/
def firstAfter (l : List JetId) (j : JetId) : Option JetId :=
  match l.find? (fun x => decide (j.val < x.val)) with
  | some x => some x
  | none => l.head?

/-- The lowest-indexed spare that can take a place: spare-ready, else one under test, which it abandons (R128). -/
def State.spareJet (s : State) (underTest : Bool) : Option JetId :=
  match (List.finRange 10).find? (fun j => decide (s.jst j = 2)) with
  | some j => some j
  | none => if underTest then (List.finRange 10).find? (fun j => decide (s.jst j = 3)) else none

/-- The place that a jet held goes to a spare, or stays empty. -/
def State.handPlace (s : State) (j : JetId) (underTest : Bool) : State :=
  let p := s.jplace j
  let s := s.fset (Blk.jet j.val) Reg.JET_STATUS_PLACE 0xF
  if p = 0xF then s
  else
    match s.spareJet underTest with
    | some k => s.jetTake k p
    | none => s

/-- R128: a jet is fenced at once: its frames wait for replay and a spare takes its place. -/
def State.jetFenced (s : State) (j : JetId) : State :=
  let held := s.frames.filter (fun f => f.loc == .jet j)
  let s := foldL held (fun f t => t.freeUp f.outCells) s
  let s := { s with frames := s.frames.map (fun (f : Frame) =>
    if f.loc = Loc.jet j then { f with loc := .cross, again := true, flip := false, outCells := [] } else f) }
  (s.setJst j 5).handPlace j true

/-- R128: a check fails on a jet. -/
def State.jetFault (s : State) (j : JetId) : State :=
  let s := (s.jetFenced j).fset (Blk.jet j.val) Reg.JET_EVENT_FAULT 1
  (s.bump (Blk.jet j.val) Ctr.JET_FAULTS).devError 6 6 j.val 0 0 0

/-- The bytes that a frame's jet output takes: ciphertext and ICV, or the frame without its ICV (R100, R105). -/
def Frame.jetLen (f : Frame) : Nat := if f.d.dec then f.d.len - 16 else f.d.len + 16

/-- R100, R108, R109: the crossbar gives a frame to an eligible jet; `soonest` names those that can start it soonest. -/
def State.dispatchJet (s : State) (f : Frame) (soonest : BitVec 10) (bank : Nat) : State :=
  let all := s.eligible f.d.basin
  let best := all.filter (fun j => bitAt soonest j.val)
  match firstAfter (if best.isEmpty then all else best) (s.chan f.ch).lastJet with
  | none => s.chDrop f Ctr.CAS_DROP_NOJET
  | some j =>
    match s.pickCells (cellsFor f.jetLen) bank with
    | none => s
    | some l =>
      let b := Blk.jet j.val
      let flip := s.flag b Reg.JET_INJECT_PARITY
      let s := (s.useCells l).modChan f.ch (fun c => { c with lastJet := j })
      let s := (s.fset b Reg.JET_INJECT_PARITY 0).addCtr b Ctr.JET_BUSY_CYCLES ((f.d.len + 63) / 64)
      let s := if f.again then s.bump b Ctr.JET_REPLAYED else s
      { s.modFrame f.id (fun g => { g with loc := .jet j, outCells := l, jseq := s.frameSeq, flip := flip }) with
        frameSeq := s.frameSeq + 1 }

/-- The frame that was given to a jet first. -/
def State.jetFirst (s : State) (j : JetId) : Option Frame :=
  (s.frames.filter (fun f => f.loc == .jet j)).foldl (fun (r : Option Frame) f =>
    match r with
    | none => some f
    | some g => if f.jseq < g.jseq then some f else some g) none

/-- What a jet makes of a received frame: its secure data and whether the ICV holds (R119, R120, R124). -/
def decryptFrame (b : List Byte) (q : JetReq) : List Byte × Bool :=
  let x := rxTag b
  let sec := part b (x.at_ + x.len) x.secure.toNat
  let c := modeClear q.mode sec.length
  let r := gcmOpen q.key q.iv (part b 0 12 ++ q.tag ++ sec.take c) (sec.drop c) (part b (x.at_ + x.len + x.secure.toNat) 16)
  (sec.take c ++ r.1, r.2)

/-- R127: a frame's output has passed the jet's checks. -/
def State.jetChecked (s : State) (f : Frame) (j : JetId) : State :=
  let r := match f.req with
    | some q => if f.d.dec then decryptFrame f.bytes q else ([], true)
    | none => ([], true)
  (s.modFrame f.id (fun g => { g with loc := .rejoin, again := false, plain := r.1, icvBad := !r.2 })).bump (Blk.jet j.val) Ctr.JET_FRAMES

/-- R102: the oldest of a channel's frames between the last A tier and the rejoin point goes on, if it waits there. -/
def State.rejoin (s : State) (c : ChanId) : State :=
  match s.frames.find? (fun f => f.ch == c && (match f.loc with
      | .cross => true
      | .jet _ => true
      | .rejoin => true
      | _ => false)) with
  | some f =>
    if f.loc == .rejoin then
      match s.lastTier f fnA with
      | some t => s.goNext f t
      | none => s
    else s
  | none => s

/-! The V tier (R124). -/

/-- The SC of a frame that a jet has worked on. -/
def State.scOfFrame (s : State) (f : Frame) : Option Sc :=
  (s.scsOf f.d.epoch).find? (fun c => f.req.any (fun q => q.sc == c.sc))

/-- R124 as far as it drops: the first V tier acts; H, L and the counts move when the frame leaves the last tier (R324). -/
def State.vTier (s : State) (f : Frame) (t : TierId) : State :=
  if f.vok then s.goNext f t.val
  else
    match f.req with
    | none => s.goNext f t.val
    | some q =>
      let late := (s.scOfFrame f).any (·.replay) && decide (q.pn < ((s.run q.uid).map (·.l)).getD 0)
      if f.icvBad then
        (s.modRun q.uid (fun r => { r with notValid := (r.notValid + 1) % 2 ^ 64 })).chDrop f Ctr.CAS_RX_NOTVALID
      else if late then
        (s.modRun q.uid (fun r => { r with late := (r.late + 1) % 2 ^ 64 })).chDrop f Ctr.CAS_RX_LATE
      else (s.modFrame f.id (fun g => { g with vok := true })).goNext f t.val

/-- The running state of a frame's SA as the frame leaves the last tier (R114, R124, R324); `n` its octets. -/
def State.saCount (s : State) (f : Frame) (n : Nat) : State :=
  match f.req with
  | none => s
  | some q =>
    let w := ((s.scOfFrame f).map (·.window)).getD 0
    s.modRun q.uid (fun r =>
      let r := { r with pkts := (r.pkts + 1) % 2 ^ 64, octets := (r.octets + n) % 2 ^ 64 }
      if f.d.dec ∧ r.h < (q.pn : Int) then { r with h := q.pn, l := max r.l (q.pn + 1 - w) } else r)

/-! The output of a frame (R95, R119). -/

/-- POP (R95): the outermost tag removed. -/
def popTag (b : List Byte) : List Byte := if isTag (beAt b 12 2) then b.take 12 ++ b.drop 16 else b

/-- The first two steps of R95 on a frame's bytes without FCS. -/
def editHead (row b : List Byte) : List Byte :=
  let ops := beAt row 0 1
  let b := if bits ops 0 0 = 1 then popTag b else b
  let b := if bits ops 2 2 = 1 then patch b 0 (part row 8 6) else b
  if bits ops 3 3 = 1 then patch b 6 (part row 16 6) else b

/-- The tag that PUSH adds (R95). -/
def pushedTag (row : List Byte) (prio : Nat) : List Byte :=
  let ops := beAt row 0 1
  let tci := leAt row 4 2
  if bits ops 1 1 = 1 then
    beBytes 2 (leAt row 2 2) ++ beBytes 2 (if bits ops 4 4 = 1 then tci % 8192 + prio * 8192 else tci)
  else []

/-- A protected frame: address, pushed tag, SecTAG, secure data, ICV (R95, R119, R120). -/
def protectFrame (b push : List Byte) (q : JetReq) : List Byte :=
  let sec := b.drop 12
  let tag := patch q.tag 3 [BitVec.ofNat 8 (if sec.length < 48 then sec.length else 0)]
  let c := modeClear q.mode sec.length
  let r := gcmSeal q.key q.iv (b.take 12 ++ tag ++ sec.take c) (sec.drop c)
  b.take 12 ++ push ++ tag ++ sec.take c ++ r.1 ++ r.2

/-- A frame as the egress MAC sends it, with its FCS, padded to the least length of a frame. -/
def Frame.output (f : Frame) : List Byte :=
  let body := f.bytes.take (f.bytes.length - 4)
  let push := pushedTag f.edit f.d.prio
  match f.req with
  | some q =>
    if f.d.dec then
      let h := editHead f.edit (body.take (rxTag f.bytes).at_)
      withFcs (h.take 12 ++ push ++ h.drop 12 ++ f.plain)
    else withFcs (protectFrame (editHead f.edit body) push q)
  | none =>
    let h := editHead f.edit body
    withFcs (h.take 12 ++ push ++ h.drop 12)

end Sys2Proof.Machine
end

