-- ==== Sys2Proof/Machine/WeirOps.lean ====
section
/-! DEFINITION. Weirs (07_weirs.md): ingress accounting (R139, R141), queues, the deep path and its mover (R98, R99,
R142, R143), the choice of the next frame (R136-R138), transmission (R39, R47, R48, R177); basin frame rings (R50, R97). -/

namespace Sys2Proof.Machine

/-! The deep region (R98, R99, R143). -/

/-- A queue is in deep mode (WER_QOCC.DEEP). -/
def State.isDeep (s : State) (m : PortId) (q : Fin 8) : Bool := s.flag (Blk.pw m.val) (Reg.WER_QOCC_DEEP.nth q.val)
def State.setDeep (s : State) (m : PortId) (q : Fin 8) (v : Bool) : State :=
  s.fset (Blk.pw m.val) (Reg.WER_QOCC_DEEP.nth q.val) (if v then 1 else 0)

/-- The deep region's first byte and size. -/
def State.deepRegion (s : State) : Nat × Nat :=
  (s.fget Blk.SPL Reg.SPL_DEEP_BASE_BASE * 0x200000, s.fget Blk.SPL Reg.SPL_DEEP_SIZE_SIZE * 0x200000)

/-- A frame holds deep-region space, from the request of its write until it is staged (R143). -/
def Frame.inDeep (f : Frame) : Bool := f.deep == .toWrite || f.deep == .stored || f.deep == .toRead
/-- The space of a frame in the deep region, in whole lines. How the region is divided is the model's choice,
notes/assumptions/35.md. -/
def Frame.deepLen (f : Frame) : Nat := (f.obytes.length + 63) / 64 * 64

/-- The lowest place of the region that a frame of `n` bytes fits in. -/
def State.deepPlace (s : State) (n : Nat) : Option Nat :=
  let held := (s.frames.filter (·.inDeep)).map (fun f => (f.deepAt, f.deepLen))
  let r := s.deepRegion
  let fits := fun a => decide (a + n ≤ r.1 + r.2) && held.all (fun h => decide (a + n ≤ h.1) || decide (h.1 + h.2 ≤ a))
  (r.1 :: held.map (fun h => h.1 + h.2)).foldl (fun (best : Option Nat) a =>
    if fits a then (match best with
      | some b => some (min a b)
      | none => some a)
    else best) none

/-- Deep-region use of a basin in bytes (R143). -/
def State.deepUse (s : State) (b : BasinId) : Nat :=
  (s.frames.filter (fun f => f.inDeep && f.d.basin == b)).foldl (fun n f => n + f.obytes.length) 0
/-- Deep-region use in bytes. -/
def State.deepUsed (s : State) : Nat := (s.frames.filter (·.inDeep)).foldl (fun n f => n + f.obytes.length) 0

/-- Frames that the mover is to read back: the next 64 KiB of a queue (R98). -/
def State.stageEval (s : State) (m : PortId) (q : Fin 8) : State :=
  let r := (s.queueOf m q).foldl (fun (r : Nat × List Frame) f =>
    let n := r.1 + f.obytes.length
    (n, if n ≤ 65536 ∧ f.deep = .stored then r.2 ++ [f] else r.2)) (0, [])
  foldL r.2 (fun f t =>
    let t := t.modFrame f.id (fun g => { g with deep := .toRead })
    { t with mover := { t.mover with reqs := t.mover.reqs ++ [⟨f.id, f.d.basin, true⟩] } }) s

/-- R98: a queue leaves deep mode. -/
def State.deepExit (s : State) (m : PortId) (q : Fin 8) : State :=
  if s.isDeep m q && !((s.queueOf m q).any (·.inDeep))
    && decide (s.qocc m q < s.fget Blk.SPL Reg.SPL_DEEP_TH_OFF * 1024)
    && decide (s.fget Blk.SPL Reg.SPL_DEEP_TH_GLOBAL ≤ s.freeCells) then s.setDeep m q false
  else s

/-- What follows when a queue's frames moved: staging and the return to express mode. -/
def State.queueMoved (s : State) (m : PortId) (q : Fin 8) : State := (s.stageEval m q).deepExit m q

/-- R98, R99, R143: the path of a frame just put into its queue. -/
def State.deepPath (s : State) (f : Frame) (m : PortId) (q : Fin 8) : State :=
  let express := !(s.isDeep m q) && decide (s.qocc m q ≤ s.fget Blk.SPL Reg.SPL_DEEP_TH_ON * 1024)
    && decide (s.fget Blk.SPL Reg.SPL_DEEP_TH_GLOBAL ≤ s.freeCells)
  if express ∨ (s.deepRegion).2 = 0 then s
  else
    let s := if s.isDeep m q then s else (s.setDeep m q true).bump Blk.SPL Ctr.SPL_DEEP_ENTRIES
    let quota := s.fget (Blk.bw f.d.basin.val) Reg.WER_DEEP_QUOTA_MAX * 1024
    if quota ≠ 0 ∧ quota < s.deepUse f.d.basin + f.obytes.length then s.dropFrame f (Blk.bw f.d.basin.val) Ctr.BW_DROP_DEEPQ
    else
      match s.deepPlace f.deepLen with
      | none => s.dropFrame f Blk.SPL Ctr.SPL_DROP_DEEPFULL
      | some a =>
        let s := (s.modFrame f.id (fun g => { g with deep := .toWrite, deepAt := a })).bump Blk.SPL Ctr.SPL_DEEP_FRAMES
        { s with mover := { s.mover with reqs := s.mover.reqs ++ [⟨f.id, f.d.basin, false⟩] } }

/-- R98: a frame that leaves its last tier is enqueued at its egress MAC. -/
def State.enqueue (s : State) (f : Frame) : State :=
  match f.d.out with
  | none => s.release f
  | some m =>
    let q : Fin 8 := Fin.ofNat 8 f.d.prio
    let f := { f with obytes := f.output, loc := .queue m q, deep := .express }
    let s := (s.saCount f (if f.d.dec then f.bytes.length else f.obytes.length)).bump (Blk.cas f.ch.val) Ctr.CAS_FRAMES_OUT
    ((s.modFrame f.id (fun _ => f)).toBack f.id |>.deepPath f m q).weirDrop m

/-! The deep mover (R142). -/

/-- A basin's mover bucket as it stands now; MAX_GBPS = 0 means no cap. -/
def State.moverBucket (s : State) (b : BasinId) : Int :=
  let rate := s.fget (Blk.bw b.val) Reg.WER_CIS_SHARE_MAX_GBPS
  let k := ((s.mover.buckets.find? (fun e => e.1 == b.val)).map (·.2)).getD ⟨64 * 1024 * 8000, s.tb.ticks⟩
  if rate = 0 then 0 else fillTo k.have_ (rate * 8000) (64 * 1024 * 8000) (s.tb.ticks - k.last)

/-- Rounds of R142's deficit round robin until a basin is served. -/
def State.moverRounds (s : State) : Nat → Mover → Option (MoveReq × Nat) × Mover
  | 0, v => (none, v)
  | n + 1, v =>
    let b := v.cur
    let len := fun (r : MoveReq) => ((s.frame r.frame).map (·.obytes.length)).getD 0
    let d := ((v.deficit.find? (fun e => e.1 == b.val)).map (·.2)).getD 0
    let put := fun (x : Nat) => (b.val, x) :: v.deficit.filter (fun e => e.1 != b.val)
    let next : BasinId := Fin.ofNat 64 (b.val + 1)
    match v.reqs.find? (fun r => r.basin == b) with
    | none => s.moverRounds n { v with deficit := put 0, credited := false, cur := next }
    | some r =>
      if s.moverBucket b < 0 then s.moverRounds n { v with credited := false, cur := next }
      else
        let d := if v.credited then d else d + s.fget (Blk.bw b.val) Reg.WER_CIS_SHARE_WEIGHT * 4096
        if len r ≤ d then (some (r, len r), { v with deficit := put (d - len r), credited := true })
        else s.moverRounds n { v with deficit := put d, credited := false, cur := next }

/-- The request that the mover serves next. -/
def State.moverPick (s : State) : Option (MoveReq × Nat) × Mover := s.moverRounds 320 s.mover

/-- A request served: charged to its basin (R142). -/
def State.moverServe (s : State) (r : MoveReq) (n : Nat) (v : Mover) : State :=
  let left := s.moverBucket r.basin - (n * 8000 : Nat)
  { s with mover := { v with
      reqs := v.reqs.filter (fun x => x.frame != r.frame),
      buckets := (r.basin.val, ⟨left, s.tb.ticks⟩) :: v.buckets.filter (fun e => e.1 != r.basin.val),
      moved := (r.basin.val, s.tb.ticks, n) :: v.moved.filter (fun e => decide (s.tb.ticks < e.2.1 + 10000)) } }

/-- A deep frame written into the region; its spillway space is released (R15, R98). -/
def State.deepWrite (s : State) (f : Frame) : State :=
  let s := s.moverWrite 1 f.deepAt f.obytes
  let s := (s.modFrame f.id (fun g => { g with deep := .stored, cells := [], outCells := [] })).freeUp f.cells |>.freeUp f.outCells
  match f.loc with
  | .queue m q => s.queueMoved m q
  | _ => s

/-- A deep frame staged (R98); one that reads poisoned is dropped (R328). -/
def State.deepStage (s : State) (f : Frame) (l : List Nat) : State :=
  let r := s.moverRead 1 f.deepAt f.obytes.length
  let s := (r.1.useCells l).modFrame f.id (fun g => { g with deep := .staged, cells := l, obytes := r.2.1 })
  let s := if r.2.2 then s.release { f with cells := l, outCells := [] } else s
  match f.loc with
  | .queue m q => s.queueMoved m q
  | _ => s

/-! Choosing the next frame (R136-R138). -/

/-- A shaper bucket as it stands now; RATE = 0 turns it off. -/
def bucketNow (k : Bucket) (rate burst now : Nat) : Int :=
  if rate = 0 then 0 else fillTo k.have_ rate (burst * 1024 * 8000) (now - k.last)

def State.qBucketNow (s : State) (m : PortId) (q : Fin 8) : Int :=
  let b := Blk.pw m.val
  bucketNow ((s.mac (macOf m)).qBucket.get q) (s.fget b (Reg.WER_QCFG_RATE.nth q.val)) (s.fget b (Reg.WER_QCFG_BURST.nth q.val)) s.tb.ticks
def State.pBucketNow (s : State) (m : PortId) : Int :=
  let b := Blk.pw m.val
  bucketNow (s.mac (macOf m)).pBucket (s.fget b Reg.WER_PORT_SHAPE_RATE) (s.fget b Reg.WER_PORT_SHAPE_BURST) s.tb.ticks

/-- The frame at the head of a queue that is eligible (R136); `room` says which priorities a borrowed MAC's carrier has
room for (R177). -/
def State.eligibleQ (s : State) (m : PortId) (room : BitVec 8) (q : Fin 8) : Option Frame :=
  match (s.queueOf m q).head? with
  | none => none
  | some f =>
    if (f.deep == .express || f.deep == .staged) && !(s.paused (macOf m) q.val)
      && decide (0 ≤ s.qBucketNow m q) && decide (0 ≤ s.pBucketNow m)
      && (!(s.borrows m.val) || bitAt room q.val) then some f
    else none

/-- The charge of a frame (R136). -/
def Frame.charge (f : Frame) : Nat := f.obytes.length + 20

def State.strict (s : State) (m : PortId) (q : Fin 8) : Bool := s.flag (Blk.pw m.val) (Reg.WER_QCFG_STRICT.nth q.val)

/-- The next weighted queue above `q`, cyclically. -/
def State.nextWeighted (s : State) (m : PortId) (q : Fin 8) : Fin 8 :=
  (((List.range 8).map (fun i => Fin.ofNat 8 (q.val + 1 + i))).find? (fun x => !(s.strict m x))).getD q

/-- The loop of R137 over the weighted queues. -/
def State.drr (s : State) (m : PortId) (room : BitVec 8) : Nat → Mac → Option Frame × Mac
  | 0, k => (none, k)
  | n + 1, k =>
    let q := k.cur
    let b := Blk.pw m.val
    let skip := fun (k : Mac) => s.drr m room n { k with credited := setBit k.credited q.val false, cur := s.nextWeighted m q }
    match (if s.strict m q then none else s.eligibleQ m room q) with
    | none => skip k
    | some f =>
      let k :=
        if bitAt k.credited q.val then k
        else
          { k with deficit := k.deficit.set q.val (k.deficit.get q + s.fget b (Reg.WER_QCFG_WEIGHT.nth q.val)
                                * s.fget b Reg.WER_XQUANT_UNIT) q.isLt,
                   credited := setBit k.credited q.val true }
      if f.charge ≤ k.deficit.get q then
        (some f, { k with deficit := k.deficit.set q.val (k.deficit.get q - f.charge) q.isLt })
      else skip k

/-- pick() of R137. -/
def State.pick (s : State) (m : PortId) (room : BitVec 8) : Option Frame × Mac :=
  let k := s.mac (macOf m)
  let k := { k with deficit := Vector.ofFn (fun (q : Fin 8) => if (s.queueOf m q).isEmpty then 0 else k.deficit.get q) }
  let qs := (List.finRange 8).reverse
  match (qs.filter (fun q => s.strict m q)).findSome? (fun q => s.eligibleQ m room q) with
  | some f => (some f, k)
  | none =>
    if qs.any (fun q => !(s.strict m q) && (s.eligibleQ m room q).isSome) then s.drr m room 2400 k else (none, k)

/-- The shapers charged for a picked frame (R138). -/
def State.charge (s : State) (m : PortId) (q : Fin 8) (n : Nat) : State :=
  let now := s.tb.ticks
  let qr := s.fget (Blk.pw m.val) (Reg.WER_QCFG_RATE.nth q.val)
  let pr := s.fget (Blk.pw m.val) Reg.WER_PORT_SHAPE_RATE
  let qv := s.qBucketNow m q
  let pv := s.pBucketNow m
  let c : Int := n * 8000
  s.modMac (macOf m) (fun k => { k with
    qBucket := k.qBucket.set q.val (if qr = 0 then { k.qBucket.get q with last := now } else ⟨qv - c, now⟩) q.isLt,
    pBucket := if pr = 0 then { k.pBucket with last := now } else ⟨pv - c, now⟩ })

/-- A frame sent over the ridge to the carrier of a borrowed MAC (R177): its counters count here. -/
def State.sendLent (s : State) (f : Frame) (m : PortId) (q : Fin 8) : State :=
  let l := s.lending m.val
  let s := s.sendFlits (s.lentFlits l.2.1 m.val q.val true f.d.ts f.obytes)
  ((s.mbump (macOf m) Ctr.MAC_TX_FRAMES).addCtr (Blk.mac m.val) Ctr.MAC_TX_BYTES f.obytes.length).release f

/-- R137: a port weir's decision. -/
def State.weirPick (s : State) (m : PortId) (room : BitVec 8) : State :=
  if (s.mac (macOf m)).next.isSome ∨ !(s.macUp (macOf m)) then s
  else
    let r := s.pick m room
    let s := s.modMac (macOf m) (fun _ => r.2)
    match r.1 with
    | none =>
      if (List.finRange 8).any (fun q => !(s.queueOf m q).isEmpty) then s.bump (Blk.pw m.val) Ctr.PW_SHAPED_WAIT else s
    | some f =>
      match f.loc with
      | .queue _ q =>
        let s := (s.charge m q f.charge).modFrame f.id (fun g => { g with loc := .out m })
        let s := if s.borrows m.val then s.sendLent f m q
          else (s.modMac (macOf m) (fun k => { k with next := some f.id })).txStart (macOf m)
        let s := if (s.queueOf m q).isEmpty then
            s.modMac (macOf m) (fun k => { k with deficit := k.deficit.set q.val 0 q.isLt }) else s
        (s.queueMoved m q).weirDrop m
      | _ => s

/-! Transmission (R39, R46-R48). -/

/-- What timestamps do to a frame as it leaves (R47, R48): its bytes, and the FIFO. -/
def State.txStamp (s : State) (f : Frame) (m : MacId) (ts : Nat) : List Byte × State :=
  let b := Blk.mac m.val
  if !(s.flag b Reg.MAC_PTP_EN) then (f.obytes, s)
  else
    let two := s.flag b Reg.MAC_PTP_TWOSTEP
    let plc := ptpPlace f.obytes
    let one := s.flag b Reg.MAC_PTP_ONESTEP && f.d.onestep && (plc.isSome || f.req.isSome)
    let skip := one && (f.req.isSome || (plc.map (·.v6)).getD false)
    let s := if skip then s.mbump m Ctr.MAC_ONESTEP_SKIP else s
    let s := if two && (f.d.tsreq || skip) then s.txtsPut m (if f.req.isSome then f.bytes else f.obytes) ts else s
    (if one && !skip then oneStep f.obytes (if f.d.inject then none else some f.d.ts) ts else f.obytes, s)

/-- R39, R46: the frame on a MAC's wire is complete; `age` is the time since its timestamp point. -/
def State.txEnd (s : State) (m : MacId) (age : Nat) : State :=
  match (s.mac m).tx.bind s.frame with
  | none => s
  | some f =>
    let ts := to96 (adjTs (s.tb.now - age) (s.mf m Reg.MAC_TS_ADJ_TX_ADJ))
    let r := s.txStamp f m ts
    let s := r.2.modMac m (fun k => { k with tx := none })
    let s := { s with out := Out.frame m r.1 false :: s.out }
    let s := if f.lent then s else (s.mbump m Ctr.MAC_TX_FRAMES).addCtr (Blk.mac m.val) Ctr.MAC_TX_BYTES r.1.length
    (s.release f).txStart m

/-! Basin frame rings (R50, R97). -/

/-- A tier that its guard froze takes its channel down (R296, R322). -/
def State.tierAfter (s : State) (t : TierId) : State :=
  if s.frozen (.tier t) then s.channelFail ⟨t.val / 8, by omega⟩ t.val 4 else s

/-- A tier's access: N world, the frame's basin, no M bit (R277). -/
def tierAcc (t : TierId) (b : BasinId) : Access := ⟨.tier t, .N, b, false⟩

/-- The POISON record of R97, R328. -/
def State.dmaPoison (s : State) (kind index : Nat) (a : Access) (pa : Nat) : State :=
  s.errRecord { cls := 4, kind := kind, index := index, basin := a.basin, world := a.world, addr := pa, info := 0 }

/-- The descriptor that a ring stands at, if it is available (R50, R97): its address and bytes. -/
def State.ringDesc (s : State) (a : Access) (kind index base size head tail : Nat) : State × Option (Nat × List Byte) :=
  if size = 0 ∨ head = tail then (s, none)
  else
    let pa := base * 32 + 32 * (head % size)
    let r := s.dmaRead a pa 32
    match r.2.2 with
    | .ok => (r.1, if bits (beAt r.2.1 10 1) 0 0 = 1 then some (pa, r.2.1) else none)
    | .poison => (r.1.dmaPoison kind index a pa, none)
    | _ => (r.1, none)

/-- A descriptor's buffer address (R50). -/
def descAddr (d : List Byte) : Nat := leAt d 0 8 % 2 ^ 46
/-- A descriptor's FLAGS with OWN cleared and ERR as given. -/
def descFlags (d : List Byte) (err : Bool) : Byte :=
  BitVec.ofNat 8 (beAt d 10 1 / 4 * 4 + if err then 2 else 0)

/-- R97: the last M tier writes a frame to its basin's punt ring. -/
def State.punt (s : State) (f : Frame) (t : TierId) : State :=
  let b := Blk.bw f.d.basin.val
  let a := tierAcc t f.d.basin
  let size := s.fget b Reg.WER_PUNT_RING_SIZE
  let head := s.fget b Reg.WER_RINGPTR_PUNT_HEAD
  let lost := fun (s : State) => s.dropFrame f b Ctr.BW_WER_PUNT_LOST
  let r := s.ringDesc a 5 t.val (s.fget b Reg.WER_PUNT_RING_BASE) size head (s.fget b Reg.WER_RINGPTR_PUNT_TAIL)
  let s := match r.2 with
    | none => lost r.1
    | some (pa, d) =>
      let n := f.bytes.length
      let step := fun (s : State) => s.fset b Reg.WER_RINGPTR_PUNT_HEAD ((head + 1) % size)
      if leAt d 8 2 < n then
        let w := r.1.dmaWrite a (pa + 8) [0, 0, descFlags d true]
        lost (if w.2 = DmaAns.ok then step w.1 else w.1)
      else
        let w := r.1.dmaWrite a (descAddr d) f.bytes
        if w.2 ≠ DmaAns.ok then lost w.1
        else
          let ts := if w.1.flag (Blk.mac f.d.port.val) Reg.MAC_PTP_EN then f.d.ts else 0
          let back := leBytes 2 n ++ [descFlags d false, BitVec.ofNat 8 f.d.reason, BitVec.ofNat 8 f.d.port.val,
              BitVec.ofNat 8 f.d.prio, 0, 0] ++ leBytes 12 ts
            ++ leBytes 4 (match f.d.sc with
              | some c => 2 ^ 31 + c
              | none => 0)
          let v := w.1.dmaWrite a (pa + 8) back
          if v.2 ≠ DmaAns.ok then lost v.1
          else ((step v.1).bump (Blk.cas f.ch.val) Ctr.CAS_PUNTED).release f
  s.tierAfter t

/-- R96, R97: an M tier acts on a frame; the last one punts or enqueues it. -/
def State.mTier (s : State) (f : Frame) (t : TierId) : State :=
  if f.d.reason ≠ 0 then s.punt f t
  else
    let r := s.meter f t
    let f := { f with d := { f.d with colour := r.1 } }
    let s := r.2.2.modFrame f.id (fun _ => f)
    if r.1 = 2 ∧ r.2.1 then s.chDrop f Ctr.CAS_DROP_METER
    else if s.lastTier f fnM = some t.val then s.enqueue f
    else s.goNext f t.val

/-- What R97 makes of an injected frame: its ACTION, and whether it is an MKPDU sent unprotected. -/
def State.injAction (s : State) (sc : Option Nat) (out : PortId) (b : List Byte) : Option (Nat × Bool) :=
  if sc.isSome ∧ s.isLine out.val then some (1, false)
  else if sc.isNone ∧ s.isClient out.val then some (3, false)
  else if sc.isNone ∧ s.isLine out.val ∧ etherType b = 0x888E then some (3, true)
  else none

/-- The channel that an injected frame enters (R97, R323); none where the descriptor returns with ERR. -/
def State.injRoute (s : State) (c : ChanId) (b : List Byte) : Option ChanId :=
  if (s.chState c = 1 ∨ s.chState c = 4) ∧ !(s.chan (s.headCh c)).quiescing then some (s.headCh c)
  else if s.chState c ≠ 0 then pickCh (s.failoverSet (s.headCh c)) (steerKey false b)
  else none

/-- A new frame with nothing done to it yet. -/
def Frame.fresh (id : Nat) (b : List Byte) (d : Desc) (cells : List Nat) (acct : Option (Fin 8)) : Frame :=
  { id := id, bytes := b, ch := 0, loc := .wait, d := d, acct := acct, cells := cells, outCells := [], req := none, jseq := 0,
    again := false, flip := false, icvBad := false, plain := [], vok := false, edit := [], obytes := [], deep := .express,
    deepAt := 0, lent := false, chReplay := false }

/-- A descriptor with nothing in it but the length and the port. -/
def Desc.fresh (len : Nat) (port : PortId) (dec inject : Bool) (basin : BasinId) (ts : Nat) : Desc :=
  { hdr := 0, len := len, port := port, inject := inject, dec := dec, basin := basin, ts := ts, sc := none, prio := 0, epoch := false,
    out := none, action := 0, tsreq := false, onestep := false, sectag := false, mkpdu := false, offL3 := 0xFF, offL4 := 0xFF,
    offSec := 0xFF, nodes := 0, accepted := false, meterId := 0, editIdx := 0, colour := 0, reason := 0, next := 0,
    key := List.replicate 24 0 }

/-- R97: the first P tier of INJ_CH takes a basin's next inject descriptor; `bank` is where its cells are looked for. -/
def State.inject (s : State) (b : BasinId) (bank : Nat) : State :=
  let blk := Blk.bw b.val
  let c : ChanId := Fin.ofNat 8 (s.fget blk Reg.WER_FRAME_CTRL_INJ_CH)
  let t := tierOf ((((s.chainAt s.epoch c).find? (fun x => x.2 == fnP)).map (·.1)).getD (8 * c.val))
  let a := tierAcc t b
  let size := s.fget blk Reg.WER_INJ_RING_SIZE
  let head := s.fget blk Reg.WER_RINGPTR_INJ_HEAD
  let r := s.ringDesc a 5 t.val (s.fget blk Reg.WER_INJ_RING_BASE) size head (s.fget blk Reg.WER_RINGPTR_INJ_TAIL)
  match r.2 with
  | none => r.1.tierAfter t
  | some (pa, d) =>
    let n := leAt d 8 2
    let rd := r.1.dmaRead a (descAddr d) n
    if rd.2.2 = DmaAns.refused then rd.1.tierAfter t
    else
      let s1 := if rd.2.2 = DmaAns.poison then rd.1.dmaPoison 5 t.val a (descAddr d) else rd.1
      let sc := if 2 ^ 31 ≤ leAt d 28 4 then some (leAt d 28 4 % 2 ^ 18) else none
      let out : PortId := Fin.ofNat 32 (beAt d 11 1)
      let act := if rd.2.2 = DmaAns.ok ∧ 128 ≤ beAt d 11 1 ∧ s1.chMember c b then s1.injAction sc out rd.2.1 else none
      let go : Option (ChanId × Nat × Bool) := match act, s1.injRoute c rd.2.1 with
        | some x, some c' => some (c', x.1, x.2)
        | _, _ => none
      let back := fun (s : State) (err : Bool) =>
        let w := s.dmaWrite a (pa + 10) [descFlags d err]
        (if w.2 = DmaAns.ok then w.1.fset blk Reg.WER_RINGPTR_INJ_HEAD ((head + 1) % size) else w.1, w.2 == DmaAns.ok)
      match go with
      | none =>
        let w := back s1 true
        (if w.2 then w.1.bump blk Ctr.BW_WER_INJ_ERR else w.1).tierAfter t
      | some (c', action, mkp) =>
        match s1.pickCells (cellsFor n) bank with
        | none => s1
        | some l =>
          let w := back s1 false
          if !w.2 then w.1.tierAfter t
          else
            let dd := { Desc.fresh n out false true b 0 with
              sc := sc, prio := beAt d 12 1 % 8, out := some out, action := action, mkpdu := mkp,
              tsreq := bits (beAt d 10 1) 2 2 = 1, epoch := s1.epoch }
            let s2 := w.1.useCells l
            ({ s2 with frameSeq := s2.frameSeq + 1 }).arrive (Frame.fresh s2.frameSeq rd.2.1 dd l none) c'

end Sys2Proof.Machine
end

