-- ==== Sys2Proof/Machine/JetOps.lean ====
section
/-! DEFINITION. Jets out of traffic (06_jets_and_macsec.md R129, R130): rotation, draining, self-tests, JET_CMD. -/

namespace Sys2Proof.Machine

/-- R129, steps 1 to 3: the next working jet after the last one rotated out gives its place to a spare-ready jet and
drains. -/
def State.rotateJet (s : State) : State :=
  let draining := (List.finRange 10).any (fun j => decide (s.jst j = 4))
  let working := (List.finRange 10).filter (fun j => decide (s.jst j = 1))
  if s.fget Blk.JET0 Reg.JET_ROT_INTERVAL_MS = 0 ∨ draining ∨ (s.spareJet false).isNone then s
  else
    match firstAfter working s.rotated with
    | some j =>
      let s := ((s.handPlace j false).setJst j 4).fset (Blk.jet j.val) Reg.JET_EVENT_ROTATED 1
      { s with rotated := j, jetFence := setBit s.jetFence j.val false }
    | none => s

/-- R129, step 3: a draining jet has finished its frames; its test begins, or FENCE takes effect (R130). -/
def State.jetDrained (s : State) (j : JetId) : State :=
  if s.jst j = 4 ∧ !(s.frames.any (fun f => f.loc == .jet j)) then
    if bitAt s.jetFence j.val then { s.setJst j 5 with jetFence := setBit s.jetFence j.val false }
    else { s.setJst j 3 with jetTest := setBit s.jetTest j.val true }
  else s

/-- R129, step 5: a self-test ends. A spare that took a place meanwhile has abandoned its test (R128). -/
def State.jetTested (s : State) (j : JetId) (pass : Bool) : State :=
  if bitAt s.jetTest j.val then
    let s := { s with jetTest := setBit s.jetTest j.val false }
    if s.jst j = 3 ∨ s.jst j = 5 ∨ s.jst j = 6 then
      let s := s.bump (Blk.jet j.val) Ctr.JET_TESTS
      if pass then (s.setJst j 2).fset (Blk.jet j.val) Reg.JET_EVENT_TEST_PASS 1
      else ((s.setJst j 6).fset (Blk.jet j.val) Reg.JET_EVENT_TEST_FAIL 1).devError 7 6 j.val 0 0 0
    else s
  else s

/-- R130: JET_CMD, 1 TEST, 2 FENCE. -/
def State.jetCmd (s : State) (j : JetId) (op : Nat) : State :=
  let st := s.jst j
  if op = 1 ∧ (st = 5 ∨ st = 6) then { s with jetTest := setBit s.jetTest j.val true }
  else if op = 2 ∧ st = 1 then
    { (s.handPlace j false).setJst j 4 with jetFence := setBit s.jetFence j.val true }.jetDrained j
  else if op = 2 ∧ st = 2 then s.setJst j 5
  else s

end Sys2Proof.Machine
end

