-- ==== Sys2Proof/Machine/PortRegs.lean ====
section
/-! DEFINITION. Registers of lanes, MACs, sessions, weirs, the spillway, channels and jets (02 to 07): what a read shows
and does, what a write does beyond its field table. -/

namespace Sys2Proof.Machine

/-! Lanes (R34). -/

/-- A write of a PRT block: ENABLE and EN withhold the lane or give it back (R34); RATE has a range. -/
def State.wrPrt (s : State) (k : Nat) (off : Nat) (m v : Word) : State :=
  let b := Blk.prt k
  if off = 0x000 then
    let was := s.laneIn k
    let s := s.tableWrite b off m v
    if s.laneIn k = was then s else s.laneChanged k
  else if off = 0x400 then
    if s.okField b Reg.PRT_TEST_RATE m v (fun n => decide (1250 ≤ n) && decide (n ≤ 112000)) then
      let was := s.flag b Reg.PRT_TEST_EN
      let s := s.tableWrite b off m v
      let now := s.flag b Reg.PRT_TEST_EN
      let s := if now && !was then s.rput b 0x408 0 else s
      if now = was then s else s.laneChanged k
    else s
  else s.tableWrite b off m v

/-! MACs. -/

/-- A write of MAC_CTRL: modes removed for training failure return (R35), RESTART negotiates anew (R34). -/
def State.wrMacCtrl (s : State) (m : MacId) (k v : Word) : State :=
  let b := Blk.mac m.val
  if s.okField b Reg.MAC_CTRL_MAXLEN k v (fun n => decide (64 ≤ n) && decide (n ≤ 9248)) then
    let s := (s.tableWrite b 0x000 k v).modMac m (fun x => { x with removed := 0, fails := 0 })
    let s := s.macReeval m
    if hits Reg.MAC_CTRL_RESTART k v && !(s.macHeld m) then s.macRestart m else s
  else s

/-- A change of DOWN_ACT (R66): the drop is armed by a session that is UP. -/
def State.downActChanged (s : State) (p : PortId) : State :=
  s.modSess p (fun x => { x with armed := decide (s.sst p = sUP) })

/-- A write of SPP_SESS_CTRL (R58, R63, R66). -/
def State.wrSessCtrl (s : State) (p : PortId) (k v : Word) : State :=
  let b := Blk.mac p.val
  if s.okField b Reg.SPP_SESS_CTRL_BEAT_US k v (fun n => decide (1 ≤ n) && decide (n ≤ 1000))
      && s.okField b Reg.SPP_SESS_CTRL_FLOOR k v (fun n => decide (n ≤ 16)) then
    let before := s.sst p
    let act := s.flag b Reg.SPP_SESS_CTRL_DOWN_ACT
    let s := s.tableWrite b 0x300 k v
    let s := if s.flag b Reg.SPP_SESS_CTRL_DOWN_ACT = act then s else s.downActChanged p
    let s := s.sessEval p
    if hits Reg.SPP_SESS_CTRL_RENEG k v && decide (sDISCOVER ≤ before) && decide (sDISCOVER ≤ s.sst p) then s.discover p else s
  else s

/-- A register of a MAC block that this MAC does not have: rings outside MG0 and MG1, sessions outside line MACs (R9). -/
def State.macAbsent (s : State) (m : MacId) (off : Nat) : Bool :=
  (decide (0x200 ≤ off) && decide (off ≤ 0x210) && decide (m.val < 32)) || (decide (0x300 ≤ off) && decide (off < 0x3F0) && !(s.isLine m.val && decide (m.val < 32)))

/-- A write of a MAC block. -/
def State.wrMac (s : State) (m : MacId) (off : Nat) (k v : Word) : State :=
  let b := Blk.mac m.val
  if s.macAbsent m off then s
  else if off = 0x000 then s.wrMacCtrl m k v
  else if off = 0x008 then
    (if s.okField b Reg.MAC_FLOOR_FLOOR k v (fun n => decide (n ≤ 12)) then (s.tableWrite b off k v).macReeval m else s)
  else if off = 0x020 then (s.tableWrite b off k v).xoffEval m
  else if off = 0x300 then
    (if h : m.val < 32 then s.wrSessCtrl ⟨m.val, h⟩ k v else s)
  else s.tableWrite b off k v

/-- A read of a MAC block. -/
def State.rdMac (s : State) (m : MacId) (off : Nat) : Word :=
  let b := Blk.mac m.val
  if s.macAbsent m off then 0
  else if off = 0x000 then s.tableRead b off &&& ~~~(BitVec.ofNat 64 ((8191 - s.abilityMask m) * 256))
  else if off = 0x038 then
    match (s.mac m).txts with
    | e :: _ => packFields [(Reg.MAC_TXTS0_NS, bits e.ts 47 16), (Reg.MAC_TXTS0_FRAC, bits e.ts 15 0), (Reg.MAC_TXTS0_SEQID, e.seqId)]
    | [] => 0
  else if off = 0x040 then
    match (s.mac m).txts with
    | e :: _ => packFields [(Reg.MAC_TXTS1_VALID, 1), (Reg.MAC_TXTS1_MSGTYPE, e.msgType), (Reg.MAC_TXTS1_DOMAIN, e.domain),
        (Reg.MAC_TXTS1_SECONDS, bits e.ts 95 48)]
    | [] => 0
  else s.tableRead b off

/-- The effect of an aligned 8-byte read of MAC_TXTS1: the oldest entry goes (R47). -/
def State.txtsTake (s : State) (m : MacId) : State := s.modMac m (fun k => { k with txts := k.txts.tail })

/-- A write of the SPP block. -/
def State.wrSpp (s : State) (off : Nat) (m v : Word) : State :=
  let b := Blk.SPP
  let ok :=
    if off = 0x008 then
      s.okField b Reg.SPP_ETYPE_ETYPE m v (fun n => decide (0x600 ≤ n) && !([0x8808, 0x888E, 0x88E5, 0x8100].contains n))
    else if off = 0x010 then
      s.okField b Reg.SPP_CTRL_STEP_MS m v (fun n => decide (n ≠ 0)) && s.okField b Reg.SPP_CTRL_HELLO_US m v (fun n => decide (100 ≤ n))
    else if off = 0x018 then s.okField b Reg.SPP_DA_DA m v (fun n => decide (bits n 40 40 = 1))
    else if off = 0x020 then s.okField b Reg.SPP_SRCMAC_SA m v (fun n => decide (bits n 40 40 = 0))
    else true
  if ok then s.tableWrite b off m v else s

/-! Weirs (R138). -/

/-- A queue shaper's content kept over a write of RATE or BURST, clamped to the new BURST. -/
def State.keepQ (s before : State) (p : PortId) (q : Fin 8) : State :=
  let c := before.qBucketNow p q
  let have_ := if before.fget (Blk.pw p.val) (Reg.WER_QCFG_RATE.nth q.val) = 0 then ((before.mac (macOf p)).qBucket.get q).have_ else c
  let cap : Int := (s.fget (Blk.pw p.val) (Reg.WER_QCFG_BURST.nth q.val) * 1024 * 8000 : Nat)
  s.modMac (macOf p) (fun k => { k with qBucket := k.qBucket.set q.val ⟨min have_ cap, s.tb.ticks⟩ q.isLt })

/-- The port shaper's content kept in the same way. -/
def State.keepP (s before : State) (p : PortId) : State :=
  let c := before.pBucketNow p
  let have_ := if before.fget (Blk.pw p.val) Reg.WER_PORT_SHAPE_RATE = 0 then (before.mac (macOf p)).pBucket.have_ else c
  let cap : Int := (s.fget (Blk.pw p.val) Reg.WER_PORT_SHAPE_BURST * 1024 * 8000 : Nat)
  s.modMac (macOf p) (fun k => { k with pBucket := ⟨min have_ cap, s.tb.ticks⟩ })

/-- A write of a PW block. -/
def State.wrPw (s : State) (p : PortId) (off : Nat) (m v : Word) : State :=
  let b := Blk.pw p.val
  let ok := fun (f : Fld) (g : Nat → Bool) => s.okField b f m v g
  if off < 0x040 then
    let q : Fin 8 := Fin.ofNat 8 (off / 8)
    if ok (Reg.WER_QCFG_RATE.nth q.val) (fun n => decide (n ≤ 800000)) && ok (Reg.WER_QCFG_BURST.nth q.val) (fun n => decide (n ≠ 0))
        && ok (Reg.WER_QCFG_WEIGHT.nth q.val) (fun n => decide (n ≠ 0)) then (s.tableWrite b off m v).keepQ s p q else s
  else if off = 0x040 then
    (if ok Reg.WER_PORT_SHAPE_RATE (fun n => decide (n ≤ 800000)) && ok Reg.WER_PORT_SHAPE_BURST (fun n => decide (n ≠ 0)) then
      (s.tableWrite b off m v).keepP s p else s)
  else if 0x080 ≤ off ∧ off < 0x0C0 then
    let i := (off - 0x080) / 8
    if ok (Reg.WER_PFC_TH_XOFF.nth i) (fun n => decide (n ≠ 0))
        && decide (s.after b (Reg.WER_PFC_TH_XON.nth i) m v ≤ s.after b (Reg.WER_PFC_TH_XOFF.nth i) m v) then s.tableWrite b off m v
    else s
  else if off = 0x0C8 ∧ p = 0 then
    (if s.after b Reg.WER_GLOBAL_XOFF_CELLS m v < s.after b Reg.WER_GLOBAL_XON_CELLS m v then s.tableWrite b off m v else s)
  else if off = 0x0D0 ∧ p = 0 then
    (if ok Reg.WER_DEEP_RATE (fun n => decide (100 ≤ n) && decide (n ≤ 1200)) then s.tableWrite b off m v else s)
  else if off = 0x408 then
    (if ok Reg.WER_XQUANT_UNIT (fun n => decide (64 ≤ n) && decide (n ≤ 16384)) then s.tableWrite b off m v else s)
  else s.tableWrite b off m v

/-- A read of a PW block: WER_QOCC shows the queue's occupancy. -/
def State.rdPw (s : State) (p : PortId) (off : Nat) : Word :=
  if 0x140 ≤ off ∧ off < 0x180 then
    s.tableRead (Blk.pw p.val) off ||| BitVec.ofNat 64 (s.qocc p (Fin.ofNat 8 ((off - 0x140) / 8)))
  else s.tableRead (Blk.pw p.val) off

/-- A write of a BW block: a basin's mover bucket keeps its content over a change of its rate (R142). -/
def State.wrBw (s : State) (x : BasinId) (off : Nat) (m v : Word) : State :=
  let b := Blk.bw x.val
  if off = 0x000 then
    if s.okField b Reg.WER_CIS_SHARE_WEIGHT m v (fun n => decide (n ≠ 0)) then
      let c := s.moverBucket x
      let s' := s.tableWrite b off m v
      if s.fget b Reg.WER_CIS_SHARE_MAX_GBPS = 0 then s'
      else { s' with mover := { s'.mover with buckets := (x.val, ⟨c, s.tb.ticks⟩) :: s'.mover.buckets.filter (fun e => e.1 != x.val) } }
    else s
  else s.tableWrite b off m v

/-- A read of a BW block. -/
def State.rdBw (s : State) (x : BasinId) (off : Nat) : Word :=
  if off = 0x010 then
    let n := (s.mover.moved.filter (fun e => e.1 == x.val && decide (s.tb.ticks < e.2.1 + 10000))).foldl (fun n e => n + e.2.2) 0
    packFields [(Reg.WER_DEEP_USE_RATE_GBPS, n / 10000), (Reg.WER_DEEP_USE_USED, (s.deepUse x + 1023) / 1024)]
  else if off = 0x3B0 then
    let q := s.saEvq x.val
    match q.q with
    | e :: _ => packFields [(Reg.WER_SA_EVT_VALID, 1), (Reg.WER_SA_EVT_LOST, if q.lost then 1 else 0),
        (Reg.WER_SA_EVT_AN, e.an.toNat), (Reg.WER_SA_EVT_KIND, e.kind), (Reg.WER_SA_EVT_SC, e.sc), (Reg.WER_SA_EVT_NS, e.ns)]
    | [] => 0
  else s.tableRead (Blk.bw x.val) off

/-- The effect of an aligned 8-byte read of WER_SA_EVT: the entry goes, and with it the mark of events lost (R132). -/
def State.saEvtTake (s : State) (x : BasinId) : State :=
  let q := s.saEvq x.val
  if q.q.isEmpty then s else { s with saEvts := sparsePut ⟨[], false⟩ x.val ⟨q.q.tail, false⟩ s.saEvts }

/-! Regions of the cistern that must not overlap (R99, R111, R147). -/

/-- Two regions, given as base and size, share a byte; an empty one shares none. -/
def overlap (a b : Nat × Nat) : Bool := decide (0 < a.2 ∧ 0 < b.2 ∧ a.1 < b.1 + b.2 ∧ b.1 < a.1 + a.2)
/-- The end of the cistern in use (R273). -/
def State.cisEnd (s : State) : Nat := if s.reserve then 0x7E0000000 else cisTop
/-- The SA region while it is valid (R111). -/
def State.saRegion (s : State) : Nat × Nat :=
  if s.flag Blk.SA Reg.SA_REGION_VALID then (s.fget Blk.SA Reg.SA_REGION_BASE * 2 ^ 28, 2 ^ 28) else (0, 0)
/-- The Sluice area (R147). -/
def State.sluArea (s : State) : Nat × Nat :=
  (s.fget Blk.SLU Reg.SLU_AREA_BASE_BASE * 0x200000, s.fget Blk.SLU Reg.SLU_AREA_SIZE_SIZE * 0x200000)

/-- A write of SPL_DEEP_BASE or SPL_DEEP_SIZE. -/
def State.wrDeepRegion (s : State) (off : Nat) (m v : Word) : State :=
  let s' := s.tableWrite Blk.SPL off m v
  let r := s'.deepRegion
  let busy := decide (s.deepUsed ≠ 0) || (List.finRange 32).any (fun p => (List.finRange 8).any (fun q => s.isDeep p q))
  if busy || decide (r.2 ≠ 0 ∧ s.cisEnd < r.1 + r.2) || overlap r s.saRegion || overlap r s.sluArea || decide (0x400000000 < r.2) then s else s'

/-- A write of the SPL block. -/
def State.wrSpl (s : State) (off : Nat) (m v : Word) : State :=
  if off = 0x000 ∨ off = 0x008 then s.wrDeepRegion off m v
  else if off = 0x010 then
    (if s.after Blk.SPL Reg.SPL_DEEP_TH_OFF m v ≤ s.after Blk.SPL Reg.SPL_DEEP_TH_ON m v then s.tableWrite Blk.SPL off m v else s)
  else if off = 0x018 then
    (if s.after Blk.SPL Reg.SPL_RESERVE_CTRL m v < s.after Blk.SPL Reg.SPL_RESERVE_DATA m v then s.tableWrite Blk.SPL off m v else s)
  else s.tableWrite Blk.SPL off m v

/-- A read of the SPL block. -/
def State.rdSpl (s : State) (off : Nat) : Word :=
  if off = 0x020 then packFields [(Reg.SPL_STATUS_FREE, s.freeCells), (Reg.SPL_STATUS_DEEP_USED, (s.deepUsed + 1023) / 1024)]
  else s.tableRead Blk.SPL off

/-! Channels and jets. -/

/-- A write of a CAS block (R87, R325). -/
def State.wrCas (s : State) (a : Access) (c : ChanId) (off : Nat) (m v : Word) : State :=
  let b := Blk.cas c.val
  if off = 0x008 then
    (if s.okField b Reg.CAS_CTRL_INTAKE_MAX m v (fun n => decide (n ≠ 0)) then s.tableWrite b off m v else s)
  else if off = 0x010 then (if isS a.world then s.casCmd c (woVal Reg.CAS_CMD_OP m v) else s)
  else s.tableWrite b off m v

/-- A write of a JET block (R130). -/
def State.wrJet (s : State) (a : Access) (j : JetId) (off : Nat) (m v : Word) : State :=
  let b := Blk.jet j.val
  if off = 0x008 then (if isS a.world then s.jetCmd j (woVal Reg.JET_CMD_OP m v) else s)
  else if off = 0x018 ∧ j ≠ 0 then s
  else s.tableWrite b off m v

end Sys2Proof.Machine
end

