-- ==== Sys2Proof/Machine/SaOps.lean ====
section
/-! DEFINITION. The SA block (06_jets_and_macsec.md R111-R117, R125, R132): ranges and quotas, the checks of a command,
what a released command changes, what a query reports; stage handles and storage (08_sluice_commit.md R145-R147). -/

namespace Sys2Proof.Machine

/-! Stages as staging requests see them (R145-R147). -/

/-- The stage that a handle names. -/
def State.stageOfHandle (s : State) (h : Nat) : Option StageId :=
  let k : StageId := Fin.ofNat 64 h
  if h ≠ 0 ∧ s.stg k Reg.SLU_STAGE_HANDLE = h then some k else none

/-- An access is by a stage's owner (R146). -/
def State.ownsStage (s : State) (k : StageId) (a : Access) : Bool :=
  decide (s.stg k Reg.SLU_STAGE_OWNER = a.basin.val) && decide (s.stg k Reg.SLU_STAGE_WORLD = worldBit a.world)
/-- A stage is open to an issuer (R146). -/
def State.openTo (s : State) (k : StageId) (a : Access) : Bool :=
  decide (s.sst4 k = stOPEN) && (s.ownsStage k a || isS a.world)
/-- The stage that a staging request by an access names. -/
def State.stageFor (s : State) (h : Nat) (a : Access) : Option StageId := (s.stageOfHandle h).filter (fun k => s.openTo k a)

/-- Room for `n` bytes more of stage storage: on die while enough is free there, otherwise in the area (R147). -/
def State.storeRoom (s : State) (n : Nat) : Option (Nat × Nat) :=
  let die := s.stages.toList.foldl (fun t g => t + g.die) 0
  let ext := s.stages.toList.foldl (fun t g => t + g.ext) 0
  if die + n ≤ 8 * 2 ^ 20 then some (n, 0) else if ext + n ≤ (s.sluArea).2 then some (0, n) else none

/-- Bytes of storage taken by a stage. -/
def Stage.addStore (g : Stage) (r : Nat × Nat) : Stage := { g with die := g.die + r.1, ext := g.ext + r.2 }

/-! Ranges (R112). -/

/-- A basin is present (R74). -/
def State.present? (s : State) (b : BasinId) : Bool := b == 0 || s.plat.basins.any (fun r => r.basin == b && r.present)
/-- The SC quota, or the SA quota, of a basin; 0 of one that is not present. -/
def State.quota (s : State) (b : BasinId) (sa : Bool) : Nat :=
  match s.plat.basins.find? (fun r => r.basin == b && r.present) with
  | some r => if sa then r.saQuota else r.scQuota
  | none => 0
/-- The first SC index of a basin's range. -/
def State.scBase (s : State) (b : BasinId) : Nat :=
  ((List.finRange 64).filter (fun x => decide (x < b))).foldl (fun n x => n + s.quota x false) 0
/-- The basin whose range holds an SC index. -/
def State.scBasin (s : State) (n : Nat) : Option BasinId :=
  (List.finRange 64).find? (fun b => s.present? b && decide (s.scBase b ≤ n) && decide (n < s.scBase b + s.quota b false))

/-! The command block (R114). -/

def saOp (b : List Byte) : Nat := beAt b 0 1
def saAn (b : List Byte) : BitVec 2 := BitVec.ofNat 2 (beAt b 1 1)
def saSc (b : List Byte) : Nat := leAt b 4 4 % 2 ^ 18
/-- The MAC of a slot operation. -/
def saSlotMac (b : List Byte) : PortId := Fin.ofNat 32 (leAt b 4 4)
def saMac (b : List Byte) : PortId := Fin.ofNat 32 (beAt b 56 1)
def saRx (b : List Byte) : Bool := decide (beAt b 3 1 % 2 = 1)
def saKey (b : List Byte) : List Byte := part b 64 32
def slotOp (op : Nat) : Bool := op == 7 || op == 8
def allZero (l : List Byte) : Bool := l.all (fun x => x == 0)

/-- Reserved fields, and the keys of operations that use none, are 0 (R114, R116 BAD_FIELD). -/
def saFormOk (b : List Byte) : Bool :=
  let op := saOp b
  decide (beAt b 1 1 < 4) && decide (beAt b 3 1 < 32) && decide (leAt b 4 4 < 2 ^ 18) && decide (beAt b 56 1 < 32)
    && allZero (part b 57 7) && (op == 2 || op == 7 || allZero (saKey b)) && (op == 7 || allZero (part b 96 32))

/-- The issuer may name the SC, or the MAC, of a command (R113). -/
def State.saReach (s : State) (a : Access) (b : List Byte) : Bool :=
  let full := isS a.world || decide (a.basin = 0)
  let own := fun (m : PortId) => full || decide (s.ownerOf m.val = a.basin)
  if slotOp (saOp b) then own (saSlotMac b)
  else
    match s.scBasin (saSc b) with
    | none => false
    | some x => (full || decide (x = a.basin)) && (saOp b != 1 || own (saMac b))

/-- Another stage that has not switched holds a command that names the same SC or MAC (R116 SC_PENDING). -/
def State.scPending (s : State) (k : Option StageId) (b : List Byte) : Bool :=
  (List.finRange 64).any (fun x =>
    some x != k && decide (stOPEN ≤ s.sst4 x) && decide (s.sst4 x ≤ stPENDING)
      && (s.stage x).sa.any (fun c => slotOp c.op == slotOp (saOp b) &&
        (if slotOp c.op then saSlotMac c.block == saSlotMac b else saSc c.block == saSc b)))

/-! What a command changes (R115). -/

/-- An SA's key and XPN values as its command gives them. -/
def saOfBlock (mode uid : Nat) (b : List Byte) : SaCfg :=
  { an := saAn b, uid := uid, key := (saKey b).take (if mode256 mode then 32 else 16), ssci := beBytes 4 (leAt b 16 4),
    salt := part b 32 12, pn0 := leAt b 24 8, notAfter := none }

/-- The SCs after one command of operations 1 to 6; `uid` names the SA that it installs. -/
def applySc (scs : List Sc) (uid : Nat) (c : StagedSa) : List Sc :=
  let b := c.block
  let on := fun (f : Sc → Sc) => scs.map (fun x => if x.sc == saSc b then f x else x)
  match c.op with
  | 1 => { sc := saSc b, basin := c.basin, rx := saRx b, mac := saMac b, mode := beAt b 2 1, flags := BitVec.ofNat 8 (beAt b 3 1),
           sci := part b 8 8, window := leAt b 20 4, encAn := saAn b, sas := [] } :: scs
  | 2 => on (fun x => { x with sas := saOfBlock x.mode uid b :: x.sas })
  | 3 => on (fun x => { x with encAn := saAn b })
  | 4 => on (fun x => { x with sas := x.sas.map (fun a =>
      if a.an == saAn b then { a with notAfter := some (dtbOf96 (leAt b 44 12)) } else a) })
  | 5 => on (fun x => { x with sas := x.sas.filter (fun a => a.an != saAn b) })
  | 6 => scs.filter (fun x => x.sc != saSc b)
  | _ => scs

/-- The SCs after a list of commands; the SAs installed take the uids from `uid` on. -/
def applyScs (scs : List Sc) (uid : Nat) : List StagedSa → List Sc
  | [] => scs
  | c :: t => applyScs (applySc scs uid c) (uid + 1) t

/-- SA slots of a basin that are installed or held by staged commands (R115). -/
def State.saUsed (s : State) (b : BasinId) : Nat :=
  (s.scNow.filter (fun c => c.basin == b)).foldl (fun n c => n + c.sas.length) 0
    + (List.finRange 64).foldl (fun n k => n + ((s.stage k).sa.filter (fun c => c.op == 2 && c.basin == b)).length) 0

/-- The codes of R116. -/
def saFull : Nat := 0x21
def saUnavail : Nat := 0x20

/-- The checks of R115 for an operation, in its listed order; 0 when they pass. -/
def State.saOpCheck (s : State) (k : Option StageId) (b : List Byte) : Nat :=
  let staged := (k.map (fun x => (s.stage x).sa)).getD []
  let sc := (applyScs s.scNow 0 staged).find? (fun c => c.sc == saSc b)
  let m := saSlotMac b
  let hasSa := fun (c : Sc) => c.sas.any (fun a => a.an == saAn b)
  match saOp b, sc with
  | 1, some _ => 0x06
  | 1, none =>
    let mode := beAt b 2 1
    if !(s.isLine (saMac b).val) then 0x04
    else if mode = 0 ∨ 16 < mode then 0x05
    else if saRx b ∧ modeXpn mode ∧ 2 ^ 30 < leAt b 20 4 then 0x0D
    else 0
  | 2, some c =>
    let pn := leAt b 24 8
    if hasSa c then 0x09
    else if s.quota c.basin true ≤ s.saUsed c.basin then 0x0B
    else if pn = 0 ∨ (!(modeXpn c.mode) ∧ 2 ^ 32 ≤ pn) then 0x0C
    else if (!(mode256 c.mode) ∧ !(allZero (part b 80 16)))
      ∨ (!(modeXpn c.mode) ∧ !(allZero (part b 16 4) && allZero (part b 32 12))) then 0x05
    else 0
  | 3, some c => if c.rx then 0x08 else if hasSa c then 0 else 0x0A
  | 4, some c => if !c.rx then 0x08 else if hasSa c then 0 else 0x0A
  | 5, some c => if hasSa c then 0 else 0x0A
  | 6, some _ => 0
  | 9, some _ => 0
  | 7, _ =>
    if !(s.isLine m.val) then 0x04
    else if ((List.range 2).any (fun i => (s.keySlot m i).valid && (s.keySlot m i).tx == saKey b))
      || staged.any (fun c => c.op == 7 && saSlotMac c.block == m && saKey c.block == saKey b) then 0x12
    else 0
  | 8, _ => if s.isLine m.val then 0 else 0x04
  | _, _ => 0x07

/-- A checked command put into its stage (R115-R117). -/
def State.saStage (s : State) (k : StageId) (b : List Byte) : Nat × State :=
  match (if 8192 ≤ (s.stage k).sa.length then none else s.storeRoom 128) with
  | none => (saFull, s)
  | some r =>
    (0, s.modStage k (fun g => ({ g with sa := g.sa ++ [({ op := saOp b, block := b.take 128, basin := (s.scBasin (saSc b)).getD 0 } : StagedSa)] }).addStore r))

/-- R116: the checks of a command whose block was read, in order: its CODE, and the state with the command staged.
A query names no stage (R115). -/
def State.saCheck (s : State) (q : QCmd) (b : List Byte) : Nat × State :=
  let op := saOp b
  let named := s.stageOfHandle q.handle
  if op = 0 ∨ 9 < op then (0x02, s)
  else if !(saFormOk b) then (0x11, s)
  else if !(s.flag Blk.SA Reg.SA_REGION_VALID) then (0x10, s)
  else if !(s.saReach q.acc b) then (0x03, s)
  else if op ≠ 9 ∧ s.scPending named b then (0x0E, s)
  else
    let code := s.saOpCheck (named.filter (fun k => decide (op ≠ 9) && decide (s.sst4 k = stOPEN))) b
    if code ≠ 0 then (code, s)
    else if op = 9 then (0, s)
    else
      match s.stageFor q.handle q.acc with
      | none => (saUnavail, s)
      | some k => s.saStage k b

/-- Bytes 136 to 191 of the answer: what a query reports from committed state (R114), otherwise 0. -/
def State.saReport (s : State) (code : Nat) (b : List Byte) : List Byte :=
  let none_ := List.replicate 56 (0 : Byte)
  if saOp b ≠ 9 ∨ code ≠ 0 then none_
  else
    match s.scNow.find? (fun c => c.sc == saSc b) with
    | none => none_
    | some c =>
      let enc := if !c.rx ∧ c.encAn = saAn b then 8 else 0
      match c.sa (saAn b).toNat with
      | none => List.replicate 48 0 ++ [BitVec.ofNat 8 enc, 0, 0, 0, 0, 0, 0, 0]
      | some a =>
        match s.run a.uid with
        | none => none_
        | some r =>
          let retired := match a.notAfter with
            | some t => if t ≤ s.tb.now then 4 + 16 else 16
            | none => 0
          let st := 1 + (if r.exhausted then 2 else 0) + retired + enc
          let w := fun (n : Nat) => leBytes 8 n
          w (if c.rx then r.h.toNat else r.ctr) ++ w (if c.rx then r.l else 0) ++ w r.pkts ++ w r.octets
            ++ w (if c.rx then r.late else 0) ++ w (if c.rx then r.notValid else 0) ++ [BitVec.ofNat 8 st, 0, 0, 0, 0, 0, 0, 0]

/-- R113: the answer written back: bytes 136 to 191, then bytes 128 to 135 with CODE. -/
def State.saAnswer (s : State) (q : QCmd) (code : Nat) (rep : List Byte) : State :=
  let w := s.dmaWrite q.acc (q.addr + 136) rep
  (w.1.dmaWrite q.acc (q.addr + 128) (BitVec.ofNat 8 code :: List.replicate 7 0)).1

/-- R113: the SA block takes its oldest command, if its block can be read and holds operation `op`. -/
def State.saTake (s : State) (op : Nat) : State :=
  match s.saQ with
  | [] => s
  | q :: rest =>
    let r := ({ s with saQ := rest }).dmaRead q.acc q.addr 192
    if r.2.2 = DmaAns.ok ∧ saOp r.2.1 = op then
      let rep : List Byte := if op = 9 then r.1.saReport (r.1.saCheck q r.2.1).1 r.2.1 else List.replicate 56 0
      let c := r.1.saCheck q r.2.1
      c.2.saAnswer q c.1 rep
    else s

/-- R113, R116: the SA block takes its oldest command, whose block cannot be read or whose OP is not 1 to 9. A refused read
ends it with nothing written back; one that is not served reads 0 (R18). -/
def State.saTakeBad (s : State) : State :=
  match s.saQ with
  | [] => s
  | q :: rest =>
    let r := ({ s with saQ := rest }).dmaRead q.acc q.addr 192
    match r.2.2 with
    | .refused => r.1
    | .poison => r.1.saAnswer q 0x01 (List.replicate 56 0)
    | .unserved => r.1.saAnswer q 0x02 (List.replicate 56 0)
    | .ok => if saOp r.2.1 = 0 ∨ 9 < saOp r.2.1 then r.1.saAnswer q 0x02 (List.replicate 56 0) else s

/-- R113: SA_CMD written: the command waits, or with 64 waiting ends with CODE 0x0F in byte 128 alone. -/
def State.saPush (s : State) (a : Access) (v : Word) : State :=
  let q : QCmd := ⟨bits v.toNat 45 6 * 64, bits v.toNat 63 48, a⟩
  if 64 ≤ s.saQ.length then (s.dmaWrite a (q.addr + 128) [0x0F]).1 else { s with saQ := s.saQ ++ [q] }

/-! Releasing SA commands (R117). -/

/-- An SA as its installation leaves it (R119, R124). -/
def SaCfg.start (a : SaCfg) : SaRun :=
  { uid := a.uid, ctr := a.pn0, h := (a.pn0 : Int) - 1, l := a.pn0, pkts := 0, octets := 0, late := 0, notValid := 0,
    warned := false, exhausted := false, retired := false }

/-- The uid that an SC transmits with. -/
def Sc.txUid (c : Sc) : Option Nat := if c.rx then none else (c.sa c.encAn.toNat).map (·.uid)

/-- R117: the commands of the released stages take effect on the SCs and SAs of the new epoch; leases of SAs that no
longer transmit are abandoned (R119); SA_SEEN follows (R115). -/
def State.applySas (s : State) (cs : List StagedSa) : State :=
  if cs.isEmpty ∨ !(s.flag Blk.SA Reg.SA_REGION_VALID) then s
  else
    let scs := applyScs s.scNow s.saUid (cs.filter (fun c => decide (c.op ≤ 6)))
    let fresh := (scs.flatMap (·.sas)).filter (fun a => !(s.runs.any (fun r => r.uid == a.uid)))
    let tx := scs.filterMap Sc.txUid
    let s := { s with scNow := scs, saUid := s.saUid + cs.length, runs := s.runs ++ fresh.map SaCfg.start,
                      leases := s.leases.filter (fun l => tx.contains l.uid) }
    foldL (scs.filter (fun c => !c.rx && c.sas.any (fun a => fresh.any (fun x => x.uid == a.uid)))) (fun c t =>
      (t.setSf c.mac Reg.SPP_SESS_STATUS_SA_SEEN 1).sessEval c.mac) s

/-- One slot command at R (R56). -/
def State.applySlot (s : State) (c : StagedSa) : State :=
  let m := saSlotMac c.block
  let i := (saAn c.block).toNat % 2
  if c.op = 7 then
    (s.modKey m i (fun _ => ⟨true, saKey c.block, part c.block 96 32, 0, 0⟩)).setSf m Reg.SPP_SESS_STATUS_TXKN i
  else s.modKey m i (fun _ => ⟨false, [], [], 0, 0⟩)

/-- The slot commands of the released stages, in order; each session then sees what it holds. -/
def State.applySlots (s : State) (cs : List StagedSa) : State :=
  if !(s.flag Blk.SA Reg.SA_REGION_VALID) then s
  else
    let cs := cs.filter (fun c => slotOp c.op)
    let s := foldL cs (fun c t => t.applySlot c) s
    foldL ((cs.map (fun c => saSlotMac c.block)).eraseDups) (fun m t => t.keysChanged m) s

/-- Running state of SAs that no epoch holds any more is erased (R126). -/
def State.dropRuns (s : State) : State :=
  let held := fun (u : Nat) => (s.scNow ++ s.scOld).any (fun c => c.sas.any (fun a => a.uid == u))
  { s with runs := s.runs.filter (fun r => held r.uid), saCache := s.saCache.filter (fun e => held e.2),
           leases := s.leases.filter (fun l => held l.uid) }

/-- SA_REGION.VALID = 0 written while it was 1: the region's use ends at once. -/
def State.saRegionEnd (s : State) : State :=
  let s := { s with scNow := [], scOld := [], runs := [], leases := [], saCache := [] }
  let s := foldL (List.finRange 64) (fun k t =>
    if t.sst4 k = stOPEN ∧ !(t.stage k).sa.isEmpty then t.discardStage k 1 else t) s
  foldL (List.finRange 32) (fun p t =>
    if t.keyed p then
      ((t.modKey p 0 (fun _ => ⟨false, [], [], 0, 0⟩)).modKey p 1 (fun _ => ⟨false, [], [], 0, 0⟩)).keysChanged p
    else t) s

/-- SA_REGION written. -/
def State.wrSaRegion (s : State) (a : Access) (m v : Word) : State :=
  let was := s.flag Blk.SA Reg.SA_REGION_VALID
  let s' := s.tableWrite Blk.SA 0x008 m v
  let r := s'.saRegion
  let moved := decide (s'.fget Blk.SA Reg.SA_REGION_BASE ≠ s.fget Blk.SA Reg.SA_REGION_BASE)
  if !(isS a.world) || (was && moved) || decide (r.2 ≠ 0 ∧ s.cisEnd < r.1 + r.2) || overlap r s.deepRegion || overlap r s.sluArea then s
  else if was && !(s'.flag Blk.SA Reg.SA_REGION_VALID) then s'.saRegionEnd
  else s'

/-- A write of the SA block. -/
def State.wrSa (s : State) (a : Access) (off : Nat) (m v : Word) : State :=
  if off = 0x000 then s.saPush a (v &&& m)
  else if off = 0x008 then s.wrSaRegion a m v
  else if off = 0x010 then
    (if s.okField Blk.SA Reg.SA_CTRL_LEASE m v (fun n => decide (1 ≤ n) && decide (n ≤ 4096)) then s.tableWrite Blk.SA off m v else s)
  else s.tableWrite Blk.SA off m v

/-- A read of the SA block. -/
def State.rdSa (s : State) (off : Nat) : Word :=
  if off = 0x020 then
    packFields [(Reg.SA_USAGE_SC_USED, s.scNow.length), (Reg.SA_USAGE_SA_USED, (List.finRange 64).foldl (fun n b => n + s.saUsed b) 0)]
  else if off = 0x028 then packFields [(Reg.SA_STATUS_QUEUED, s.saQ.length)]
  else s.tableRead Blk.SA off

end Sys2Proof.Machine
end

