-- ==== Sys2Proof/Machine/SluRegs.lean ====
section
/-! DEFINITION. The Sluice's registers and commands (08_sluice_commit.md R145-R151, R155-R158): opening a stage, taking a
command block, staging a write list, sealing, discarding. -/

namespace Sys2Proof.Machine

/-! Opening a stage (R145, R146). -/

/-- The stages in states OPEN to DRAINING that the world and basin of an access own. -/
def State.ownedStages (s : State) (a : Access) : Nat :=
  ((List.finRange 64).filter (fun k => decide (stOPEN ≤ s.sst4 k) && decide (s.sst4 k ≤ stDRAINING) && s.ownsStage k a)).length

/-- The slot that a read of SLU_OPEN by an access opens. -/
def State.slotToOpen (s : State) (a : Access) : Option StageId :=
  if !(isS a.world) ∧ a.basin ≠ 0 ∧ s.fget Blk.SLU Reg.SLU_CTRL_TENANT_MAX ≤ s.ownedStages a then none
  else (List.finRange 64).find? (fun k => decide (s.sst4 k = 0) || decide (8 ≤ s.sst4 k))

/-- The handle of a slot's next opening: its sequence number runs from 1 to 1023 and then from 1 again. -/
def State.nextHandle (s : State) (k : StageId) : Nat :=
  let q := s.stg k Reg.SLU_STAGE_HANDLE / 64
  (if q = 1023 then 1 else q + 1) * 64 + k.val

/-- What an aligned 8-byte read of SLU_OPEN returns. -/
def State.sluOpenShow (s : State) (a : Access) : Word :=
  match s.slotToOpen a with
  | some k => packFields [(Reg.SLU_OPEN_VALID, 1), (Reg.SLU_OPEN_HANDLE, s.nextHandle k)]
  | none => 0

/-- R146: the effect of that read. Every field of SLU_STAGEk but HANDLE, OWNER and WORLD is cleared. -/
def State.sluOpenTake (s : State) (a : Access) : State :=
  match s.slotToOpen a with
  | some k =>
    let w := packFields [(Reg.SLU_STAGE_HANDLE, s.nextHandle k), (Reg.SLU_STAGE_OWNER, a.basin.val),
      (Reg.SLU_STAGE_WORLD, worldBit a.world), (Reg.SLU_STAGE_STATE, stOPEN)]
    (s.rput Blk.SLU (0x100 + 8 * k.val) w).modStage k (fun _ => Stage.empty)
  | none => s

/-! SLU_CMD (R148). -/

/-- A write of SLU_CMD: the command waits, or with 64 waiting ends with CODE 0x0F in byte 48 alone. -/
def State.sluPush (s : State) (a : Access) (v : Word) : State :=
  let q : QCmd := ⟨bits v.toNat 45 6 * 64, bits v.toNat 63 48, a⟩
  if 64 ≤ s.sluQ.length then (s.dmaWrite a (q.addr + 48) [0x0F]).1 else { s with sluQ := s.sluQ ++ [q] }

/-- Fields of a command block. -/
def sluOp (b : List Byte) : Nat := beAt b 0 1
def sluScope (b : List Byte) : Nat := beAt b 1 1
def sluAtTime (b : List Byte) : Bool := decide (beAt b 2 1 % 2 = 1)
def sluMask (b : List Byte) : Nat := beAt b 3 1
def sluParts (b : List Byte) : Nat := leAt b 4 4
def sluTxn (b : List Byte) : Nat := leAt b 8 8
def sluTime (b : List Byte) : Nat := leAt b 16 12
def sluList (b : List Byte) : Nat := leAt b 32 8
def sluCount (b : List Byte) : Nat := leAt b 40 4
def sluOrigin (b : List Byte) : Nat := leAt b 56 8

/-- A scope from its code. -/
def scopeOf (n : Nat) : Scope := if n = 1 then .group else if n = 2 then .domain else .localS

/-- The device has an index in a board group (R167). -/
def State.grouped (s : State) : Bool := s.flag Blk.RDG0 Reg.RDG_GROUP_EN

/-- BAD_FIELD of R150: reserved bytes, and the ranges of the fields that the OP uses. -/
def State.sluFormBad (s : State) (b : List Byte) : Bool :=
  let op := sluOp b
  let sc := sluScope b
  let wide := (op == 2 || op == 3) && sc != 0
  !(allZero (part b 28 4)) || !(allZero (part b 44 4)) || decide (2 ≤ beAt b 2 1)
    || (op == 1 && (sluCount b == 0 || decide (4096 < sluCount b) || decide (sluList b % 16 ≠ 0) || decide (2 ^ 46 ≤ sluList b)))
    || ((op == 2 || op == 3) && decide (2 < sc)) || (op == 3 && sc == 0)
    || (wide && sluTxn b == 0)
    || (op == 2 && sc == 2 && (sluParts b == 0 || decide (16384 < sluParts b)))
    || (op == 2 && sc == 1 && s.grouped && decide (bits (sluMask b) s.myIndex s.myIndex = 1))
    || (op == 2 && sluAtTime b && decide (1000000000 ≤ bits (sluTime b) 47 16))

/-- The timers of a scope (R156): W, P and G. -/
def State.sluTimes (s : State) (sc : Scope) : Nat × Nat × Nat :=
  match sc with
  | .group => (usU (s.fget Blk.SLU Reg.SLU_GRP_TIME_WINDOW_US), usU (s.fget Blk.SLU Reg.SLU_GRP_TIME_PROP_US),
      usU (s.fget Blk.SLU Reg.SLU_GRP_TIME_GUARD_US))
  | _ => (usU (s.fget Blk.SLU Reg.SLU_DOM_TIME_WINDOW_US), usU (s.fget Blk.SLU Reg.SLU_DOM_TIME_PROP_US),
      usU (s.fget Blk.SLU Reg.SLU_DOM_TIME_GUARD_US))

/-- The basin that owns a stage. -/
def State.stageOwner (s : State) (k : StageId) : BasinId := Fin.ofNat 64 (s.stg k Reg.SLU_STAGE_OWNER)

/-- The banks of a stage (R151): the pairs of a basin and a tier whose rows it writes, a basin section those of every
tier on which the basin has or gets a table. -/
def State.banksOf (s : State) (k : StageId) : List (Nat × Nat) :=
  let g := s.stage k
  (g.rows.map (fun r => (r.basin.val, r.tier))
    ++ g.cfgs.flatMap (fun c => (c.tables.map (fun t => (c.basin.val, t.tier)))
      ++ (((s.cfgNow.find? (fun x => x.basin == c.basin)).map (·.tables)).getD []).map (fun t => (c.basin.val, t.tier)))).eraseDups

/-- BANK_BUSY (R150, R151): another sealed stage holds a bank that this one needs. -/
def State.bankBusy (s : State) (k : StageId) : Bool :=
  let mine := s.banksOf k
  (List.finRange 64).any (fun x => x != k && sealedState (s.sst4 x) && (s.banksOf x).any (fun b => mine.contains b))

/-! Write lists (R149). -/

/-- Registers that a stage may write: WER_QCFG0-7, WER_PORT_SHAPE, WER_PFC_TH0-7 and WER_PORT_CTRL of a PW block. -/
def pwStaged (off : Nat) : Bool :=
  (decide (off < 0x040) && off % 8 == 0) || off == 0x040 || (decide (0x080 ≤ off ∧ off < 0x0C0) && off % 8 == 0)
    || off == 0x0C0
/-- WER_CIS_SHARE, WER_DEEP_QUOTA and WER_FRAME_CTRL of a BW block. -/
def bwStaged (off : Nat) : Bool :=
  off == Reg.WER_CIS_SHARE_WEIGHT.off || off == 0x008 || off == 0x398

/-- A list entry checked (R149, R150); 0 when it passes. -/
def State.entryCheck (s : State) (k : StageId) (e : List Byte) : Nat :=
  let o := s.stageOwner k
  if beAt e 0 1 = 1 then
    if 64 ≤ beAt e 1 1 ∨ !(allZero (part e 3 1)) ∨ !(allZero (part e 6 10)) then 0x11
    else
      match (s.tablesAt s.epoch o (beAt e 1 1)).find? (fun t => t.id == beAt e 2 1) with
      | none => 0x30
      | some t => if t.rows ≤ leAt e 4 2 then 0x30 else 0
  else if beAt e 0 1 ≠ 2 ∨ !(allZero (part e 1 3)) ∨ !(allZero (part e 16 64)) then 0x11
  else
    let b := leAt e 4 2
    let off := leAt e 6 2
    if b < 256 ∨ 352 ≤ b then 0x11
    else if s.stg k Reg.SLU_STAGE_WORLD = 0 ∧ o ≠ 0 ∧ !(if b < 288 then decide (s.ownerOf (b - 256) = o) else decide (b = 288 + o.val)) then 0x03
    else if (if b < 288 then pwStaged off else bwStaged off) then 0
    else 0x31

/-- A checked entry staged, or STAGE_FULL (R147). -/
def State.entryStage (s : State) (k : StageId) (e : List Byte) : Nat × State :=
  let g := s.stage k
  if beAt e 0 1 = 1 then
    match (if 1048576 ≤ g.rowCount then none else s.storeRoom 72) with
    | none => (saFull, s)
    | some r =>
      (0, s.modStage k (fun g => ({ g with
        rows := g.rows ++ [⟨s.stageOwner k, beAt e 1 1, beAt e 2 1, leAt e 4 2, part e 16 64⟩],
        rowCount := g.rowCount + 1 } : Stage).addStore r))
  else
    match (if 4096 ≤ g.weir.length then none else s.storeRoom 16) with
    | none => (saFull, s)
    | some r =>
      (0, s.modStage k (fun g => ({ g with
        weir := g.weir ++ [(leAt e 4 2, leAt e 6 2, BitVec.ofNat 64 (leAt e 8 8))] } : Stage).addStore r))

/-- How a write list ends: a CODE with the number of entries staged before, or a refused read. -/
inductive ListEnd where
  | code (c done : Nat)
  | refused
  deriving DecidableEq, Repr

/-- The entries of a list read, checked and staged one at a time, `n` still to go (R149, R150). -/
def State.stageList (s : State) (k : StageId) (a : Access) : (n addr done : Nat) → State × ListEnd
  | 0, _, done => (s, .code 0 done)
  | n + 1, addr, done =>
    let r := s.dmaRead a addr 80
    match r.2.2 with
    | .refused => (r.1, .refused)
    | .poison => (r.1, .code 0x01 done)
    | .unserved => (r.1, .code 0x11 done)
    | .ok =>
      let c := r.1.entryCheck k r.2.1
      if c ≠ 0 then (r.1, .code c done)
      else
        let q := r.1.entryStage k r.2.1
        if q.1 ≠ 0 then (q.2, .code q.1 done) else q.2.stageList k a n (addr + 80) (done + 1)

/-! Sealing by RELEASE and ARM (R150, R151). -/

/-- The checks of RELEASE and ARM after the block's (R150); 0 when they pass. -/
def State.sealCheck (s : State) (k : StageId) (b : List Byte) : Nat :=
  let sc := scopeOf (sluScope b)
  let w := s.sluTimes sc
  if sc = .group ∧ !s.grouped then 0x35
  else if sc = .domain ∧ (if sluOp b = 2 then s.uplink.isSome else s.uplink.isNone) then 0x35
  else if sluOp b = 2 ∧ sc ≠ .localS ∧ sluAtTime b ∧ dtbOf96 (sluTime b) < s.tb.now + w.1 + w.2.1 + w.2.2 then 0x32
  else if s.bankBusy k then 0x34
  else 0

/-- R151: the stage enters SEALING with what the block says of its release. -/
def State.sealStage (s : State) (k : StageId) (b : List Byte) : State :=
  let rel := sluOp b = 2
  let sc := scopeOf (sluScope b)
  let devs := (List.finRange 8).filter (fun n => bitAt (BitVec.ofNat 8 (sluMask b)) n.val)
  (s.setStg k Reg.SLU_STAGE_STATE stSEALING).modStage k (fun g => { g with
    scope := sc, arm := !rel, txn := sluTxn b, origin := if rel then s.sppId else sluOrigin b,
    atTime := rel && sluAtTime b, t := if rel && sluAtTime b then dtbOf96 (sluTime b) else 0,
    parts := if sc = .group then devs.length + 1 else sluParts b, sealTick := s.tb.ticks,
    edges := if rel && decide (sc = .group) then devs.map (fun n => (Edge.dev n, false)) else [] })

/-! Discarding by command (R157). -/

/-- DISCARD of a stage that its issuer may discard. -/
def State.discardCmd (s : State) (k : StageId) : Nat × State :=
  let st := s.sst4 k
  if st = stVOTING then (0, s.coordAbort k 1)
  else if st = stOPEN ∨ st = stSEALING ∨ st = stARMED ∨ (st = stPENDING ∧ (s.stage k).scope = .localS) then (0, s.discardStage k 1)
  else (0x33, s)

/-! A command taken (R148, R150). -/

/-- How a command ends: CODE and DONE, or nothing written back. -/
structure CmdEnd where
  code : Nat
  done : Nat
  quiet : Bool
  deriving DecidableEq, Repr

/-- The checks of the block that stand before those of an OP; 0 when they pass. -/
def State.blockCheck (s : State) (b : List Byte) : Nat :=
  if sluOp b = 0 ∨ 4 < sluOp b then 0x02 else if s.sluFormBad b then 0x11 else 0

/-- WRITE (R149). -/
def State.runWrite (s : State) (q : QCmd) (b : List Byte) : State × CmdEnd :=
  match s.stageFor q.handle q.acc with
  | none => (s, ⟨saUnavail, 0, false⟩)
  | some k =>
    let r := s.stageList k q.acc (sluCount b) (sluList b) 0
    match r.2 with
    | .code c d => (r.1, ⟨c, d, false⟩)
    | .refused => (r.1, ⟨0, 0, true⟩)

/-- RELEASE or ARM (R151, R156). -/
def State.runSeal (s : State) (q : QCmd) (b : List Byte) : State × CmdEnd :=
  match s.stageFor q.handle q.acc with
  | none => (s, ⟨saUnavail, 0, false⟩)
  | some k =>
    let c := s.sealCheck k b
    if c ≠ 0 then (s, ⟨c, 0, false⟩) else (s.sealStage k b, ⟨0, 0, false⟩)

/-- DISCARD (R157). -/
def State.runDiscard (s : State) (q : QCmd) : State × CmdEnd :=
  match (s.stageOfHandle q.handle).filter (fun k => s.ownsStage k q.acc || isS q.acc.world) with
  | none => (s, ⟨saUnavail, 0, false⟩)
  | some k =>
    let r := s.discardCmd k
    (r.2, ⟨r.1, 0, false⟩)

/-- R148: the answer: bytes 49 to 55, then bytes 48 to 55 with CODE. -/
def State.sluAnswer (s : State) (q : QCmd) (e : CmdEnd) : State :=
  if e.quiet then s
  else
    let tail := [0, 0, 0] ++ leBytes 4 e.done
    ((s.dmaWrite q.acc (q.addr + 49) tail).1.dmaWrite q.acc (q.addr + 48) (BitVec.ofNat 8 e.code :: tail)).1

/-- R148: the Sluice takes its oldest command, if its block can be read and holds operation `op`; `run` does what passes
the block's checks. -/
def State.sluTake (s : State) (op : Nat) (run : State → QCmd → List Byte → State × CmdEnd) : State :=
  match s.sluQ with
  | [] => s
  | q :: rest =>
    let r := ({ s with sluQ := rest }).dmaRead q.acc q.addr 64
    if r.2.2 = DmaAns.ok ∧ sluOp r.2.1 = op then
      let c := r.1.blockCheck r.2.1
      if c ≠ 0 then r.1.sluAnswer q ⟨c, 0, false⟩
      else
        let e := run r.1 q r.2.1
        e.1.sluAnswer q e.2
    else s

/-- R148, R150: the Sluice takes its oldest command, whose block cannot be read or whose OP is not 1 to 4. A refused read
ends it with nothing written back; one that is not served reads 0 (R18). -/
def State.sluTakeBad (s : State) : State :=
  match s.sluQ with
  | [] => s
  | q :: rest =>
    let r := ({ s with sluQ := rest }).dmaRead q.acc q.addr 64
    match r.2.2 with
    | .refused => r.1
    | .poison => r.1.sluAnswer q ⟨0x01, 0, false⟩
    | .unserved => r.1.sluAnswer q ⟨0x02, 0, false⟩
    | .ok => if sluOp r.2.1 = 0 ∨ 4 < sluOp r.2.1 then r.1.sluAnswer q ⟨0x02, 0, false⟩ else s

/-! Registers. -/

/-- SLU_AREA_BASE or SLU_AREA_SIZE written. -/
def State.wrSluArea (s : State) (off : Nat) (m v : Word) : State :=
  let s' := s.tableWrite Blk.SLU off m v
  let r := s'.sluArea
  let busy := (List.finRange 64).any (fun k =>
    decide (stOPEN ≤ s.sst4 k) && decide (s.sst4 k ≤ stDRAINING) && decide ((s.stage k).ext ≠ 0))
  if busy || decide (r.2 ≠ 0 ∧ s.cisEnd < r.1 + r.2) || overlap r s.saRegion || overlap r s.deepRegion then s else s'

/-- A write of the SLU block. -/
def State.wrSlu (s : State) (a : Access) (off : Nat) (m v : Word) : State :=
  let ok := fun (f : Fld) (g : Nat → Bool) => s.okField Blk.SLU f m v g
  let nz := fun (n : Nat) => decide (n ≠ 0)
  let sOnly := off == 0x010 || off == 0x018 || off == 0x020 || off == 0x028 || off == 0x030
  if sOnly && !(isS a.world) then s
  else if off = 0x008 then s.sluPush a (v &&& m)
  else if off = 0x018 ∨ off = 0x020 then s.wrSluArea off m v
  else
    let pass :=
      if off = 0x010 then ok Reg.SLU_CTRL_ARM_TIMEOUT_MS nz && ok Reg.SLU_CTRL_TENANT_MAX nz
      else if off = 0x028 then ok Reg.SLU_DOMAIN_UP (fun n => decide (n < 36) || n == 63) && ok Reg.SLU_DOMAIN_HOP_US nz
      else if off = 0x038 then ok Reg.SLU_DOM_TIME_PROP_US nz && ok Reg.SLU_DOM_TIME_GUARD_US nz && ok Reg.SLU_DOM_TIME_WINDOW_US nz
      else if off = 0x040 then ok Reg.SLU_GRP_TIME_PROP_US nz && ok Reg.SLU_GRP_TIME_GUARD_US nz && ok Reg.SLU_GRP_TIME_WINDOW_US nz
      else true
    if pass then s.tableWrite Blk.SLU off m v else s

/-- A read of the SLU block, but for an aligned 8-byte read of SLU_OPEN. -/
def State.rdSlu (s : State) (off : Nat) : Word := if off = 0x000 then 0 else s.tableRead Blk.SLU off

end Sys2Proof.Machine
end

