-- ==== Sys2Proof/Machine/SluTxn.lean ====
section
/-! DEFINITION. The course of a stage (08_sluice_commit.md R151-R162): sealing done, the epoch switch, draining, and the
messages of GROUP and DOMAIN transactions. -/

namespace Sys2Proof.Machine

/-! Sealing done (R151, R152, R158). -/

/-- A LOCAL stage becomes PENDING with its R. -/
def State.sealedLocal (s : State) (k : StageId) : State :=
  let g := s.stage k
  let soon := s.tb.now + nsU 100
  let late := g.atTime && decide (g.t < soon)
  let s := (s.setStg k Reg.SLU_STAGE_STATE stPENDING).modStage k (fun x => { x with
    due := some (if g.atTime && !late then g.t else soon) })
  if late then s.setStg k Reg.SLU_STAGE_LATE 1 else s

/-- A coordinator's stage starts its vote, or is discarded as TOO_LATE (R158). -/
def State.sealedCoord (s : State) (k : StageId) : State :=
  let g := s.stage k
  let w := s.sluTimes g.scope
  let t := if g.atTime then g.t else s.tb.now + w.1 + w.2.1 + w.2.2
  if t < s.tb.now + w.1 + w.2.1 + w.2.2 then s.discardStage k 8
  else
    let es := ((if g.scope = .group then g.edges.map (·.1) else s.downEdges)).filter (fun e => s.edgeUp e)
    let lead := if g.scope = .group then usU 2 else usU (s.fget Blk.SLU Reg.SLU_DOMAIN_HOP_US)
    let s := (s.setStg k Reg.SLU_STAGE_STATE stVOTING).modStage k (fun x => { x with
      t := t, deadline := s.tb.now + w.1, guardT := w.2.2, yes := 1, no := 0, edges := es.map (fun e => (e, false)) })
    let s := s.sluSendAll es 6 (prepareBody g.txn g.origin t (s.tb.now + w.1 - lead) (w.2.2 / 65536)
      (if g.scope = .group then 1 else 2))
    s.coordDecide k

/-- R151: sealing completes. -/
def State.sealDone (s : State) (k : StageId) : State :=
  if s.sst4 k ≠ stSEALING then s
  else if (s.stage k).scope = .localS then s.sealedLocal k
  else if (s.stage k).arm then
    (s.setStg k Reg.SLU_STAGE_STATE stARMED).modStage k (fun x => { x with sealTick := s.tb.ticks })
  else s.sealedCoord k

/-! The switch (R152, R153). -/

/-- A row of a configuration replaced. -/
def setRow (cs : List BasinCfg) (r : StagedRow) : List BasinCfg :=
  cs.map (fun c => if c.basin == r.basin then
    { c with tables := c.tables.map (fun t =>
      if t.tier == r.tier && t.id == r.id then { t with data := sparsePut (List.replicate 64 0) r.row r.image t.data } else t) }
    else c)

/-- A basin's configuration replaced by a section (R83). -/
def setCfg (cs : List BasinCfg) (c : BasinCfg) : List BasinCfg := c :: cs.filter (fun x => x.basin != c.basin)

/-- The configuration after the sections and then the rows of some stages. -/
def State.newCfg (s : State) (ks : List StageId) : List BasinCfg :=
  let secs := ks.flatMap (fun k => (s.stage k).cfgs)
  let rows := ks.flatMap (fun k => (s.stage k).rows)
  rows.foldl setRow (secs.foldl setCfg s.cfgNow)

/-- A meter row that a release writes starts with full buckets (R96, R83): the new version of every row staged, and of
every table of a section's basin. -/
def State.meterReset (s : State) (ks : List StageId) (k : MeterKey) : Bool :=
  ks.any (fun x => (s.stage x).cfgs.any (fun c => c.basin == k.basin)
    || (s.stage x).rows.any (fun r => r.basin == k.basin && r.tier == k.tier.val && r.id == k.id && r.row == k.row))

/-- The two versions of the meters of the banks that a switch replaces (R154). -/
def State.splitMeters (s : State) (ks : List StageId) (banks : List (Nat × Nat)) : List (MeterKey × Meter) :=
  let olds := (s.meters.filter (fun e => !e.1.old && banks.contains (e.1.basin.val, e.1.tier.val))).map
    (fun e => ({ e.1 with old := true }, e.2))
  s.meters.filter (fun e => !e.1.old && !(s.meterReset ks e.1)) ++ olds

/-- A staged weir write at R: as a direct write (R149, R153). -/
def State.weirAt (s : State) (w : Nat × Nat × Word) : State :=
  if h : 256 ≤ w.1 ∧ w.1 < 288 then s.wrPw ⟨w.1 - 256, by omega⟩ w.2.1 (halfMask true false) w.2.2
  else if h : 288 ≤ w.1 ∧ w.1 < 352 then s.wrBw ⟨w.1 - 288, by omega⟩ w.2.1 (halfMask true false) w.2.2
  else s

/-- BIT_GEN of a basin. -/
def genFld (b : BasinId) : Fld := (if b.val % 2 = 0 then Reg.BIT_GEN_GEN_EVEN else Reg.BIT_GEN_GEN_ODD).nth (b.val / 2)

/-- The stages whose R has come. -/
def State.dueStages (s : State) : List StageId :=
  (List.finRange 64).filter (fun k => decide (s.sst4 k = stPENDING) && (s.stage k).due.any (fun t => decide (t ≤ s.tb.now)))

/-- The earliest R of the pending stages. -/
def State.nextRelease (s : State) : Option Nat :=
  ((List.finRange 64).filterMap (fun k => if s.sst4 k = stPENDING then (s.stage k).due else none)).min?

/-- The switch at this instant of some stages. -/
def State.switchNow (s : State) (ks : List StageId) : State :=
  let banks := (ks.flatMap (fun k => s.banksOf k)).eraseDups
  let secs := ks.flatMap (fun k => (s.stage k).cfgs)
  let sas := ks.flatMap (fun k => (s.stage k).sa)
  let weirs := ks.flatMap (fun k => (s.stage k).weir)
  let s := { s with
    epoch := !s.epoch, cfgOld := s.cfgNow, scOld := s.scNow, cfgNow := s.newCfg ks, switched := banks,
    meters := s.splitMeters ks banks }
  let s := foldL secs (fun c t => t.fset Blk.BIT (genFld c.basin) c.generation) s
  let s := (s.applySas sas).applySlots sas
  let s := foldL weirs (fun w t => t.weirAt w) s
  let s := foldL ks (fun k t =>
    let t := (t.setStg k Reg.SLU_STAGE_STATE stDRAINING).modStage k (fun g => { g with sa := [] })
    let t := if t.stg k Reg.SLU_STAGE_PRESUMED = 1 then t.bump Blk.SLU Ctr.SLU_PRESUMED else t
    if t.stg k Reg.SLU_STAGE_LATE = 1 then t.fset Blk.SLU Reg.SLU_EVENT_LATE 1 else t) s
  (((s.fset Blk.SLU Reg.SLU_LASTREL_NS s.ns).fset Blk.SLU Reg.SLU_LASTREL_SECONDS (s.sec % 2 ^ 32))).bump Blk.SLU Ctr.SLU_SWITCHES

/-- Some stage drains. -/
def State.draining (s : State) : Bool := (List.finRange 64).any (fun k => decide (s.sst4 k = stDRAINING))

/-- R152: the switch at the next R. -/
def State.epochSwitch (s : State) : State :=
  if s.draining then s
  else
    match s.nextRelease with
    | none => s
    | some r =>
      let s := s.reach r
      s.switchNow s.dueStages

/-- A frame of the old epoch that is still in its chain (R153); an injected frame is, from the moment it is read. -/
def State.oldInChain (s : State) (f : Frame) : Bool :=
  decide (f.d.epoch ≠ s.epoch) && (f.inChain || (f.d.inject && f.loc == .wait))

/-- R153: draining ends once no frame of the old epoch is left. -/
def State.drainEnd (s : State) : State :=
  if !s.draining || s.frames.any (fun f => s.oldInChain f) then s
  else
    let s := { s with cfgOld := [], scOld := [], switched := [], meters := s.meters.filter (fun e => !e.1.old) }
    let s := foldL (List.finRange 64) (fun k t =>
      if t.sst4 k = stDRAINING then
        (((t.setStg k Reg.SLU_STAGE_STATE stRELEASED).modStage k (fun g => { Stage.empty with
            txn := g.txn, origin := g.origin, t := g.t, scope := g.scope, arm := g.arm, edges := g.edges })).setEvt
          Blk.SLU Reg.SLU_DONE_SLOT k.val).bump Blk.SLU Ctr.SLU_RELEASED
      else if t.sst4 k = stPENDING ∧ (t.stage k).due.any (fun d => decide (d ≤ t.tb.now)) then
        (t.setStg k Reg.SLU_STAGE_LATE 1).modStage k (fun g => { g with due := some (t.tb.now + nsU 100) })
      else t) s
    s.dropRuns

/-! Messages (R158-R162). -/

/-- The edges a message can be said to come by: that of its session or link, and for a flit its sender's route. -/
def SluMsg.edges (m : SluMsg) : List Edge := m.edge :: (m.dev.map Edge.dev).toList
def SluMsg.txn (m : SluMsg) : Nat := beAt m.body 0 8
def SluMsg.origin (m : SluMsg) : Nat := beAt m.body 8 8

/-- A message dropped (R162). -/
def State.sluUnexp (s : State) : State := s.bump Blk.SLU Ctr.SLU_MSG_UNEXP

/-- The oldest message taken, if it is of a type and well formed (R162). -/
def State.sluNext (s : State) (ty : Nat) (act : State → SluMsg → State) : State :=
  match s.sluIn with
  | [] => s
  | m :: rest =>
    if m.ty ≠ ty then s
    else
      let s := { s with sluIn := rest }
      if sluFormOk ty m.body then act s m else s.sluUnexp

/-- The transaction record of a message (R160). -/
def State.txnOf (s : State) (origin txn : Nat) : Option TxnRec := s.txns.find? (fun r => r.origin == origin && r.txn == txn)
def State.modTxn (s : State) (r : TxnRec) (f : TxnRec → TxnRec) : State :=
  { s with txns := s.txns.map (fun x => if x.origin == r.origin && x.txn == r.txn then f x else x) }

/-- The stage armed for a transaction, sealed or being sealed, that no other record names. -/
def State.armedFor (s : State) (origin txn : Nat) (grp : Bool) : Option (StageId × Nat) :=
  ((List.finRange 64).find? (fun k =>
    let g := s.stage k
    g.arm && g.txn == txn && (g.origin == 0 || g.origin == origin) && (decide (g.scope = .group) == grp)
      && (decide (s.sst4 k = stSEALING) || decide (s.sst4 k = stARMED))
      && !(s.txns.any (fun r => r.stage == some (k, s.stg k Reg.SLU_STAGE_HANDLE))))).map
    (fun k => (k, s.stg k Reg.SLU_STAGE_HANDLE))

/-- The stage that a record names, while its slot still holds that opening. -/
def State.recStage (s : State) (r : TxnRec) : Option StageId :=
  r.stage.bind (fun x => if s.stg x.1 Reg.SLU_STAGE_HANDLE = x.2 then some x.1 else none)

/-- This device's domain index (R158). -/
def State.domIndex (s : State) : Nat := s.fget Blk.SLU Reg.SLU_DOMAIN_INDEX

/-- PREPARE (R160). -/
def State.onPrepare (s : State) (m : SluMsg) : State :=
  let grp := beAt m.body 44 1 == 1
  let e := if grp then m.dev.map Edge.dev else some m.edge
  match e with
  | none => s.sluUnexp
  | some e =>
    if (!grp && s.uplink != some e) || (s.txnOf m.origin m.txn).isSome then s.sluUnexp
    else if 16 ≤ s.txns.length then s.sluSend e 7 (voteBody m.txn m.origin 0 1 s.domIndex 10)
    else
      let hop := usU (s.fget Blk.SLU Reg.SLU_DOMAIN_HOP_US)
      let by_ := dtbAt m.body 28
      let down := if grp then [] else s.downEdges.filter (fun d => s.edgeUp d)
      let r : TxnRec := {
        origin := m.origin, txn := m.txn, t := dtbAt m.body 16, g := nsU (beAt m.body 40 4), deadline := by_, up := e,
        edges := down.map (fun d => (d, false)), yes := 0, no := 0, firstNo := 0xFFFF, noCause := 0,
        stage := s.armedFor m.origin m.txn grp, voted := false, decided := false }
      ({ s with txns := s.txns ++ [r] }).sluSendAll down 6
        (prepareBody m.txn m.origin r.t (by_ - hop) (beAt m.body 40 4) (beAt m.body 44 1))

/-- The stage that coordinates, or coordinated, the transaction of a message and still waits for the edge's VOTE. -/
def State.coordFor (s : State) (m : SluMsg) : Option (StageId × Edge) :=
  (List.finRange 64).findSome? (fun k =>
    let g := s.stage k
    if !g.arm && decide (g.scope ≠ .localS) && g.txn == m.txn && m.origin == s.sppId && decide (g.origin = s.sppId) then
      (g.edges.find? (fun x => !x.2 && m.edges.contains x.1)).map (fun x => (k, x.1))
    else none)

/-- VOTE (R159, R160, R162). -/
def State.onVote (s : State) (m : SluMsg) : State :=
  let yes := beAt m.body 16 4
  let no := beAt m.body 20 4
  let mark := fun (e : Edge) (l : List (Edge × Bool)) => l.map (fun x => if x.1 == e then (x.1, true) else x)
  match s.coordFor m with
  | some (k, e) =>
    let s' := s.modStage k (fun g => { g with edges := mark e g.edges })
    if s.sst4 k = stVOTING then (s'.modStage k (fun g => { g with yes := g.yes + yes, no := g.no + no })).coordDecide k
    else s'.bump Blk.SLU Ctr.SLU_LATE_VOTE
  | none =>
    match s.txnOf m.origin m.txn with
    | none => s.sluUnexp
    | some r =>
      match r.edges.find? (fun x => !x.2 && m.edges.contains x.1) with
      | none => s.sluUnexp
      | some (e, _) =>
        let s := s.modTxn r (fun x => { x with edges := mark e x.edges })
        if r.voted then s.bump Blk.SLU Ctr.SLU_LATE_VOTE
        else
          s.modTxn r (fun x => { x with
            yes := x.yes + yes, no := x.no + no,
            firstNo := if x.no = 0 ∧ 0 < no then beAt m.body 24 2 else x.firstNo,
            noCause := if x.no = 0 ∧ 0 < no then beAt m.body 26 1 else x.noCause })

/-- DECIDE or ABORT of a recorded transaction: passed on, and then `act` on the local stage (R160, R162). -/
def State.onDecision (s : State) (m : SluMsg) (act : State → TxnRec → StageId → State) : State :=
  match s.txnOf m.origin m.txn with
  | none => s.sluUnexp
  | some r =>
    if !(m.edges.contains r.up) || r.decided then s.sluUnexp
    else
      let s := (s.modTxn r (fun x => { x with decided := true })).sluSendAll (r.edges.map (·.1)) m.ty m.body
      match s.recStage r with
      | some k => act s r k
      | none => s

/-- A participant's stage that has voted YES and is not discarded. -/
def State.afterVote (s : State) (k : StageId) : Bool := decide (stPREPARED ≤ s.sst4 k) && decide (s.sst4 k ≤ stRELEASED)

/-- DECIDE at the local stage. -/
def State.onDecide (s : State) (m : SluMsg) : State :=
  s.onDecision m (fun t _ k => if t.afterVote k then t.setStg k Reg.SLU_STAGE_DECIDED 1 else t)

/-- ABORT at the local stage: in time it discards what has not been decided otherwise (R160, R161). -/
def State.onAbort (s : State) (m : SluMsg) : State :=
  s.onDecision m (fun t r k =>
    let inTime := dtbOf96 m.at_ < r.t - r.g
    if t.afterVote k then
      (if inTime ∧ t.sst4 k = stPREPARED then t.discardStage k 3 else (t.bump Blk.SLU Ctr.SLU_LATE_ABORT).diverge k)
    else if inTime ∧ (t.sst4 k = stSEALING ∨ t.sst4 k = stARMED) then t.discardStage k 3
    else t)

/-- R160: a participant's wait has ended: whether its stage is sealed and every expected VOTE has come. -/
def State.waitOver (s : State) (r : TxnRec) : Bool :=
  r.edges.all (·.2) && (match s.recStage r with
    | some k => decide (s.sst4 k ≠ stSEALING)
    | none => true)

/-- What a participant's own stage says: 0 none, 1 YES, otherwise NO with a cause. -/
def State.ownVote (s : State) (r : TxnRec) : Option (Bool × Nat) :=
  match r.stage with
  | none => none
  | some _ =>
    match s.recStage r with
    | none => some (false, 1)
    | some k =>
      if s.sst4 k = stARMED ∨ s.sst4 k = stSEALING then
        (if r.t - r.g ≤ s.tb.now then some (false, 8) else if s.sst4 k = stSEALING then some (false, 9) else some (true, 0))
      else some (false, if s.stg k Reg.SLU_STAGE_CAUSE = 0 then 1 else s.stg k Reg.SLU_STAGE_CAUSE)

/-- R160: the summed VOTE goes up; the stage becomes PREPARED, or is discarded with the cause of its NO. -/
def State.sendVote (s : State) (origin txn : Nat) : State :=
  match s.txnOf origin txn with
  | none => s
  | some r =>
    if r.voted then s
    else
      let s := if s.waitOver r then s else s.reach r.deadline
      let own := s.ownVote r
      let y := if own.any (·.1) then 1 else 0
      let n := if own.any (fun o => !o.1) then 1 else 0
      let cause := (own.map (·.2)).getD 0
      let mine := r.no = 0 ∧ n = 1
      let s := s.sluSend r.up 7 (voteBody txn origin (r.yes + y) (r.no + n)
        (if mine then s.domIndex else r.firstNo) (if mine then cause else r.noCause))
      let s := s.modTxn r (fun x => { x with voted := true })
      match s.recStage r with
      | none => s
      | some k =>
        if y = 1 then
          let s := (s.setStg k Reg.SLU_STAGE_STATE stPREPARED).modStage k (fun g => { g with
            t := r.t, guardT := r.g, origin := r.origin })
          if r.decided then s.setStg k Reg.SLU_STAGE_DECIDED 1 else s
        else if s.sst4 k = stARMED ∨ s.sst4 k = stSEALING then s.discardStage k cause
        else s

/-- R160: at T − G a PREPARED stage becomes PENDING, PRESUMED if no DECIDE has come. -/
def State.presume (s : State) (k : StageId) : State :=
  if s.sst4 k ≠ stPREPARED then s
  else
    let g := s.stage k
    let s := s.reach (g.t - g.guardT)
    let s := if s.stg k Reg.SLU_STAGE_DECIDED = 1 then s else s.setStg k Reg.SLU_STAGE_PRESUMED 1
    (s.setStg k Reg.SLU_STAGE_STATE stPENDING).modStage k (fun g => { g with due := some g.t })

/-- R160: at T + G a transaction record is dropped. -/
def State.txnExpire (s : State) (origin txn : Nat) : State :=
  match s.txnOf origin txn with
  | none => s
  | some r =>
    let s := s.reach (r.t + r.g)
    { s with txns := s.txns.filter (fun x => !(x.origin == origin && x.txn == txn)) }

/-- R159: the coordinator's own deadline. -/
def State.voteDeadline (s : State) (k : StageId) : State :=
  if s.sst4 k ≠ stVOTING then s
  else
    let s := s.reach (s.stage k).deadline
    s.coordAbort k 4

/-- R156: a stage armed that no PREPARE named within the timeout. -/
def State.armTimeout (s : State) (k : StageId) : State :=
  if s.sst4 k = stARMED ∧ !(s.txns.any (fun r => r.stage == some (k, s.stg k Reg.SLU_STAGE_HANDLE))) then s.discardStage k 7
  else s

end Sys2Proof.Machine
end

