-- ==== Sys2Proof/Machine/BitFile.lean ====
section
/-! DEFINITION. The bitstream file (04_structural_bitstream.md R70-R77): header, directory, records, and the checks of R77
that look at the file and the configuration in force. A check answers nothing, or a code and the offset that failed. -/

namespace Sys2Proof.Machine

/-- A check: none when it passes, else code and FAIL_OFFSET (R77). -/
abbrev Chk := Option (Nat × Nat)

/-- A condition as a check. -/
def need (ok : Bool) (code at_ : Nat) : Chk := if ok then none else some (code, at_)

/-- The first failure of a list of checks. -/
def firstOf (l : List Chk) : Chk := l.findSome? id

/-! Header and signature block (R71, R77). -/

def sigLen : Nat := 7424
def fileFull (b : List Byte) : Bool := decide (bits (leAt b 6 2) 0 0 = 1)
def fileCount (b : List Byte) : Nat := leAt b 12 4

/-- A byte string of a digest as the number a fuse or record holds it as. -/
def digestOf (l : List Byte) : BitVec 384 := BitVec.ofNat 384 (beAt l 0 48)
def digestBytes (d : BitVec 384) : List Byte := beBytes 48 d.toNat

/-- The keys and signatures of a signature block at an offset. -/
def ecKey (b : List Byte) (o : Nat) : List Byte := part b o 97
def ecSig (b : List Byte) (o : Nat) : List Byte := part b (o + 104) 96
def mlKey (b : List Byte) (o : Nat) : List Byte := part b (o + 200) 2592
def mlSig (b : List Byte) (o : Nat) : List Byte := part b (o + 2792) 4627
/-- The key digest (R77). -/
def keyDigest (b : List Byte) (o : Nat) : BitVec 384 := Config.sha384 (ecKey b o ++ mlKey b o)
/-- The zero bytes of a signature block. -/
def sigPad (b : List Byte) (o : Nat) : Bool := allZero (part b (o + 97) 7) && allZero (part b (o + 7419) 5)

/-- Steps 7 and 8: both signatures over the bytes before the block. -/
def sigChecks (b : List Byte) (o : Nat) : Chk :=
  firstOf [need (Config.ecdsaOk (ecKey b o) (digestBytes (Config.sha384 (b.take o))) (ecSig b o)) 0x07 o,
    need (Config.mldsaOk (mlKey b o) (b.take o) (mlSig b o)) 0x08 o]

/-- An owner key slot that is programmed, not revoked and of this digest (R77, R342). -/
def Fuses.slotOk (f : Fuses) (slot : Nat) (d : BitVec 384) : Bool :=
  (List.finRange 4).any (fun k => k.val == slot && bitAt f.programmed k.val && !(bitAt f.revoked k.val) && f.digests.get k == d)

/-! Directory and records (R72, R73). -/

/-- A directory entry: its number, KIND, BASIN, OFFSET, LENGTH, GENERATION. -/
structure Entry where
  num : Nat
  kind : Nat
  basin : Nat
  off : Nat
  len : Nat
  gen : Nat
  deriving DecidableEq, Repr

def Entry.at_ (e : Entry) : Nat := 128 + 16 * e.num

/-- The directory of a file; at most 64 entries are read. -/
def entriesOf (b : List Byte) : List Entry :=
  (List.range (min (fileCount b) 64)).map (fun i =>
    let o := 128 + 16 * i
    ⟨i, beAt b o 1, beAt b (o + 1) 1, leAt b (o + 4) 4, leAt b (o + 8) 4, leAt b (o + 12) 4⟩)

/-- One entry follows R70 and R72: `from_` is where its section may start at the earliest. -/
def entryOk (b : List Byte) (from_ stop : Nat) (e : Entry) : Bool :=
  (e.kind == 1 || e.kind == 2) && decide (e.basin < 64) && (e.kind == 2 || (e.basin == 0 && e.gen == 0))
    && leAt b (e.at_ + 2) 2 == 0 && e.off % 64 == 0 && decide (from_ ≤ e.off) && decide (e.off + e.len ≤ stop)

/-- Step 10 over the entries in order. -/
def dirCheck (b : List Byte) (stop : Nat) : Nat → List Entry → Chk
  | _, [] => none
  | from_, e :: t => if entryOk b from_ stop e then dirCheck b stop (e.off + e.len) t else some (0x0A, e.at_)

/-- A record: the offset of its header, TYPE and body. -/
structure BRec where
  at_ : Nat
  ty : Nat
  body : List Byte
  deriving DecidableEq, Repr

/-- The records of a section, with the offset of the first that is not framed as R73 asks. -/
def recsOf : (fuel at_ : Nat) → List Byte → List BRec × Option Nat
  | 0, _, _ => ([], none)
  | n + 1, at_, l =>
    if l.isEmpty then ([], none)
    else
      let len := leAt l 4 4
      if l.length < 8 ∨ leAt l 2 2 ≠ 0 ∨ len % 8 ≠ 0 ∨ l.length < 8 + len then ([], some at_)
      else
        let r := recsOf n (at_ + 8 + len) (l.drop (8 + len))
        (⟨at_, leAt l 0 2, part l 8 len⟩ :: r.1, r.2)

/-- The records of an entry's section. -/
def sectionRecs (b : List Byte) (e : Entry) : List BRec × Option Nat := recsOf (e.len / 8 + 1) e.off (part b e.off e.len)

/-- Length, reserved fields and field ranges of a platform record (R74). -/
def platRecOk (r : BRec) : Bool :=
  let b := r.body
  let n := b.length
  let z := fun (i k : Nat) => allZero (part b i k)
  if r.ty = 0x0101 then
    n == 8 && decide (beAt b 0 1 < 32) && decide (beAt b 1 1 < 4) && z 6 2 && decide (beAt b 4 1 < 64)
      && (beAt b 1 1 % 2 == 1 || z 2 4)
  else if r.ty = 0x0102 then
    let k := beAt b 3 1
    n == 8 + 8 * k && decide (1 ≤ k ∧ k ≤ 64) && decide (beAt b 0 1 < 8) && decide (beAt b 1 1 < 64) && z 4 4
      && (List.range k).all (fun i => decide (beAt b (8 + 8 * i) 1 < 64) && z (9 + 8 * i) 1 && z (14 + 8 * i) 2)
  else if r.ty = 0x0103 then n == 16 && decide (beAt b 0 1 < 10) && decide (beAt b 1 1 < 2) && z 2 6
  else if r.ty = 0x0104 then n == 16 && decide (beAt b 0 1 < 16) && decide (beAt b 1 1 < 2) && decide (beAt b 2 1 < 2) && z 3 5
  else if r.ty = 0x0105 then
    n == 8 && decide (32 ≤ leAt b 0 2 ∧ leAt b 0 2 < 1024) && decide (beAt b 4 1 < 64) && decide (beAt b 5 1 < 2)
      && decide (beAt b 6 1 < 32) && z 7 1
  else if r.ty = 0x0106 then n == 64 && decide (beAt b 0 1 < 64) && decide (beAt b 1 1 < 2) && z 2 2 && z 12 4
  else if r.ty = 0x0107 then n == 8 && decide (beAt b 0 1 < 2) && decide (beAt b 1 1 < 2) && decide (beAt b 2 1 < 64) && z 3 5
  else if r.ty = 0x0108 then n == 8 && decide (beAt b 0 1 < 8) && beAt b 0 1 % 2 == 0 && z 1 7
  else false

/-- The same for a basin record (R75). -/
def basinRecOk (r : BRec) : Bool :=
  let b := r.body
  let n := b.length
  let z := fun (i k : Nat) => allZero (part b i k)
  if r.ty = 0x0201 then n == 16 && decide (beAt b 0 1 < 8) && z 1 7 && (List.range 8).all (fun i => decide (beAt b (8 + i) 1 ≤ 6))
  else if r.ty = 0x0202 then
    n == 16 && decide (beAt b 0 1 < 64) && decide (beAt b 1 1 < 16) && decide (beAt b 2 1 < 4) && z 3 1 && z 12 4
  else if r.ty = 0x0203 then n == 8 + 64 * leAt b 4 4 && decide (beAt b 0 1 < 64) && decide (beAt b 1 1 < 16)
  else false

/-- What must be unique among the records of a section: a unit of its type, or a table (R74, R75). -/
def BRec.unit (r : BRec) : Option (Nat × Nat) :=
  if r.ty = 0x0202 then some (r.ty, beAt r.body 0 2)
  else if r.ty = 0x0105 ∨ r.ty = 0x0201 ∨ r.ty = 0x0203 then none
  else some (r.ty, beAt r.body 0 1)

/-- Step 14 over a section's records in order; `before` are those already passed. -/
def recCheck (plat : Bool) (before : List BRec) : List BRec → Chk
  | [] => none
  | r :: t =>
    let dup := r.unit.isSome && before.any (fun x => x.unit == r.unit)
    let orphan := r.ty == 0x0203 && !(before.any (fun x => x.ty == 0x0202 && beAt x.body 0 2 == beAt r.body 0 2))
    if (if plat then platRecOk r else basinRecOk r) && !dup && !orphan then recCheck plat (before ++ [r]) t else some (0x10, r.at_)

/-- Step 14 of one entry. -/
def sectionCheck (b : List Byte) (e : Entry) : Chk :=
  let r := sectionRecs b e
  firstOf [recCheck (e.kind == 1) [] r.1, r.2.map (fun o => (0x10, o))]

/-! The platform section as data (R74). -/

def toBasin (n : Nat) : BasinId := Fin.ofNat 64 n
def onTy (ty : Nat) (l : List BRec) : List BRec := l.filter (fun r => r.ty == ty)

def macOfRec (r : BRec) : MacRec :=
  ⟨beAt r.body 0 1, beAt r.body 1 1 % 2 == 1, decide (2 ≤ beAt r.body 1 1), beAt r.body 2 1, beAt r.body 3 1,
   toBasin (beAt r.body 4 1), BitVec.ofNat 8 (beAt r.body 5 1)⟩
def chanOfRec (r : BRec) : ChanRec :=
  ⟨beAt r.body 0 1, toBasin (beAt r.body 1 1), BitVec.ofNat 8 (beAt r.body 2 1),
   (List.range (beAt r.body 3 1)).map (fun i =>
     ⟨toBasin (beAt r.body (8 + 8 * i) 1), leAt r.body (10 + 8 * i) 2, leAt r.body (12 + 8 * i) 2⟩)⟩

/-- A platform section from its records. -/
def platOf (l : List BRec) : Platform :=
  { macs := (onTy 0x0101 l).map macOfRec
    chans := (onTy 0x0102 l).map chanOfRec
    jets := (onTy 0x0103 l).map (fun r => ⟨beAt r.body 0 1, beAt r.body 1 1 == 1, BitVec.ofNat 64 (leAt r.body 8 8)⟩)
    pairs := (onTy 0x0104 l).map (fun r =>
      ⟨beAt r.body 0 1, beAt r.body 1 1 == 1, beAt r.body 2 1 == 1, BitVec.ofNat 64 (leAt r.body 8 8)⟩)
    srcs := (onTy 0x0105 l).map (fun r =>
      ⟨leAt r.body 0 2, leAt r.body 2 2, toBasin (beAt r.body 4 1), worldOf (beAt r.body 5 1), Fin.ofNat 32 (beAt r.body 6 1)⟩)
    basins := (onTy 0x0106 l).map (fun r =>
      ⟨toBasin (beAt r.body 0 1), beAt r.body 1 1 == 1, leAt r.body 4 4, leAt r.body 8 4, digestOf (part r.body 16 48)⟩)
    mgs := (onTy 0x0107 l).map (fun r => ⟨beAt r.body 0 1, worldOf (beAt r.body 1 1), toBasin (beAt r.body 2 1)⟩)
    links := (onTy 0x0108 l).map (fun r => beAt r.body 0 1) }

/-- A basin is present on a platform (R74). -/
def Platform.has (p : Platform) (b : BasinId) : Bool := b == 0 || p.basins.any (fun r => r.basin == b && r.present)
def Platform.chan (p : Platform) (c : Nat) : Option ChanRec := p.chans.find? (fun r => r.ch == c)
def ChanRec.holds (r : ChanRec) (b : BasinId) : Bool := r.members.any (fun m => m.basin == b)
/-- Jet `j` is a working one (R74). -/
def Platform.working (p : Platform) (j : Nat) : Bool := !(p.jets.any (fun r => r.idx == j && r.spare))
def Platform.jetMask (p : Platform) (j : Nat) : BitVec 64 := ((p.jets.find? (fun r => r.idx == j)).map (·.basins)).getD (BitVec.allOnes 64)
/-- The mask and S_OK of a pair (R74). -/
def Platform.pairMask (p : Platform) (i : Nat) : BitVec 64 := ((p.pairs.find? (fun r => r.idx == i)).map (·.basins)).getD 1
def Platform.pairSok (p : Platform) (i : Nat) : Bool := ((p.pairs.find? (fun r => r.idx == i)).map (·.sok)).getD true

/-- Step 15 (R30). -/
def Platform.lanesCheck (p : Platform) (l : List BRec) : Chk :=
  firstOf ((onTy 0x0101 l).map (fun r =>
    let m := macOfRec r
    let ok := (m.width == 1 || m.width == 2 || m.width == 4 || m.width == 8) && m.base % m.width == 0
      && decide (m.base + m.width ≤ 32)
      && !(p.macs.any (fun x => x.bound && x.idx != m.idx && decide (x.base < m.base + m.width) && decide (m.base < x.base + x.width)))
    need (!m.bound || ok) 0x11 r.at_))

/-- Two ranges, as first and length, share no number. -/
def apart (a b : Nat × Nat) : Bool := !(overlap a b)

/-- A CHANNEL record's part of step 16. -/
def Platform.chanOk (p : Platform) (c : ChanRec) : Bool :=
  p.has c.owner && c.holds c.owner && c.members.all (fun m => p.has m.basin && decide (m.baseRow + m.rows ≤ 4096)
    && (List.range 10).any (fun j => p.working j && bitAt (p.jetMask j) m.basin.val))
    && (List.range c.members.length).all (fun i => (List.range i).all (fun j =>
      match c.members[i]?, c.members[j]? with
      | some a, some b => apart (a.baseRow, a.rows) (b.baseRow, b.rows)
      | _, _ => true))

/-- Step 16. -/
def Platform.allotCheck (p : Platform) (l : List BRec) (secs : List Entry) : Chk :=
  firstOf (l.map (fun r =>
    let ok :=
      if r.ty = 0x0101 then
        let m := macOfRec r
        !m.bound || (p.has m.owner && decide (m.channels ≠ 0) && (List.range 8).all (fun c =>
          !(bitAt m.channels c) || (p.chan c).any (fun x => x.holds m.owner)))
      else if r.ty = 0x0102 then p.chanOk (chanOfRec r)
      else if r.ty = 0x0105 then
        let first := leAt r.body 0 2
        let n := leAt r.body 2 2
        let core := beAt r.body 6 1
        p.has (toBasin (beAt r.body 4 1)) && decide (first + n ≤ 1024)
          && (onTy 0x0105 l).all (fun x => x.at_ == r.at_ || apart (first, n) (leAt x.body 0 2, leAt x.body 2 2))
          && bitAt (p.pairMask (core / 2)) (beAt r.body 4 1) && (beAt r.body 5 1 == 0 || p.pairSok (core / 2))
      else if r.ty = 0x0107 then p.has (toBasin (beAt r.body 2 1))
      else true
    need ok 0x12 r.at_)
  ++ secs.map (fun e => need (e.kind == 1 || p.has (toBasin e.basin)) 0x12 e.at_))

/-- Steps 17 and 18, which concern the file as a whole. -/
def Platform.countCheck (p : Platform) : Chk :=
  let jets := ((List.range 10).filter (fun j => p.working j)).length
  let present := p.basins.filter (fun r => r.present || r.basin == 0)
  firstOf [need (decide (8 ≤ jets)) 0x13 0,
    need (decide ((present.map (·.saQuota)).sum ≤ 1048576) && decide ((present.map (·.scQuota)).sum ≤ 262144)) 0x14 0]

/-- Step 19. -/
def Platform.failoverCheck (p : Platform) (l : List BRec) : Chk :=
  firstOf (((onTy 0x0102 l).map (fun r =>
    let c := chanOfRec r
    need ((List.range 8).all (fun x => !(bitAt c.failover x) ||
      (x != c.ch && (p.chan x).any (fun y => c.members.all (fun m => y.holds m.basin))
        && !(p.links.any (fun k => k + 1 == x))))) 0x15 r.at_))
  ++ ((onTy 0x0108 l).map (fun r =>
    let c := beAt r.body 0 1
    need (match p.chan c, p.chan (c + 1) with
      | some a, some b => a.owner == b.owner && a.members.all (fun m => b.holds m.basin) && b.members.all (fun m => a.holds m.basin)
          && decide (b.failover = 0) && !(p.macs.any (fun m => m.bound && bitAt m.channels (c + 1)))
      | none, none => !(p.macs.any (fun m => m.bound && bitAt m.channels (c + 1)))
      | _, _ => false) 0x15 r.at_)))

/-! Basin sections as data (R75, R76). -/

/-- The table that a TABLE record describes, with the rows that ROWS records give it. -/
def tableOf (l : List BRec) (r : BRec) : TableDef :=
  let rows := (onTy 0x0203 l).filter (fun x => beAt x.body 0 2 == beAt r.body 0 2)
  let kind : TableKind := match beAt r.body 2 1 with
    | 0 => .exact
    | 1 => .ternary
    | 2 => .direct
    | _ => .graph
  { tier := beAt r.body 0 1, id := beAt r.body 1 1, kind := kind, keyBits := leAt r.body 4 2, entryBytes := leAt r.body 6 2,
    baseRow := leAt r.body 8 2, rows := leAt r.body 10 2,
    data := rows.foldl (fun d x => (List.range (leAt x.body 4 4)).foldl (fun d i =>
      sparsePut (List.replicate 64 0) (leAt x.body 2 2 + i) (part x.body (8 + 64 * i) 64) d) d) [] }

/-- A basin's configuration from its section. -/
def cfgOf (e : Entry) (l : List BRec) : BasinCfg :=
  { basin := toBasin e.basin, generation := e.gen,
    chains := (onTy 0x0201 l).map (fun r => (beAt r.body 0 1, (List.range 8).map (fun i => beAt r.body (8 + i) 1))),
    tables := (onTy 0x0202 l).map (tableOf l) }

/-- The function of a tier under a configuration: what its channel's owner gives that slot. -/
def tierFunc (p : Platform) (cs : List BasinCfg) (t : Nat) : Nat :=
  match p.chan (t / 8) with
  | none => 0
  | some c =>
    match (cs.find? (fun g => g.basin == c.owner)).bind (fun g => g.chains.find? (fun x => x.1 == t / 8)) with
    | some x => (x.2[t % 8]?).getD 0
    | none => 0

/-- The function codes of a channel in visiting order, NONE left out; those of both of a linked pair for its even one. -/
def chainCodes (p : Platform) (cs : List BasinCfg) (c : Nat) : List Nat :=
  ((List.range (if p.links.contains c then 16 else 8)).map (fun i => tierFunc p cs (8 * c + i))).filter (fun f => f != 0)

/-- R76: the groups P, K, A, V, E, M, each non-empty, in order. -/
def chainOk (f : List Nat) : Bool :=
  [1, 2, 3, 4, 5, 6].all (fun k => f.contains k) && (f.zip f.tail).all (fun x => decide (x.1 ≤ x.2))

/-- Step 20 of a section. -/
def ownCheck (p : Platform) (e : Entry) (l : List BRec) : Chk :=
  firstOf (l.map (fun r =>
    need (if r.ty = 0x0201 then (p.chan (beAt r.body 0 1)).any (fun c => c.owner == toBasin e.basin)
      else (p.chan (beAt r.body 0 1 / 8)).any (fun c => c.holds (toBasin e.basin))) 0x18 r.at_))

/-- Step 21 of a section: each owned channel has the TIER_FUNC records it needs, and a valid chain. -/
def chainCheck (p : Platform) (cs : List BasinCfg) (e : Entry) (l : List BRec) : Chk :=
  let mine := p.chans.filter (fun c => c.owner == toBasin e.basin)
  let many := fun (c : Nat) => ((onTy 0x0201 l).filter (fun r => beAt r.body 0 1 == c)).length
  let at_ := fun (c : Nat) => (((onTy 0x0201 l).find? (fun r => beAt r.body 0 1 == c)).map (·.at_)).getD e.at_
  firstOf (mine.map (fun c =>
    let odd := c.ch % 2 == 1 && p.links.contains (c.ch - 1)
    need (many c.ch == 1 && (odd || chainOk (chainCodes p cs c.ch))) 0x19 (at_ c.ch)))

/-- The rest of step 21: every channel with a bound MAC has a chain after loading. -/
def boundCheck (p : Platform) (cs : List BasinCfg) : Chk :=
  need ((List.range 8).all (fun c => !(p.macs.any (fun m => m.bound && bitAt m.channels c)) || !(chainCodes p cs c).isEmpty)) 0x19 0

/-- The member range of a basin on a tier. -/
def memberRange (p : Platform) (b : BasinId) (t : Nat) : Nat × Nat :=
  match (p.chan (t / 8)).bind (fun c => c.members.find? (fun m => m.basin == b)) with
  | some m => (m.baseRow, m.rows)
  | none => (0, 0)

/-- Step 22 of a section. -/
def boundsCheck (p : Platform) (e : Entry) (l : List BRec) : Chk :=
  firstOf (l.map (fun r =>
    need (if r.ty = 0x0202 then
        let m := memberRange p (toBasin e.basin) (beAt r.body 0 1)
        let base := leAt r.body 8 2
        let n := leAt r.body 10 2
        decide (m.1 ≤ base) && decide (base + n ≤ m.1 + m.2)
          && (onTy 0x0202 l).all (fun x => x.at_ == r.at_ || beAt x.body 0 1 != beAt r.body 0 1
            || apart (base, n) (leAt x.body 8 2, leAt x.body 10 2))
      else if r.ty = 0x0203 then
        (onTy 0x0202 l).any (fun x => beAt x.body 0 2 == beAt r.body 0 2 && decide (leAt r.body 2 2 + leAt r.body 4 4 ≤ leAt x.body 10 2))
      else true) 0x1A r.at_))

/-- Step 23 of a section: no tier function changes where another member has a table. -/
def inUseCheck (p : Platform) (now : List BasinCfg) (e : Entry) (l : List BRec) : Chk :=
  firstOf ((onTy 0x0201 l).map (fun r =>
    need ((List.range 8).all (fun i =>
      let t := 8 * beAt r.body 0 1 + i
      beAt r.body (8 + i) 1 == tierFunc p now t
        || !(now.any (fun g => g.basin != toBasin e.basin && g.tables.any (fun x => x.tier == t))))) 0x1B r.at_))

/-- Step 24 of a section (R76). -/
def tableCheck (p : Platform) (cs : List BasinCfg) (l : List BRec) : Chk :=
  firstOf ((onTy 0x0202 l).map (fun r =>
    let t := tableOf [] r
    let f := tierFunc p cs t.tier
    let k := t.keyBits / 8
    let sizes := match t.kind with
      | .exact => t.keyBits % 8 == 0 && decide (k + t.entryBytes ≤ 64)
      | .ternary => t.keyBits % 8 == 0 && decide (2 * k + t.entryBytes ≤ 64)
      | .direct => decide (t.keyBits ≤ 12) && t.rows == 2 ^ t.keyBits
      | .graph => t.keyBits % 8 == 0 && f == fnP && t.entryBytes == 64
    need (sizes && f != 0 && t.entryBytes % 8 == 0 && decide (8 ≤ t.entryBytes ∧ t.entryBytes ≤ 64)) 0x1C r.at_))

end Sys2Proof.Machine
end

