-- ==== Sys2Proof/Machine/CoreOps.lean ====
section
/-! DEFINITION. Starting, resetting, stopping, restarting and putting to sleep a core or a locked pair
(18_bringup_power.md R336, R344, R345; 12_memory_system.md R245, R246; 17_fault_tolerance.md R319-R321), fencing of
Pool slices (R326) and conversion of Pool ways (12_memory_system.md R244). -/

namespace Sys2Proof.Machine

/-- The cores of the unit a core stands for: both of a locked pair (R321). -/
def State.unitCores (s : State) (c : CoreId) : List CoreId :=
  if s.locked (pairOf c) then [evenCore (pairOf c), oddCore (pairOf c)] else [c]

/-- The readiness bits of a unit's cores (R27). -/
def State.setUnitReady (s : State) (c : CoreId) (v : Bool) : State :=
  foldL (s.unitCores c) (fun o t => t.setReady (Rdy.core o.val) v) s

/-- An open transaction dropped with nothing reported: its write set leaves with EVICT, its pins fall (R246, R262). -/
def State.txDrop (s : State) (c : CoreId) : State :=
  if (s.core c).txn.isNone then s
  else
    let ws := (s.core c).l2.filter (fun l => l.wmark)
    let s := foldL ws (fun l u => u.l2Discard c l) s
    let s := s.modCore c (fun k =>
      { k with txn := none, l2 := k.l2.map (fun l => { l with rmark := false, wmark := false }) })
    s.unpinAll c (s.core c).txSeq

/-- The held lines of a locked pair leave with EVICT, so that the home keeps the values of the last commit (R246,
R319). -/
def State.dropHeld (s : State) (c : CoreId) : State :=
  foldL ((s.core c).l2.filter (fun l => l.held)) (fun l u => u.l2Discard c l) s

/-- Every line leaves a core's L2 and L1s, dirty ones written to their home slices (R246). -/
def State.l2Flush (s : State) (c : CoreId) : State := foldL (s.core c).l2 (fun l u => u.l2Leave c l) s

/-- A core's caches cleaned as for a core reset, or for a pair reset of a locked pair (R246). -/
def State.cleanCaches (s : State) (c : CoreId) : State := ((s.txDrop c).dropHeld c).l2Flush c

/-- A core with nothing in flight and the given registers: the merging buffer is discarded and the L1s are empty. -/
def Core.fresh (k : Core) (a : CoreArch) : Core :=
  { k with arch := a, bundle := Bundle.empty, pend := [], ctl := [], longs := [], txn := none, mb := [], l1d := [], l1i := [], undo := none,
           fetched := [], waiting := none }

/-- R336: a core in reset starts at the address recorded for it, or stays in reset while there is none. A locked pair
first tests its comparator (R320). -/
def State.startCore (s : State) (c : CoreId) : State :=
  match (s.core c).start with
  | none => s.setCrnState c 0
  | some a =>
    let s := s.modArch c (fun r => { r with pc := a })
    if s.locked (pairOf c) then
      let s := (s.setCrnState c 3).modPair (pairOf c) (fun p => { p with phase := 3 })
      (s.fset (Blk.crn (pairOf c).val) Reg.CRN_STATUS_TEST_OK 0).setUnitReady c false
    else (s.setCrnState c 1).traceCheck c

/-- The stream of a core that is reset or taken out of service ends without a packet; the next one begins with ALIGN and
SYNC (notes/assumptions/37.md). -/
def State.traceCut (s : State) (c : CoreId) : State := s.modTrace c (fun u => { u.flush with live := false })

/-- R246, R278, R336: a core reset, of both cores for a locked pair, followed by the start. -/
def State.coreReset (s : State) (c : CoreId) : State :=
  let s := (s.traceCut c).cleanCaches c
  let n := s.free
  let s := (s.modCore c (fun k => k.fresh (freeArch n CoreArch.reset))).draw freeArchSize
  s.startCore c

/-- R321 OUT: clocks held, caches cleaned, readiness bits clear, the register state lost. -/
def State.coreOut (s : State) (c : CoreId) : State :=
  let s := (s.traceCut c).cleanCaches c
  let n := s.free
  let s := (s.modCore c (fun k => k.fresh (freeArch n CoreArch.reset))).draw freeArchSize
  (s.setUnitReady c false).setCrnState c 4

/-! Restart of a locked pair (R319). -/

/-- R319, detection and reset: both clocks are held, an open transaction is lost (R263), the merging buffers are
discarded, the L1s invalidated, held lines leave with EVICT. The basin carried is kept for the record. -/
def State.mismatch (s : State) (p : Fin 16) : State :=
  let c := evenCore p
  let s := s.bump (Blk.crn p.val) Ctr.CRN_MISMATCHES
  let s := if s.crnState c = 2 then s
    else s.modPair p (fun x => { x with restartBasin := basinOf (s.core c).arch, restartWorld := (s.core c).arch.world })
  let s := ((s.txAbort c 13 0).dropHeld c).traceSleep c 5
  let s := s.modCore c (fun k => { k.fresh k.arch with fetched := k.fetched })
  (s.setCrnState c 2).fset (Blk.crn p.val) Reg.CRN_INJECT_FLIP 0

/-- R319, state reload: dirty lines go to their home slices, every line is invalidated, the registers come from the
active checkpoint, predictors clear, and the pair resumes. -/
def State.restartDone (s : State) (p : Fin 16) : State :=
  let c := evenCore p
  let s := s.l2Flush c
  let x := s.pair p
  let s := s.modCore c (fun k => { k.fresh (x.ckpt.getD k.arch) with pred := [], fetched := k.fetched })
  let s := ((s.setCrnState c 1).traceCheck c).fset (Blk.crn p.val) Reg.CRN_EVENT_MISMATCH 1
  let s := s.fset (Blk.crn p.val) Reg.CRN_EVENT_RESTARTED 1
  s.errRecord { cls := 1, kind := 2, index := p.val, basin := x.restartBasin, world := x.restartWorld, addr := 0, info := 0 }

/-! Walks of a core's L2 (R245). -/

/-- TRN_L2OP: the walk takes every line as the command finds it, after the cairn commit that a held line asks for
(R317); write-set lines are not written, and OP 2 aborts a transaction whose marked lines it removes (R257). The walk's
place in time: DESIGN CHOICE, notes/assumptions/24.md. -/
def State.l2Walk (s : State) (c : CoreId) (op : Nat) : State :=
  let c := s.leadOf c
  let s := if s.locked (pairOf c) && (s.core c).l2.any (fun l => l.held) then
      (State.forceCommit (pairOf c) s).bump (Blk.crn (pairOf c).val) Ctr.CRN_FORCED else s
  if op = 1 then
    foldL ((s.core c).l2.filter (fun l => decide (l.st = .M) && !l.wmark)) (fun l t =>
      let t := t.poolWrite (t.homeOf l.line) l.line l.data l.poison
      (t.l2Mod c l.line (fun x => { x with st := .E }))) s
  else
    let s := if (s.core c).l2.any (fun l => l.rmark || l.wmark) then s.txAbort c 3 0 else s
    s.l2Flush c

/-! Sleep (R344, R345). -/

/-- The number of 8-byte words of a save area (R345): 2 KiB. -/
def saveWords : Nat := 256

/-- The address of a core's save area (R345). -/
def State.saveArea (s : State) (c : CoreId) : Nat := s.fget Blk.PWR Reg.PWR_SAVE_BASE * 2 ^ 16 + c.val * 0x800

/-- The bytes the cairn writes into a save area; their layout is not given, so they are free values. DESIGN CHOICE,
notes/assumptions/8.md. -/
def saveBytes (n : Nat) : List Byte :=
  ((List.range saveWords).map (fun i => leBytes 8 (Config.freeWord (n + i)).toNat)).flatten

/-- Whether every line of a core's save area is served (R345). -/
def State.saveServed (s : State) (c : CoreId) : Bool :=
  (List.range 32).all (fun i => s.served (s.saveArea c + 64 * i))

/-- R344, DORMANT entry: the checkpoint goes to the save area, the caches are cleaned (R246), the registers are lost
with the domain. An area that is not served keeps nothing. -/
def State.dormantEnter (s : State) (c : CoreId) : State :=
  let n := s.free
  let s := s.draw saveWords
  let k := (s.core c).settled.drained
  let s := if s.saveServed c then
      (s.cohWrite (s.saveArea c) (saveBytes n)).modCore c (fun x => { x with saved := some (k.arch, n) })
    else s.modCore c (fun x => { x with saved := none })
  let s := s.cleanCaches c
  let m := s.free
  (s.modCore c (fun x => { x.fresh (freeArch m CoreArch.reset) with tlb := [], pred := [], deep := true })).draw freeArchSize

/-- R344, R345, DORMANT exit: the checkpoint is reloaded where the save area still holds it; an area that is not served
or holds poison loses the wake, and the core starts under R336. Bytes changed meanwhile give an unknown checkpoint. -/
def State.dormantExit (s : State) (c : CoreId) : State :=
  let s := s.modCore c (fun k => { k with deep := false })
  let s := s.bump Blk.PWR Ctr.PWR_WAKES_DORMANT
  let lost : State → State := fun t => (t.fset Blk.PWR Reg.PWR_EVENT_WAKE_LOST 1).coreReset c
  match (s.core c).saved with
  | none => lost s
  | some (a, n) =>
    if !(s.saveServed c) then lost s
    else
      let r := s.cohRead (s.saveArea c) (8 * saveWords)
      if r.2.2 then lost r.1
      else if r.2.1 = saveBytes n then r.1.modCore c (fun k => { k.fresh a with saved := none })
      else
        let m := r.1.free
        (r.1.modCore c (fun k => { k.fresh (freeArch m a) with saved := none })).draw freeArchSize

/-! Pool ways as SRAM (R244). -/

/-- SRAM bytes of a range of the window dropped: what they read as next is undefined. -/
def dropSram (lo hi : Nat) (l : List (Nat × Byte)) : List (Nat × Byte) :=
  l.filter (fun e => decide (e.1 < lo) || decide (hi ≤ e.1))

/-- Every L1 and L2 copy of the lines of an address range invalidated without write-back; a held one after its pair's
commit (R317). -/
def State.dropCopies (s : State) (lo hi : Nat) : State :=
  foldL allCores (fun c t =>
    foldL ((t.core c).l2.filter (fun l => decide (lo ≤ l.line * 64) && decide (l.line * 64 < hi))) (fun l u =>
      let u := if l.held then (State.forceCommit (pairOf c) u).bump (Blk.crn (pairOf c).val) Ctr.CRN_FORCED else u
      let u := if l.rmark || l.wmark then u.txAbort c 2 0 else u
      match u.l2Find c l.line with
      | some x => u.l2Discard c x
      | none => u) t) s

/-- R244: WAYS of a slice changed to `w`. -/
def State.setWays (s : State) (h : SliceId) (w : Nat) : State :=
  let b := Blk.pol h.val
  let old := s.fget b Reg.POL_SRAM_WAYS
  let base := h.val * 0x200000
  if old < w then
    let gone := (s.slice h).lines.filter (fun l => decide (16 - w ≤ l.way))
    let s := foldL gone (fun l t => (t.poolClean h l).poolRemove h l.line) s
    let n := s.free
    let s := (s.modSlice h (fun x => { x with sramGen := n })).draw 0x40000
    (s.fset b Reg.POL_SRAM_WAYS w).fset b Reg.POL_SRAM_BUSY 1
  else if w < old then
    let s := s.dropCopies (sramBase + base + w * 0x20000) (sramBase + base + old * 0x20000)
    let s := { s with sram := dropSram (base + w * 0x20000) (base + old * 0x20000) s.sram }
    s.fset b Reg.POL_SRAM_WAYS w
  else s

/-! Fencing of a Pool slice (R326). -/

/-- Step 1: STATE fencing, the readiness bit clears. -/
def State.fenceStart (s : State) (h : SliceId) : State :=
  if s.fget (Blk.pol h.val) Reg.POL_FENCE_STATE = 0 then
    (s.fset (Blk.pol h.val) Reg.POL_FENCE_STATE 1).setReady (Rdy.pool h.val) false
  else s

/-- The substitute of a slice: the first of its chain that is not fenced; none where all are. -/
def State.substOf (s : State) (h : SliceId) : Option SliceId :=
  ([16, 8, 4, 2, 1].map (fun x => (Fin.ofNat 32 (h.val ^^^ x) : SliceId))).find? (fun g =>
    decide (s.fget (Blk.pol g.val) Reg.POL_FENCE_STATE ≠ 2))

/-- Steps 2 to 5 of R326: every L2 gives up the slice's lines, the slice writes its dirty lines to the cistern, the
home moves to the substitute, the SRAM contents are lost and the record is written; with the chain fenced the device
resets with cause POOL_CHAIN. -/
def State.fenceEnd (s : State) (h : SliceId) : State :=
  let s := foldL allCores (fun c t =>
    let mine := fun (l : L2Line) => decide (t.homeOf l.line = h)
    let t := if (t.core c).l2.any (fun l => mine l && l.held) then (State.forceCommit (pairOf c) t).bump (Blk.crn (pairOf c).val) Ctr.CRN_FORCED else t
    let t := if (t.core c).l2.any (fun l => mine l && (l.rmark || l.wmark)) then t.txAbort c 3 0 else t
    foldL ((t.core c).l2.filter mine) (fun l u => u.l2Leave c l) t) s
  let s := foldL (s.slice h).lines (fun l t => t.poolClean h l) s
  match s.substOf h with
  | none => s.deviceReset 7
  | some g =>
    let s := s.modSlice h (fun x => { x with lines := [], dir := [] })
    let s := { s with sram := dropSram (h.val * 0x200000) ((h.val + 1) * 0x200000) s.sram }
    let s := (s.fset (Blk.pol h.val) Reg.POL_FENCE_SUBST g.val).fset (Blk.pol h.val) Reg.POL_FENCE_STATE 2
    s.devError 10 3 h.val 0 0 0

end Sys2Proof.Machine
end

