-- ==== Sys2Proof/Machine/RxOps.lean ====
section
/-! DEFINITION. Received frames (02_ports_and_lanes.md R38, R40-R42, R50, R389; 05_cascade_fabric.md R85, R100;
07_weirs.md R139, R141; 09_ridge_links.md R177): the checks at the end of reception and where a frame goes from there. -/

namespace Sys2Proof.Machine

/-- What a received frame is to the MAC (R40, R52). -/
inductive RxKind where
  | control
  | spp
  | mkpdu
  | data
  deriving DecidableEq, Repr

/-- The kind of a received frame. On a client or management MAC, SPP frames and MKPDUs are data (R41, R52). -/
def State.rxKind (s : State) (m : MacId) (b : List Byte) : RxKind :=
  let line := decide (m.val < 32) && s.isLine m.val
  if beAt b 12 2 = 0x8808 then .control
  else if line ∧ beAt b 0 6 = s.fget Blk.SPP Reg.SPP_DA_DA ∧ etherType b = s.fget Blk.SPP Reg.SPP_ETYPE_ETYPE then .spp
  else if line ∧ etherType b = 0x888E then .mkpdu
  else .data

/-- R38: the counter of the first condition that discards a frame. -/
def State.rxDiscard (s : State) (m : MacId) (b : List Byte) (pcsErr : Bool) : Option Fld :=
  let n := b.length
  if pcsErr then some Ctr.MAC_RX_PCSERR
  else if n < 64 then some Ctr.MAC_RX_RUNT
  else if s.mf m Reg.MAC_CTRL_MAXLEN < n then some Ctr.MAC_RX_LONG
  else if fcsOf (b.take (n - 4)) ≠ b.drop (n - 4) then some Ctr.MAC_RX_FCS
  else none

/-! MAC control frames (R42). -/

/-- The priorities that a PAUSE or PFC frame names, each with its quanta. -/
def State.fcNames (s : State) (m : MacId) (b : List Byte) : List (Nat × Nat) :=
  if beAt b 14 2 = 1 then (List.range 8).map (fun p => (p, beAt b 16 2))
  else (List.range 8).filterMap (fun p =>
    if bits (beAt b 17 1) p p = 1 ∧ bits (s.mf m Reg.MAC_FC_RX_EN) p p = 1 then some (p, beAt b (18 + 2 * p) 2) else none)

/-- RX_PAUSED after a flow-control frame: nonzero quanta pause, 0 releases. -/
def State.fcApply (s : State) (m : MacId) (b : List Byte) : State :=
  let v := (s.fcNames m b).foldl (fun (v : BitVec 8) e => setBit v e.1 (decide (e.2 ≠ 0))) (BitVec.ofNat 8 (s.mf m Reg.MAC_FC_STATE_RX_PAUSED))
  ((s.mbump m Ctr.MAC_RX_FC).setMf m Reg.MAC_FC_STATE_RX_PAUSED v.toNat).txStart m

/-- R42: a received MAC control frame, consumed by the MAC. Management ports do not act on PFC (R49). -/
def State.macControl (s : State) (m : MacId) (b : List Byte) : State :=
  let op := beAt b 14 2
  let mode := s.fcMode m
  if op = 1 then (if mode = 1 then s.fcApply m b else s.mbump m Ctr.MAC_FC_WRONGMODE)
  else if op = 0x0101 then (if mode = 2 ∧ m.val < 32 then s.fcApply m b else s.mbump m Ctr.MAC_FC_WRONGMODE)
  else s

/-! Acceptance (R389). -/

/-- The ingress priority of a data frame (R139). -/
def State.ingressPrio (s : State) (p : PortId) (b : List Byte) : Fin 8 :=
  if isTag (beAt b 12 2) then
    let pcp := beAt b 14 1 / 32
    Fin.ofNat 8 (bits (s.fget (Blk.pw p.val) Reg.WER_XPCP_MAP) (3 * pcp + 2) (3 * pcp))
  else Fin.ofNat 8 (s.fget (Blk.pw p.val) Reg.WER_PORT_CTRL_DEF_PRIO)

/-- R141: the account of priority `q` has no room for `n` bytes more. -/
def State.noHeadroom (s : State) (p : PortId) (q : Fin 8) (n : Nat) : Bool :=
  let b := Blk.pw p.val
  s.fcMode (macOf p) != 0 && decide (bits (s.mf (macOf p) Reg.MAC_FC_TX_EN) q.val q.val = 1)
    && decide ((s.fget b (Reg.WER_PFC_TH_XOFF.nth q.val) + s.fget b (Reg.WER_PFC_TH_HEADROOM.nth q.val)) * 1024
      < s.fget b (Reg.WER_ACCT_BYTES.nth q.val) + n)

/-- The free cells that remain once a frame's own are taken (R100). -/
def State.freeAfter (s : State) (n : Nat) : Nat := s.freeCells - cellsFor n

/-- Frames received and accepted (R51). -/
def State.rxCount (s : State) (m : MacId) (n : Nat) : State :=
  (s.mbump m Ctr.MAC_RX_FRAMES).addCtr (Blk.mac m.val) Ctr.MAC_RX_BYTES n

/-- A data frame or MKPDU that its MAC accepts enters the channels: cells taken from bank `bank` on, steered by R86. -/
def State.rxEnter (s : State) (p : PortId) (b : List Byte) (ts : Nat) (bank : Nat) (acct : Option (Fin 8)) : State :=
  match s.pickCells (cellsFor b.length) bank with
  | none => s.bump Blk.SPL Ctr.SPL_DROP_NOBUF
  | some l =>
    let s := s.rxCount (macOf p) b.length
    let s := s.useCells l
    let d := Desc.fresh b.length p (s.isLine p.val) false (s.ownerOf p.val) ts
    let f := Frame.fresh s.frameSeq b d l acct
    let s := { s with frameSeq := s.frameSeq + 1, frames := s.frames ++ [f] }
    let s := match acct with
      | some q => s.acctAdd p q b.length
      | none => s
    s.steerFrame f

/-- A frame that R38 does not discard, on the MAC whose channels it is for: R389, then its place (R40, R52, R85). Frames that
are no data frames are tested against the CTRL limit alone. -/
def State.rxAccept (s : State) (p : PortId) (b : List Byte) (ts : Nat) (bank : Nat) : State :=
  let m := macOf p
  let n := b.length
  let scarce := decide (s.freeAfter n < s.fget Blk.SPL Reg.SPL_RESERVE_CTRL) || decide (s.freeCells < cellsFor n)
  match s.rxKind m b with
  | .control => if scarce then s.bump Blk.SPL Ctr.SPL_DROP_NOBUF else (s.rxCount m n).macControl m b
  | .spp =>
    if scarce then s.bump Blk.SPL Ctr.SPL_DROP_NOBUF
    else (s.rxCount m n).sppReceive p ((b.take (n - 4)).drop (etAt b + 2)) ts
  | .mkpdu => if scarce then s.bump Blk.SPL Ctr.SPL_DROP_NOBUF else s.rxEnter p b ts bank none
  | .data =>
    let q := s.ingressPrio p b
    if s.peerDrop p then s.bump (Blk.mac p.val) Ctr.MACSPP_DROP_PEERDOWN
    else if s.freeAfter n < s.fget Blk.SPL Reg.SPL_RESERVE_DATA ∨ s.freeCells < cellsFor n then s.bump Blk.SPL Ctr.SPL_DROP_NOBUF
    else if s.noHeadroom p q n then s.bump (Blk.pw p.val) Ctr.PW_DROP_HEADROOM
    else s.rxEnter p b ts bank (some q)

/-- R177: a carrier forwards an accepted frame to the borrower; beyond 256 KiB waiting it is dropped in DROP_RIDGE. -/
def State.carryFrame (s : State) (p : PortId) (b : List Byte) (ts : Nat) : State :=
  let l := s.lending p.val
  if 256 * 1024 < s.lentWaiting l.2.2 + b.length then s.bump Blk.RDG0 Ctr.RDG0_DROP_RIDGE
  else s.sendFlits (s.lentFlits l.2.1 l.2.2 0 false ts b)

/-- A frame on a management port: consumed if it is a MAC control frame, otherwise for its DMA (R49, R50). -/
def State.mgAccept (s : State) (m : MacId) (b : List Byte) (ts : Nat) : State :=
  let s := s.rxCount m b.length
  match s.rxKind m b with
  | .control => s.macControl m b
  | _ => s.modMac m (fun k => { k with mgRx := k.mgRx ++ [⟨b, ts, false⟩] })

/-- R38, R389: a received frame ends; `age` is the time since its timestamp point. A PM MAC's frame that has not the cells it
needs lost one during its reception (R100). -/
def State.rxEnd (s : State) (m : MacId) (b : List Byte) (pcsErr : Bool) (age bank : Nat) : State :=
  let ts := to96 (adjTs (s.tb.now - age) (s.mf m Reg.MAC_TS_ADJ_RX_ADJ))
  if h : m.val < 32 then
    let p : PortId := ⟨m.val, h⟩
    if s.freeCells < cellsFor b.length ∧ !(s.carries p.val) then s.bump Blk.SPL Ctr.SPL_DROP_NOBUF
    else
      match s.rxDiscard m b pcsErr with
      | some c => s.mbump m c
      | none =>
        if s.carries p.val then
          (match s.rxKind m b with
           | .control => s.macControl m b
           | _ => s.carryFrame p b ts)
        else s.rxAccept p b ts bank
  else
    match s.rxDiscard m b pcsErr with
    | some c => s.mbump m c
    | none => s.mgAccept m b ts

end Sys2Proof.Machine
end

