-- ==== Sys2Proof/Machine/RidgeLink.lean ====
section
/-! DEFINITION. Ridge links (09_ridge_links.md): training (R168), replay (R170), forwarding (R171), what each kind of
flit brings about at its destination (R173-R178), a link that goes DOWN (R179), and the RDG registers. -/

namespace Sys2Proof.Machine

/-- States of RDG_LSTATUS.STATE. -/
def rlOFF : Nat := 0
def rlDETECT : Nat := 1
def rlEXCHANGE : Nat := 2
def rlEQUALISE : Nat := 3
def rlUP : Nat := 5
def rlMISMATCH : Nat := 6
def rlFLOOR : Nat := 7

def State.rls (s : State) (l : LinkId) : Nat := s.fget (Blk.rdg l.val) Reg.RDG_LSTATUS_STATE
def State.setRls (s : State) (l : LinkId) (n : Nat) : State := s.fset (Blk.rdg l.val) Reg.RDG_LSTATUS_STATE n

/-- Lanes of each link mode (R166). -/
def rlLanes (c : Nat) : Nat := ([0, 1, 2, 1, 4, 2, 4][c]?).getD 0

/-! Replay (R170). -/

/-- Flits that waited for room in the replay buffer, sent as far as it has room. -/
def State.pump (s : State) (l : LinkId) : State :=
  foldL (s.link l).waitq (fun f t => t.linkPut l f) (s.modLink l (fun k => { k with waitq := [] }))

/-- An ACK: every flit up to it leaves the replay buffer. -/
def State.takeAck (s : State) (l : LinkId) (a : BitVec 12) : State :=
  let r := (s.link l).replay
  match r.findIdx? (fun f => f.seq == a) with
  | none => s
  | some i => (s.modLink l (fun k => { k with acked := a, resends := 0, replay := r.drop (i + 1) })).pump l

/-- A LINK flit that names the last SEQ received in order. -/
def State.sendLink (s : State) (l : LinkId) : State :=
  let dst := s.fget (Blk.rdg l.val) Reg.RDG_LSTATUS_NEIGHBOUR
  s.linkPut l ⟨mkHdr 6 dst s.myIndex 0 false false 0 0 0 0, []⟩

/-- The flits of the replay buffer sent again in their order. -/
def State.resend (s : State) (l : LinkId) : State :=
  let fs := (s.link l).replay
  let s := (s.addCtr (Blk.rdg l.val) Ctr.RDG_FLITS_TX fs.length).modLink l (fun k => { k with resends := k.resends + 1 })
  { s with out := (fs.map (fun f => Out.flit l f)).reverse ++ s.out }

/-! The end of a ridge-window access at its issuer (R174). -/

/-- A core whose ridge accesses are all answered has nothing more to undo. -/
def State.ridgeRest (s : State) (c : CoreId) : State :=
  if s.ridgeOpen c then s else s.modCore c (fun k => { k with undo := none })

/-- The bytes that answer one part of a read, put into the long operation that waits for it. -/
def LongOp.answer (o : LongOp) (id part : Nat) (bs : List Byte) : LongOp :=
  if !(o.await.contains id) then o
  else
    let v := o.val.toNat + leNat bs * 2 ^ (8 * part)
    let rest := o.await.filter (fun x => x != id)
    let w := BitVec.ofNat 64 v
    { o with await := rest,
             val := if rest.isEmpty ∧ o.fill.2 then (sext (8 * o.fill.1) w).setWidth 128 else BitVec.ofNat 128 v }

/-- R174: a read answered with its data, or with a STATUS other than 0: a synchronous data abort on its bundle, which of
an injected one only ERRCODE tells (R359). -/
def State.readDone (s : State) (r : RReq) (status : Nat) (data : List Byte) : State :=
  match r.acc.src with
  | .core c =>
    if (s.core c).fetched.any (fun x => x.req == some r.id) then
      (s.modCore c (fun k => { k with fetched := k.fetched.map (fun x =>
        if x.req == some r.id then { x with ans := some (if status = 0 then some (part data 0 r.size) else none) } else x) })).ridgeRest c
    else if status = 0 then
      (s.modCore c (fun k => { k with longs := k.longs.map (fun o => o.answer r.id r.part (part data 0 r.size)) })).ridgeRest c
    else
      (match (s.core c).undo with
       | none => s
       | some u =>
         let s := s.modCore c (fun k =>
           { k with arch := u.arch, pend := u.pend, longs := u.longs, ctl := u.ctl, bn := u.bn, undo := none })
         if u.inject then s.modCore c (fun k => { k with dbg := { k.dbg with errcode := BitVec.ofNat 8 (causeCode .dabort) } })
         else s.raise c (Exc.mk0 .dabort r.va (if r.op = 3 then .amo else .read)) u.arch.pc).ridgeRest c
  | _ => s

/-- A ridge-window access ends with a STATUS (R174). -/
def State.reqDone (s : State) (r : RReq) (status : Nat) (data : List Byte) : State :=
  let s := { s with rreqs := s.rreqs.filter (fun x => x.id != r.id) }
  if r.op = 2 then
    let s := if status = 0 then s else s.ridgeWriteError r.acc (ridgeBase + r.dev * 0x10000000000 + r.addr)
    (match r.acc.src with
     | .core c => s.ridgeRest c
     | _ => s)
  else s.readDone r status data

/-- An RSP flit from this device or for one that cannot be reached: `src` is the device that answers. -/
def State.sendRsp (s : State) (req : Flit) (src status : Nat) (data : List Byte) : State :=
  (s.sendFlit ⟨mkHdr 3 req.src src 0 false false 80 0 0 req.tag,
    BitVec.ofNat 8 status :: List.replicate 15 0 ++ data ++ List.replicate (64 - data.length) 0⟩).1

/-! A link goes DOWN (R179). -/

/-- Flits of a link that is down put at the head of the queues of their new links, in their order. -/
def State.requeue (s : State) (fs : List Flit) : State :=
  let step := fun (r : State × List (Nat × Flit)) (f : Flit) =>
    match r.1.streamLink f with
    | some l => (r.1.noteStream f l, r.2 ++ [(l, f)])
    | none => (r.1.bump Blk.RDG0 Ctr.RDG0_DROP_REROUTE, r.2)
  let r := fs.foldl step (s, [])
  foldL (List.finRange 4) (fun l t =>
    t.modLink l (fun k => { k with waitq := (r.2.filter (fun x => x.1 == l.val)).map (·.2) ++ k.waitq }) |>.pump l) r.1

/-- The MACs borrowed from members that can no longer be reached lose their links (R177). -/
def State.lentEval (s : State) : State :=
  foldL (List.finRange 32) (fun m t =>
    if t.borrows m.val && t.macUp (macOf m) && !(t.present (t.lending m.val).2.1) then t.macDown (macOf m) else t) s

/-- R179, steps 1 to 3: a link leaves UP. -/
def State.rlDown (s : State) (l : LinkId) : State :=
  if s.rls l ≠ rlUP then s
  else
    let b := Blk.rdg l.val
    let before := s
    let k := s.link l
    let fs := k.replay ++ k.waitq
    let mode := s.fget b Reg.RDG_LSTATUS_MODE
    let s := (s.bump b Ctr.RDG_DOWNS).setReady (Rdy.rl l.val) false
    let s := ((s.fset b Reg.RDG_LEVENT_DOWN 1).fset b Reg.RDG_LSTATUS_MODE 0).fset b Reg.RDG_LSTATUS_LANES 0
    let s := (s.setRls l rlOFF).modLink l (fun _ => { RLink.reset with lastMode := mode })
    let s := s.requeue (fs.filter (fun f => flitClass f.ty = 0 || flitClass f.ty = 3))
    let s := foldL (fs.filter (fun f => f.ty = 2 && f.src ≠ s.myIndex)) (fun f t => t.sendRsp f f.dst 1 []) s
    let s := foldL (s.rreqs.filter (fun r => r.link == l.val)) (fun r t => (t.bump Blk.RDG0 Ctr.RDG0_REQ_REFUSED).reqDone r 1 []) s
    (s.sluPresence before).lentEval

/-! Training (R168). -/

/-- Whether a link trains. -/
def State.rlCan (s : State) (l : LinkId) : Bool :=
  s.flag (Blk.rdg l.val) Reg.RDG_LCTRL_ENABLE && s.flag Blk.RDG0 Reg.RDG_GROUP_EN && decide (s.pwr 91 = 0)

/-- Training from its first step, or OFF. -/
def State.rlStart (s : State) (l : LinkId) : State :=
  (s.rlDown l).setRls l (if s.rlCan l then rlDETECT else rlOFF)

/-- The modes both sides can run, best first: in both ABILITY sets, on lanes both detected, at or above both floors. -/
def State.rlModes (s : State) (l : LinkId) (floor : Nat) : List Nat :=
  let k := s.link l
  let n := (bitList ((k.lanes &&& k.peerLanes).setWidth 64)).length
  ((List.range 7).filter (fun c => decide (1 ≤ c) && decide (rlLanes c ≤ n)
    && bitAt k.peerAbility (c - 1) && decide ((s.fget (Blk.rdg l.val) Reg.RDG_LCTRL_ABILITY >>> (c - 1)) % 2 = 1)
    && decide (floor ≤ c) && decide (s.fget (Blk.rdg l.val) Reg.RDG_LCTRL_FLOOR ≤ c))).reverse

/-- CHECK (R168, R179): MISMATCH, FLOOR_FAIL, or UP in the highest mode. -/
def State.rlCheck (s : State) (l : LinkId) (floor : Nat) : State :=
  let b := Blk.rdg l.val
  let k := s.link l
  let fail := fun (n : Nat) => (s.setRls l n).fset b Reg.RDG_LEVENT_MISMATCH 1
  if s.fget Blk.RDG0 Reg.RDG_GROUP_TAG ≠ k.peerTag.toNat ∨ s.myIndex = k.peerIndex.toNat then fail rlMISMATCH
  else
    match s.rlModes l floor with
    | [] => fail rlFLOOR
    | c :: _ =>
      let lanes := (bitList ((k.lanes &&& k.peerLanes).setWidth 64)).take (rlLanes c)
      let s := (((s.setRls l rlUP).fset b Reg.RDG_LSTATUS_MODE c).fset b Reg.RDG_LSTATUS_LANES
        ((lanes.map (fun i => 2 ^ i)).sum)).fset b Reg.RDG_LSTATUS_NEIGHBOUR k.peerIndex.toNat
      let s := (s.setReady (Rdy.rl l.val) true).fset b Reg.RDG_LEVENT_UP 1
      let s := if c < k.lastMode then s.fset b Reg.RDG_LEVENT_DEGRADED 1 else s
      s.modLink l (fun k => { k with lastMode := 0 })

/-! Arrival (R170, R171). -/

/-- R171: a flit for another member goes on, one hop older. -/
def State.forwardFlit (s : State) (f : Flit) : State :=
  if f.hops = 3 then s.bump Blk.RDG0 Ctr.RDG0_DROP_HOPS
  else
    let r := s.sendFlit { f with hdr := mkHdr f.ty f.dst f.src (f.hops + 1) f.isFirst f.isLast f.len 0 0 f.tag }
    if r.2.isNone ∧ f.ty = 2 then r.1.sendRsp f f.dst 1 [] else r.1

/-- A sequenced flit arrives with a good CRC (R170): in order it is delivered by `act` or forwarded; after a gap it is
discarded and the last SEQ in order is named; an older one is a repetition. -/
def State.flitIn (s : State) (l : LinkId) (f : Flit) (act : State → State) : State :=
  if s.rls l ≠ rlUP then s
  else
    let s := s.takeAck l f.ack
    let ahead := f.seq - (s.link l).rxSeq
    if ahead = 1 then
      let s := (s.modLink l (fun k => { k with rxSeq := f.seq })).bump (Blk.rdg l.val) Ctr.RDG_FLITS_RX
      if f.dst = s.myIndex then act s else s.forwardFlit f
    else if ahead.toNat < 2048 ∧ ahead ≠ 0 then s.sendLink l
    else s

/-! FRAME flits (R173, R177). -/

/-- The MAC here that carries for MAC `m` of device `d`. -/
def State.carrierFor (s : State) (d m : Nat) : Option PortId :=
  (List.finRange 32).find? (fun k => s.carries k.val && decide ((s.lending k.val).2 = (d, m)))

/-- A whole frame that has come over the ridge: into the borrower's intake, or into its carrier MAC's queue. -/
def State.lentFrame (s : State) (src : Nat) (tag : BitVec 16) (bytes : List Byte) (bank : Nat) : State :=
  let m := tag.toNat % 32
  let ts := leAt bytes 0 12
  let b := part bytes 16 (leAt bytes 12 2)
  if bitAt tag 8 then
    match s.carrierFor src m with
    | none => s
    | some k =>
      let q : Fin 8 := Fin.ofNat 8 (tag.toNat / 32)
      let f := Frame.fresh s.frameSeq b { Desc.fresh b.length k false false 0 ts with out := some k, prio := q.val } [] none
      ({ s with frameSeq := s.frameSeq + 1, frames := s.frames ++ [{ f with loc := .queue k q, obytes := b, lent := true }] }).weirDrop k
  else
    let p : PortId := Fin.ofNat 32 m
    if s.borrows m && decide ((s.lending m).2.1 = src) && s.macUp (macOf p) then s.rxAccept p b ts bank else s

/-- R173: a FRAME flit at its destination. -/
def State.frameFlit (s : State) (f : Flit) (bank : Nat) : State :=
  let mine := fun (o : ROpen) => o.src == f.src && o.tag == f.tag
  let open_ := s.ropen.find? mine
  let rest := s.ropen.filter (fun o => !(mine o))
  let torn := fun (t : State) => t.bump Blk.RDG0 Ctr.RDG0_DROP_REROUTE
  if f.isFirst then
    let s := if open_.isSome then torn s else s
    if f.isLast then ({ s with ropen := rest }).lentFrame f.src f.tag f.payload bank
    else { s with ropen := rest ++ [⟨f.src, f.tag, f.payload⟩] }
  else
    match open_ with
    | none => torn s
    | some o =>
      let all := o.bytes ++ f.payload
      if f.isLast then ({ s with ropen := rest }).lentFrame f.src f.tag all bank
      else { s with ropen := rest ++ [⟨f.src, f.tag, all⟩] }

/-! REQ flits at the target (R174). -/

/-- A REQ served: its STATUS and the data read. What is not served writes an UNSERVED record (R18) and answers
DATA_ERROR, notes/assumptions/22.md. -/
def State.serveReq (s : State) (l : LinkId) (p : List Byte) : State × Nat × List Byte :=
  let addr := leAt p 0 8 % 2 ^ 46
  let op := beAt p 8 1
  let n := beAt p 9 1
  let acc : Access := { src := .ridge l, world := worldOf (beAt p 10 1 / 128), basin := Fin.ofNat 64 (beAt p 10 1), mbit := false }
  let kind : AccKind := if op = 1 then .read else if op = 2 then .write else .amo
  let fn := BitVec.ofNat 6 (beAt p 12 1)
  let formOk := decide (1 ≤ op ∧ op ≤ 3) && decide (1 ≤ n) && decide (addr % 64 + n ≤ 64)
    && (decide (op ≠ 3) || (amoLegal fn && decide (n = amoSize fn) && decide (addr % n = 0)))
  let refused := fun (t : State) => ((t.bump Blk.RDG0 Ctr.RDG0_REQ_REFUSED, 1, []) : State × Nat × List Byte)
  if s.frozen (.ridge l) then refused s
  else
    match s.guard acc addr n kind with
    | .refuse e => refused (s.freezeMaster acc addr kind e)
    | .ok _ _ _ =>
      if !formOk || decide (cisTop ≤ addr) || !(s.memServed addr) then (s.unservedRecord acc addr, 2, [])
      else if op = 1 then
        let r := s.cohRead addr n
        (r.1, if r.2.2 then 2 else 0, r.2.1)
      else if op = 2 then (s.cohWrite addr (part p 16 n), 0, [])
      else
        let r := s.amoHome true addr fn (BitVec.ofNat 64 (leAt p 16 8)) (BitVec.ofNat 64 (leAt p 24 8))
        (r.1, if r.2.2 then 2 else 0, leBytes n r.2.1.toNat)

/-- A REQ flit at the target, answered with an RSP. -/
def State.reqFlit (s : State) (l : LinkId) (f : Flit) : State :=
  let r := s.serveReq l f.payload
  r.1.sendRsp f s.myIndex r.2.1 r.2.2

/-- An RSP flit at the issuer: it answers the oldest access of its TAG at that device. -/
def State.rspFlit (s : State) (f : Flit) : State :=
  match s.rreqs.find? (fun r => r.tag == f.tag && r.dev == f.src) with
  | none => s
  | some r => s.reqDone r (beAt f.payload 0 1) (part f.payload 16 64)

/-! SLUICE and DOORBELL flits (R175, R176, R178). -/

/-- A Sluice message delivered (R175). -/
def State.sluiceFlit (s : State) (l : LinkId) (f : Flit) : State :=
  let ty := beAt f.payload 0 1
  if 6 ≤ ty ∧ ty ≤ 9 then
    { s with sluIn := s.sluIn ++ [⟨.rl l, some (Fin.ofNat 8 f.src), ty, f.payload.drop 8, s.dtb96⟩] }
  else s

/-- An XOFF change of a borrowed MAC at its carrier (R178, notes/assumptions/29.md). -/
def State.lentXoff (s : State) (f : Flit) : State :=
  let k : PortId := Fin.ofNat 32 (beAt f.payload 1 1)
  if s.carries k.val && decide ((s.lending k.val).2.1 = f.src) then
    (s.modMac (macOf k) (fun x => { x with acct := BitVec.ofNat 8 (beAt f.payload 2 1) })).xoffEval (macOf k)
  else s

/-- The payload of a DOORBELL flit: core, basin and world, value; the spec gives no layout. DESIGN CHOICE,
notes/assumptions/34.md. -/
def doorbellPayload (core : Nat) (a : Access) (value : Nat) : List Byte :=
  [BitVec.ofNat 8 core, BitVec.ofNat 8 (a.basin.val + 128 * worldBit a.world)] ++ leBytes 2 value

/-- R176: a doorbell at its target; a locked pair is T2n (R313). -/
def State.doorbellFlit (s : State) (f : Flit) : State :=
  let c : CoreId := s.leadOf (Fin.ofNat 32 (beAt f.payload 0 1))
  let w := worldOf (beAt f.payload 1 1 / 128)
  let b : BasinId := Fin.ofNat 64 (beAt f.payload 1 1)
  if w = .S ∨ bitAt (s.pair (pairOf c)).basins b.val then
    let q := s.dbq c.val
    let q' : Dbq := if 16 ≤ q.q.length then { q with lost := true }
      else { q with q := q.q ++ [⟨w, f.src, b, BitVec.ofNat 16 (leAt f.payload 2 2)⟩] }
    { s with dbqs := sparsePut ⟨[], false⟩ c.val q' s.dbqs }
  else s.bump Blk.RDG0 Ctr.RDG0_DB_REFUSED

/-! LINK flits and errors (R169, R170). -/

/-- A LINK flit: every flit after the SEQ it names is sent again; the eighth time without progress the link goes DOWN. -/
def State.linkFlit (s : State) (l : LinkId) (f : Flit) : State :=
  if s.rls l ≠ rlUP then s
  else
    let b := Blk.rdg l.val
    let s := ((s.bump b Ctr.RDG_FLITS_RX).bump b Ctr.RDG_RESENDS).takeAck l f.ack
    if (s.link l).replay.isEmpty then s
    else
      let s := s.resend l
      if 8 ≤ (s.link l).resends then s.rlDown l else s

/-- A flit discarded under R169. -/
def State.badFlit (s : State) (l : LinkId) : State :=
  let s := s.bump (Blk.rdg l.val) Ctr.RDG_CRC_ERR
  if s.rls l = rlUP then s.sendLink l else s

/-! Streams (R173). -/

/-- A stream moves to the choice of R171 once none of its flits waits or is unacknowledged and 5 µs have passed. -/
def State.streamMove (s : State) (src dst cls : Nat) (tag : BitVec 16) : State :=
  let same := fun (r : RStream) => r.src == src && r.dst == dst && r.cls == cls && r.tag == tag
  match s.streams.find? same with
  | none => s
  | some r =>
    let held := (s.links.toList.flatMap (fun k => k.replay ++ k.waitq)).any (fun f =>
      f.src == src && f.dst == dst && flitClass f.ty == cls && f.tag == tag)
    if held || decide (s.tb.ticks < r.lastTick + 5000) then s
    else
      match s.route dst tag with
      | some l => { s with streams := s.streams.map (fun x => if same x then { x with link := l } else x) }
      | none => s

/-! Registers. -/

/-- RDG_DB_SEND written (R176). -/
def State.sendDoorbell (s : State) (a : Access) (m v : Word) : State :=
  let d := woVal Reg.RDG_DB_SEND_DEVICE m v
  if d = s.myIndex then s
  else (s.sendFlit ⟨mkHdr 5 d s.myIndex 0 false false 4 0 0 0,
    doorbellPayload (woVal Reg.RDG_DB_SEND_CORE m v) a (woVal Reg.RDG_DB_SEND_VALUE m v)⟩).1

/-- RDG_LCTRL written: training starts anew (R168). -/
def State.wrLctrl (s : State) (l : LinkId) (m v : Word) : State :=
  let b := Blk.rdg l.val
  if s.okField b Reg.RDG_LCTRL_FLOOR m v (fun n => decide (n ≠ 0) && decide (n ≠ 7)) then
    (s.tableWrite b 0x040 m v).rlStart l
  else s

/-- RDG_ROUTE written: links and borrowed MACs follow what can be reached (R171, R175, R177). -/
def State.wrRoute (s : State) (m v : Word) : State :=
  ((s.tableWrite Blk.RDG0 0x008 m v).sluPresence s).lentEval

/-- A lending register written (R177): a MAC whose entry changed starts anew. -/
def State.wrLane (s : State) (off : Nat) (m v : Word) : State :=
  let before := s
  foldL (List.finRange 32) (fun p t =>
    if t.lending p.val = before.lending p.val then t else (t.macRestart (macOf p)).sessEval p) (s.tableWrite Blk.RDG0 off m v)

/-- A write of an RDG block: what RL0 alone has is absent in the others (R9). -/
def State.wrRdg (s : State) (a : Access) (l : LinkId) (off : Nat) (m v : Word) : State :=
  let b := Blk.rdg l.val
  if off = 0x040 then s.wrLctrl l m v
  else if l ≠ 0 then s.tableWrite b off m v
  else if off = 0x000 then (if isS a.world then s.tableWrite b off m v else s)
  else if off = 0x008 then (if isS a.world then s.wrRoute m v else s)
  else if off = 0x010 then s.sendDoorbell a m v
  else if 0x300 ≤ off ∧ off < 0x380 then (if isS a.world then s.wrLane off m v else s)
  else s.tableWrite b off m v

/-- A read of an RDG block: PRESENT, and the oldest doorbell of each core. -/
def State.rdRdg (s : State) (l : LinkId) (off : Nat) : Word :=
  if l = 0 ∧ off = 0x000 then
    s.tableRead Blk.RDG0 0 ||| packFields [(Reg.RDG_GROUP_PRESENT, ((List.range 8).map (fun n => if s.present n then 2 ^ n else 0)).sum)]
  else if l = 0 ∧ 0x200 ≤ off ∧ off < 0x300 then
    let q := s.dbq (s.leadOf (Fin.ofNat 32 ((off - 0x200) / 8))).val
    match q.q with
    | [] => 0
    | d :: _ => packFields [(Reg.RDG_DB_RX_VALID, 1), (Reg.RDG_DB_RX_LOST, if q.lost then 1 else 0), (Reg.RDG_DB_RX_WORLD, worldBit d.world),
        (Reg.RDG_DB_RX_DEVICE, d.device), (Reg.RDG_DB_RX_BASIN, d.basin.val), (Reg.RDG_DB_RX_VALUE, d.value.toNat)]
  else s.tableRead (Blk.rdg l.val) off

/-- The effect of an aligned 8-byte read of an RDG block: a doorbell read goes (R176). -/
def State.rdgTake (s : State) (l : LinkId) (off : Nat) : State :=
  if l = 0 ∧ 0x200 ≤ off ∧ off < 0x300 then
    let c := (s.leadOf (Fin.ofNat 32 ((off - 0x200) / 8))).val
    if (s.dbq c).q.isEmpty then s else { s with dbqs := sparsePut ⟨[], false⟩ c ⟨(s.dbq c).q.tail, false⟩ s.dbqs }
  else s

end Sys2Proof.Machine
end

