-- ==== Sys2Proof/Machine/BitOps.lean ====
section
/-! DEFINITION. Loading a structural bitstream (04_structural_bitstream.md R77-R84) and a boot image (18_bringup_power.md
R338-R341), what the platform section brings into force (R80), and the BIT registers. -/

namespace Sys2Proof.Machine

/-! The steps of R77 on a file. -/

/-- What the checks of R77 take besides the file: the length supplied, whether it is a boot load, and the stage named. -/
structure LoadCtx where
  len : Nat
  boot : Bool
  stage : Option StageId
  deriving DecidableEq, Repr

/-- Where the signature block of a file begins. -/
def sigAt (b : List Byte) : Nat := leAt b 8 4 - sigLen

/-- Steps 2 to 5. -/
def State.headChecks (s : State) (b : List Byte) (len : Nat) : Chk :=
  let total := leAt b 8 4
  firstOf [
    need (part b 0 4 == [0x53, 0x4E, 0x42, 0x53]) 0x02 0,
    need (leAt b 4 2 == 1) 0x03 4, need (decide (leAt b 6 2 < 2)) 0x03 6, need (leAt b 22 2 == 0) 0x03 22, need (leAt b 28 4 == 0) 0x03 28,
    need (decide (total ≤ 67108864) && total == len && decide (128 + sigLen ≤ total) && (total - sigLen) % 64 == 0) 0x04 8,
    need (leAt b 16 4 == 0x3216) 0x05 16, need (beAt b 20 1 == 0xB0 || beAt b 20 1 == 0xFF) 0x05 20,
    need (leAt b 32 8 == 0 || leAt b 32 8 == s.sppId) 0x05 32]

/-- Step 6: the key digest, by KEY_SLOT; the Senury key signs nothing that is loaded from here (R77, R81). -/
def State.keyCheck (s : State) (b : List Byte) : Chk :=
  let o := sigAt b
  let slot := beAt b 21 1
  let d := keyDigest b o
  let reload := !(fileFull b) && fileCount b == 1 && (entriesOf b).any (fun e => e.kind == 2
    && s.plat.basins.any (fun r => r.basin.val == e.basin && decide (r.reloadKey ≠ 0) && decide (r.reloadKey = d)))
  need (sigPad b o && (if slot = 0x80 then reload else s.fuses.slotOk slot d)) 0x06 o

/-- Step 11. -/
def setCheck (b : List Byte) (boot : Bool) (es : List Entry) : Chk :=
  let twice := es.find? (fun e => e.kind == 2 && es.any (fun x => x.kind == 2 && decide (x.num < e.num) && x.basin == e.basin))
  let stray := es.find? (fun e => e.kind == 1 && (!boot || e.num != 0))
  firstOf [need (fileFull b == boot) 0x0B 6,
    need (!boot || es.any (fun e => e.kind == 1)) 0x0B 0,
    (stray.map (fun e => (0x0B, e.at_))),
    (twice.map (fun e => (0x0B, e.at_)))]

/-- The digest of the platform section in force, as its bytes (BIT_PDIG0-5). -/
def State.platDigest (s : State) : List Byte := (List.range 6).flatMap (fun k => leBytes 8 (s.rget Blk.BIT (0x038 + 8 * k)).toNat)

/-- Step 12. -/
def State.digestCheck (s : State) (b : List Byte) (boot : Bool) (es : List Entry) : Chk :=
  let want := match es.find? (fun e => e.kind == 1) with
    | some e => digestBytes (Config.sha384 (part b e.off e.len))
    | none => s.platDigest
  need (part b 40 48 == (if boot then want else s.platDigest)) 0x0C 40

/-- Step 13, for each section of a partial file. -/
def State.genCheck (s : State) (k : Option StageId) (es : List Entry) : Chk :=
  firstOf (es.map (fun e =>
    firstOf [need (decide (s.fget Blk.BIT (genFld (toBasin e.basin)) < e.gen)) 0x0D (e.at_ + 12),
      need (!((List.finRange 64).any (fun x => some x != k && (s.stage x).cfgs.any (fun c => c.basin == toBasin e.basin)
        && decide (s.sst4 x ≤ stPENDING)))) 0x0E e.at_]))

/-- Steps 15 to 24 on the records, with the platform `p` that the file carries or that is in force. -/
def State.semanticChecks (s : State) (b : List Byte) (boot : Bool) (es : List Entry) : Chk :=
  let pr := (((es.find? (fun e => e.kind == 1)).map (fun e => (sectionRecs b e).1))).getD []
  let p := if boot then platOf pr else s.plat
  let secs := (es.filter (fun e => e.kind == 2)).map (fun e => (e, (sectionRecs b e).1))
  let cs := (secs.map (fun x => cfgOf x.1 x.2)).foldl setCfg (if boot then [] else s.cfgNow)
  let each := fun (f : Entry → List BRec → Chk) => firstOf (secs.map (fun x => f x.1 x.2))
  firstOf [
    if boot then p.lanesCheck pr else none,
    p.allotCheck pr es,
    if boot then p.countCheck else none,
    if boot then p.failoverCheck pr else none,
    each (ownCheck p),
    each (chainCheck p cs), boundCheck p cs,
    each (boundsCheck p),
    if boot then none else each (inUseCheck p s.cfgNow),
    each (fun _ l => tableCheck p cs l)]

/-- Steps 2 to 24 of R77. -/
def State.fileChecks (s : State) (b : List Byte) (x : LoadCtx) : Chk :=
  firstOf [s.headChecks b x.len, s.keyCheck b, sigChecks b (sigAt b),
    need (decide (s.fuses.bitSvnMin.toNat ≤ leAt b 24 4)) 0x09 24,
    firstOf [need (decide (1 ≤ fileCount b ∧ fileCount b ≤ 64)) 0x0A 12,
      dirCheck b (sigAt b) (128 + 16 * fileCount b) (entriesOf b),
      setCheck b x.boot (entriesOf b), s.digestCheck b x.boot (entriesOf b),
      if x.boot then none else s.genCheck x.stage (entriesOf b),
      firstOf ((entriesOf b).map (sectionCheck b)),
      s.semanticChecks b x.boot (entriesOf b)]]

/-! A reload (R78, R82). -/

/-- The file read once with the rights of the master that asked for it (R78): its bytes, or the offset of the first that
could not be read. -/
def State.fileRead (s : State) (a : Access) (pa n : Nat) : State × (List Byte ⊕ Nat) :=
  (linePieces pa n).foldl (fun (r : State × (List Byte ⊕ Nat)) p =>
    match r.2 with
    | .inr _ => r
    | .inl l =>
      let q := r.1.dmaRead a p.1 p.2
      match q.2.2 with
      | .ok => (q.1, .inl (l ++ q.2.1))
      | .poison =>
        let bad := (q.1.ncRead (p.1 / 64)).2.2
        let w := ((List.range 8).find? (fun w => bitAt bad w && decide (p.1 % 64 / 8 ≤ w))).getD 0
        (q.1, .inr (max p.1 (p.1 / 64 * 64 + 8 * w) - pa))
      | _ => (q.1, .inr l.length)) (s, .inl [])

/-- A load ends with a code and a FAIL_OFFSET (R84, BIT_STATUS). -/
def State.loadEnd (s : State) (code off : Nat) : State :=
  let s := { s with bitLoad := none }
  let s := (s.fset Blk.BIT Reg.BIT_STATUS_FAIL_OFFSET off).fset Blk.BIT Reg.BIT_STATUS_CODE code
  if code = 0 then (s.fset Blk.BIT Reg.BIT_STATUS_STATE 3).fset Blk.BIT Reg.BIT_EVENT_DONE 1
  else (s.fset Blk.BIT Reg.BIT_STATUS_STATE 4).fset Blk.BIT Reg.BIT_EVENT_REJECTED 1

/-- Storage for `n` rows, row by row (R147): from the die while a row fits there, then from the area. -/
def State.rowsRoom (s : State) (n : Nat) : Option (Nat × Nat) :=
  let die := (s.stages.toList.map (·.die)).sum
  let ext := (s.stages.toList.map (·.ext)).sum
  let d := min n ((8 * 2 ^ 20 - die) / 72)
  if ext + 72 * (n - d) ≤ (s.sluArea).2 then some (72 * d, 72 * (n - d)) else none

/-- Step 25 and the staging (R82): one section of a basin in a stage, and room for the rows that the file gives. -/
def State.stageFile (s : State) (b : List Byte) (k : Option StageId) : State :=
  match k with
  | none => s.loadEnd 0x20 0
  | some k =>
    let cs := (entriesOf b).map (fun e => cfgOf e (sectionRecs b e).1)
    let n := (((entriesOf b).flatMap (fun e => onTy 0x0203 (sectionRecs b e).1)).map (fun r => leAt r.body 4 4)).sum
    let twice := cs.any (fun c => (s.stage k).cfgs.any (fun x => x.basin == c.basin))
    match (if twice ∨ 1048576 < (s.stage k).rowCount + n then none else s.rowsRoom n) with
    | none => s.loadEnd 0x21 0
    | some r =>
      (s.modStage k (fun g => ({ g with cfgs := g.cfgs ++ cs, rowCount := g.rowCount + n } : Stage).addStore r)).loadEnd 0 0

/-- BIT_LOAD_END: the load in progress is read, checked and staged, or rejected (R77, R78, R82). -/
def State.bitLoadEnd (s : State) : State :=
  match s.bitLoad with
  | none => s
  | some q =>
    let r := s.fileRead q.acc q.src q.len
    match r.2 with
    | .inr off => r.1.loadEnd 0x01 off
    | .inl b =>
      let s := r.1
      let k := s.stageFor q.handle q.acc
      match s.fileChecks b ⟨q.len, false, k⟩ with
      | some e => s.loadEnd e.1 e.2
      | none => if s.flag Blk.BIT Reg.BIT_XCTRL_DRYRUN then s.loadEnd 0 0 else s.stageFile b k

/-! The platform section in force (R80, R81). -/

/-- MAC_STATUS, PRT_STATUS and MAXLEN of the MAC records (R30, R31, R38). -/
def State.applyMacs (s : State) (p : Platform) : State :=
  foldL (p.macs.filter (·.bound)) (fun r t =>
    let b := Blk.mac r.idx
    let t := ((t.fset b Reg.MAC_STATUS_ROLE (if r.line then 1 else 0)).fset b Reg.MAC_STATUS_BASE_LANE r.base).fset b
      Reg.MAC_STATUS_WIDTH r.width
    let t := if r.line then t.fset b Reg.MAC_CTRL_MAXLEN 9248 else t
    foldN r.width (fun i u => (u.fset (Blk.prt (r.base + i)) Reg.PRT_STATUS_BOUND 1).fset (Blk.prt (r.base + i)) Reg.PRT_STATUS_MAC r.idx) t) s

/-- Modes, basins and S_OK of the pairs (R74). -/
def State.applyPairs (s : State) (p : Platform) : State :=
  foldL (List.finRange 16) (fun i t =>
    let lock := p.pairs.any (fun r => r.idx == i.val && r.locked)
    (t.fset (Blk.crn i.val) Reg.CRN_STATUS_MODE (if lock then 1 else 0)).modPair i (fun x =>
      { x with basins := p.pairMask i.val, sok := p.pairSok i.val })) s

/-- Owner, world and initial target of the global sources, but for the guards' (R302). -/
def State.applySources (s : State) (p : Platform) : State :=
  foldL p.srcs (fun r t => foldN r.count (fun i u =>
    let n := r.first + i
    if globalSrc n && !(guardSrc n) then u.setSrc n { u.src n with owner := r.owner, world := r.world, target := r.target } else u) t) s

/-- Places of the jets (R109, R128). -/
def State.applyJets (s : State) (p : Platform) : State :=
  foldL (List.finRange 10) (fun j t =>
    if p.working j.val then (t.setJst j 1).fset (Blk.jet j.val) Reg.JET_STATUS_PLACE j.val else t.setJst j 2) s

/-- The channels with a chain enter service (R80, step 3). -/
def State.applyChans (s : State) : State :=
  let s := foldL s.plat.chans (fun r t => t.fset (Blk.cas r.ch) Reg.CAS_STATUS_OWNER r.owner.val) s
  foldL (List.finRange 8) (fun c t =>
    if t.headCh c = c ∧ !(chainCodes t.plat t.cfgNow c.val).isEmpty then t.chSet c 1 else t) s

/-- A full bitstream applied (R80): platform, basin sections, readiness; then lanes, MACs and ridge links train (R341). -/
def State.applyFull (s : State) (p : Platform) (digest : List Byte) (cs : List BasinCfg) (svn : Nat) (dflt : Bool) : State :=
  let s := { s with plat := p, cfgNow := cs }
  let s := (((s.applyMacs p).applyPairs p).applySources p).applyJets p
  let s := foldN 6 (fun k t => t.rput Blk.BIT (0x038 + 8 * k) (BitVec.ofNat 64 (leAt digest (8 * k) 8))) s
  let s := foldL cs (fun c t => t.fset Blk.BIT (genFld c.basin) c.generation) s
  let s := (s.fset Blk.BIT Reg.BIT_SVN_LOADED_SVN svn).fset Blk.BIT Reg.BIT_STATUS_DEFAULT (if dflt then 1 else 0)
  let s := ((s.applyChans).setReady Rdy.weirs true).setReady Rdy.platform true
  foldL (List.finRange 4) (fun l t => t.rlStart l) (foldL (List.finRange 34) (fun m t => t.macStart m) s)

/-- The default platform of R81; records it has none of are as absent ones. -/
def defaultPlatform : Platform :=
  { Platform.empty with
    jets := (List.range 10).map (fun j => ⟨j, decide (8 ≤ j), BitVec.allOnes 64⟩)
    mgs := [⟨0, .N, 0⟩, ⟨1, .N, 0⟩] }

/-- The default bitstream applied (R81). Its digest is that of a ROM content the spec does not give: free values
(notes/assumptions/8.md). -/
def State.applyDefault (s : State) : State :=
  let d := (List.range 6).flatMap (fun k => leBytes 8 (Config.freeWord (s.free + k)).toNat)
  (s.draw 6).applyFull defaultPlatform d [] 0 true

/-- TP0 leaves reset and T0 starts at ENTRY (R341, step 6). -/
def State.bootStart (s : State) : State :=
  let s := s.modCore 0 (fun k => { k with start := some s.boot.entry })
  ({ s with boot := { s.boot with phase := .running } }).startCore 0

/-- BOOT_BITSTREAM_LOAD: the loader has read `b` from the boot source; a rejected file leaves its code and a record, and
the default bitstream is applied (R80, R81). -/
def State.bootLoad (s : State) (b : List Byte) : State :=
  if s.boot.phase ≠ .imageOk then s
  else
    let len := s.boot.bitLen
    let chk := if b.length < len then some (0x01, b.length) else s.fileChecks (b.take len) ⟨len, true, none⟩
    let s := match chk with
      | some e =>
        let s := (s.fset Blk.BIT Reg.BIT_BOOT_CODE e.1).fset Blk.BIT Reg.BIT_BOOT_FAIL_OFFSET e.2
        (s.devError 17 15 0 0 0 0).applyDefault
      | none =>
        let es : List Entry := entriesOf b
        let pl := (es.find? (fun (e : Entry) => e.kind == 1)).map (fun (e : Entry) => (platOf (sectionRecs b e).1, digestBytes (Config.sha384 (part b e.off e.len))))
        match pl with
        | some x => s.applyFull x.1 x.2 ((es.filter (fun (e : Entry) => e.kind == 2)).map (fun (e : Entry) => cfgOf e (sectionRecs b e).1)) (leAt b 24 4) false
        | none => s
    s.bootStart

/-! The boot image (R339, R340). -/

/-- Steps 1 to 9 of R77 with the boot image's header, and BAD_LOAD (R340). -/
def State.imageChecks (s : State) (b : List Byte) : Chk :=
  let total := leAt b 8 4
  let o := total - sigLen
  let pa := leAt b 24 8
  firstOf [
    need (decide (64 ≤ b.length)) 0x01 b.length,
    need (part b 0 4 == [0x53, 0x4E, 0x42, 0x49]) 0x02 0,
    need (leAt b 4 2 == 1) 0x03 4, need (leAt b 6 2 == 0) 0x03 6, need (leAt b 13 3 == 0) 0x03 13, need (leAt b 20 4 == 0) 0x03 20,
    need (leAt b 56 8 == 0) 0x03 56,
    need (decide (total ≤ 67108864) && total % 64 == 0 && decide (64 + sigLen ≤ total)) 0x04 8,
    need (decide (total ≤ b.length)) 0x01 b.length, need (b.length == total) 0x04 8,
    need (leAt b 48 8 == 0 || leAt b 48 8 == s.sppId) 0x05 48,
    need (sigPad b o && s.fuses.slotOk (beAt b 12 1) (keyDigest b o)) 0x06 o, sigChecks b o,
    need (decide (s.fuses.bootSvnMin.toNat ≤ leAt b 16 4)) 0x09 16,
    need (pa % 4096 == 0 && decide (pa + total ≤ cisTop)) 0x40 24,
    need (decide (pa ≤ leAt b 32 8) && decide (leAt b 32 8 < pa + total)) 0x40 32]

/-- The image's bytes go to the cistern from LOAD_PA on as they are read (R340). -/
def State.imageWrite (s : State) (b : List Byte) : State :=
  if part b 0 4 == [0x53, 0x4E, 0x42, 0x49] && leAt b 4 2 == 1 && decide (leAt b 24 8 + b.length ≤ cisTop) then s.moverWrite 5 (leAt b 24 8) b
  else s

/-- An image accepted from copy `copy` (R340): 1 primary, 2 secondary, 3 JTAG. -/
def State.imageAccept (s : State) (b : List Byte) (copy : Nat) : State :=
  let s := (s.fset Blk.PWR Reg.PWR_BOOT_COPY copy).fset Blk.PWR Reg.PWR_BOOTSVN_LOADED (leAt b 16 4)
  let s := s.setReady Rdy.bootimg true
  { s with boot := { phase := .imageOk, image := [], entry := BitVec.ofNat 64 (leAt b 32 8), bitOff := leAt b 40 4, bitLen := leAt b 44 4 } }

/-- Nothing bootable in the flash: wait on JTAG where BOOT_SRC says so, else for the next device reset (R340). -/
def State.bootFail (s : State) : State :=
  let jtag := decide (2 ≤ s.fget Blk.PWR Reg.PWR_BOOT_SRC)
  { s with boot := { s.boot with phase := if jtag then .waitJtag else .stopped, image := [] } }

/-- The flash directory is valid (R339). -/
def bootDirOk (d : List Byte) : Bool :=
  part d 0 4 == [0x53, 0x4E, 0x42, 0x44] && leAt d 4 4 % 4096 == 0 && leAt d 8 4 % 4096 == 0 && leAt d 12 4 == 0 && decide (16 ≤ d.length)

/-- IMAGE_STREAM_START: both stacks have trained; the primary image streams into the cistern (R340, R341). -/
def State.imageStart (s : State) (dir image : List Byte) : State :=
  if s.boot.phase ≠ .waitCistern ∨ !(s.ready (Rdy.cis 0)) ∨ !(s.ready (Rdy.cis 1)) ∨ s.stopped then s
  else if s.fget Blk.PWR Reg.PWR_BOOT_SRC = 3 then s.bootFail
  else if !(bootDirOk dir) then s.bootFail
  else
    let s := s.imageWrite image
    { s with boot := { s.boot with phase := .streaming, image := image } }

/-- IMAGE_VERIFY_DONE: the primary is checked, and after its rejection the secondary (R340). -/
def State.imageVerify (s : State) (secondary : List Byte) : State :=
  if s.boot.phase ≠ .streaming then s
  else
    match s.imageChecks s.boot.image with
    | none => s.imageAccept s.boot.image 1
    | some e =>
      let s := (s.fset Blk.PWR Reg.PWR_BOOT_CODE_PRI e.1).fset Blk.PWR Reg.PWR_BOOT_FAIL_OFFSET e.2
      let s := s.imageWrite secondary
      match s.imageChecks secondary with
      | none => s.imageAccept secondary 2
      | some f => ((s.fset Blk.PWR Reg.PWR_BOOT_CODE_SEC f.1).fset Blk.PWR Reg.PWR_BOOT_FAIL_OFFSET f.2).bootFail

/-- An image given through JTAG LOAD, checked as for flash with COPY = 3 (R340, R356). -/
def State.imageJtag (s : State) (b : List Byte) : State :=
  let s := s.imageWrite b
  match s.imageChecks b with
  | none => s.imageAccept b 3
  | some e => s.fset Blk.PWR Reg.PWR_BOOT_FAIL_OFFSET e.2

/-! Registers (R82, R84). -/

/-- BIT_CMD written: 1 STAGE, 2 ABORT. -/
def State.bitCmd (s : State) (a : Access) (m v : Word) : State :=
  let op := woVal Reg.BIT_CMD_OP m v
  let st := s.fget Blk.BIT Reg.BIT_STATUS_STATE
  let busy := decide (st = 1 ∨ st = 2)
  if op = 1 then
    if busy then s.fset Blk.BIT Reg.BIT_EVENT_REFUSED 1
    else
      { (s.fset Blk.BIT Reg.BIT_STATUS_STATE 1) with
        bitLoad := some ⟨a, woVal Reg.BIT_CMD_STAGE m v, 64 * s.fget Blk.BIT Reg.BIT_SRC_ADDR, s.fget Blk.BIT Reg.BIT_LEN_LEN⟩ }
  else if op = 2 ∧ busy then s.loadEnd 0x1F 0
  else s

/-- A write of the BIT block. -/
def State.wrBit (s : State) (a : Access) (off : Nat) (m v : Word) : State :=
  if off = 0x000 then s.bitCmd a m v
  else if off = 0x010 then
    (if s.okField Blk.BIT Reg.BIT_LEN_LEN m v (fun n => decide (n ≤ 67108864)) then s.tableWrite Blk.BIT off m v else s)
  else s.tableWrite Blk.BIT off m v

/-- A read of the BIT block: SVN_MIN is a fuse. -/
def State.rdBit (s : State) (off : Nat) : Word :=
  if off = 0x030 then
    packFields [(Reg.BIT_SVN_LOADED_SVN, s.fget Blk.BIT Reg.BIT_SVN_LOADED_SVN), (Reg.BIT_SVN_SVN_MIN, s.fuses.bitSvnMin.toNat)]
  else s.tableRead Blk.BIT off

end Sys2Proof.Machine
end

