-- ==== Sys2Proof/Machine/SpoutRegs.lean ====
section
/-! DEFINITION. The registers of the Spout hub and of the per-core Spouts (16_spout_interrupts.md): what a read shows
and what a write does, after the form of the access has been checked. -/

namespace Sys2Proof.Machine

/-! SPT_SEL and SPT_SRC of the hub. -/

/-- The number of a master other than a core among the copies of SPT_SEL; the DAP has no guard and takes 113. -/
def selIndex (m : Master) : Nat := (guardOf m).getD 113

/-- SPT_SEL.SOURCE of a master (the hub holds one copy for each). -/
def State.sptSel (s : State) (m : Master) : Nat :=
  match m with
  | .core c => (s.core c).sptSel.toNat
  | _ => sparseGet 32 (selIndex m) s.selOther

/-- SPT_SEL written: a value below 32 is ignored. -/
def State.wrSptSel (s : State) (a : Access) (m v : Word) : State :=
  let old := s.sptSel a.src
  let n := bits ((BitVec.ofNat 64 old &&& ~~~m) ||| (v &&& m)).toNat 9 0
  if !(covers Reg.SPT_SEL_SOURCE m) || decide (n < 32) then s
  else
    match a.src with
    | .core c => s.modCore c (fun k => { k with sptSel := BitVec.ofNat 10 n })
    | _ => { s with selOther := sparsePut 32 (selIndex a.src) n s.selOther }

/-- SPT_SRC as a read shows source `n`; a reserved source reads 0 (R301). -/
def State.sptSrcWord (s : State) (n : Nat) : Word :=
  if !(globalSrc n) then 0
  else
    let x := s.src n
    let i := s.srcInput n
    packFields [(Reg.SPT_SRC_COUNT, x.countAt i), (Reg.SPT_SRC_OVF, if x.ovf then 1 else 0),
      (Reg.SPT_SRC_LIVE, if i then 1 else 0), (Reg.SPT_SRC_OWNER, x.owner.val), (Reg.SPT_SRC_WORLD, worldBit x.world),
      (Reg.SPT_SRC_TARGET, x.target.val), (Reg.SPT_SRC_TLEVEL, x.tlevel), (Reg.SPT_SRC_SENSE, x.sense),
      (Reg.SPT_SRC_EN, if x.en then 1 else 0)]

/-- The value a write of the bits `m` of `v` gives a field of a register that shows `w`. -/
def fieldAfter (w m v : Word) (f : Fld) : Nat := bits ((w &&& ~~~m) ||| (v &&& m)).toNat f.hi f.lo

/-- Who may write SPT_SRC of a source: the S world, or its OWNER while WORLD is N. -/
def Source.writable (x : Source) (a : Access) : Bool :=
  isS a.world || (decide (x.world = .N) && decide (a.basin = x.owner))

/-- R387 for SPT_SRC: the write is ignored whole for its SENSE, TLEVEL or TARGET. TLEVEL and SENSE of a guard's source
take no write (R302). -/
def State.srcWriteOk (s : State) (n : Nat) (m v : Word) : Bool :=
  let x := s.src n
  let w := s.sptSrcWord n
  let sense := fieldAfter w m v Reg.SPT_SRC_SENSE
  let tl := fieldAfter w m v Reg.SPT_SRC_TLEVEL
  let tg : CoreId := Fin.ofNat 32 (fieldAfter w m v Reg.SPT_SRC_TARGET)
  (guardSrc n || !(covers Reg.SPT_SRC_SENSE m) || decide (sense ≤ 4))
    && (guardSrc n || !(covers Reg.SPT_SRC_TLEVEL m) || tlevelOk x.world tl)
    && (!(covers Reg.SPT_SRC_TARGET m) || s.routable tg x.owner x.world)

/-- R309: the SPT_VMPEND bit that a source waits with at its target clears when it is retargeted. -/
def State.vmUnpend (s : State) (n : Nat) : State :=
  let x := s.src n
  if s.srcPending x.target n && x.en && decide (x.world = .N) && decide (x.tlevel = 1) && decide (x.owner ≠ 0) then
    let b := Blk.spt (s.leadOf x.target).val
    s.rput b 0x020 (setBit (s.rget b 0x020) x.owner.val false)
  else s

/-- SPT_SRC written for source `n` (R302, R303, R309): CLR and a change of SENSE clear COUNT and OVF; transitions are
those of the input from the change on. -/
def State.wrSptSrc (s : State) (a : Access) (n : Nat) (m v : Word) : State :=
  let x := s.src n
  if !(globalSrc n) || !(x.writable a) || !(s.srcWriteOk n m v) then s
  else
    let w := s.sptSrcWord n
    let g := guardSrc n
    let tg : CoreId := Fin.ofNat 32 (fieldAfter w m v Reg.SPT_SRC_TARGET)
    let sense := if g then x.sense else fieldAfter w m v Reg.SPT_SRC_SENSE
    let tl := if g then x.tlevel else fieldAfter w m v Reg.SPT_SRC_TLEVEL
    let clr := hits Reg.SPT_SRC_CLR m v || decide (sense ≠ x.sense)
    let s := if tg = x.target then s else s.vmUnpend n
    s.setSrc n { x with
      seen := if sense = x.sense then x.seen else s.srcInput n, count := if clr then 0 else x.count, ovf := x.ovf && !clr && !(hits Reg.SPT_SRC_OVF m v),
      target := tg, tlevel := tl, sense := sense, en := decide (fieldAfter w m v Reg.SPT_SRC_EN = 1) }

/-- SPT_RAISE written (R308). -/
def State.wrSptRaise (s : State) (a : Access) (m v : Word) : State :=
  let n := woVal Reg.SPT_RAISE_SOURCE m v
  let x := s.src n
  if covers Reg.SPT_RAISE_SOURCE m && decide (512 ≤ n) && decide (2 ≤ x.sense) && x.writable a then s.countEvent 0 n
  else s

/-- SPT_IPI written (R308): a refused write is counted in IPI_REFUSED. -/
def State.wrSptIpi (s : State) (a : Access) (m v : Word) : State :=
  if !(covers Reg.SPT_IPI_N m) then s
  else
    let c : CoreId := Fin.ofNat 32 (woVal Reg.SPT_IPI_CORE m v)
    let n := 8 + woVal Reg.SPT_IPI_N m v
    let x := s.priv c n
    if isS a.world || (bitAt (s.pair (pairOf c)).basins a.basin.val && decide (x.world = .N)) then s.countEvent c n
    else s.bump Blk.HUB Ctr.HUB_IPI_REFUSED

/-- A write of the hub's block. -/
def State.wrHub (s : State) (a : Access) (off : Nat) (m v : Word) : State :=
  if off = 0x000 then s.wrSptSel a m v
  else if off = 0x008 then s.wrSptSrc a (s.sptSel a.src) m v
  else if off = 0x010 then s.wrSptRaise a m v
  else if off = 0x018 then s.wrSptIpi a m v
  else s.tableWrite Blk.HUB off m v

/-- A read of the hub's block. -/
def State.rdHub (s : State) (a : Access) (off : Nat) : Word :=
  if off = 0x000 then BitVec.ofNat 64 (s.sptSel a.src)
  else if off = 0x008 then s.sptSrcWord (s.sptSel a.src)
  else s.tableRead Blk.HUB off

/-! The per-core blocks. -/

/-- SPT_PRIVn as a read shows it; reserved sources read 0. -/
def State.sptPrivWord (s : State) (c : CoreId) (n : Nat) : Word :=
  if !(privateSrc n) then 0
  else
    let x := s.priv c n
    packFields [(Reg.SPT_PRIV_COUNT, x.countAt (s.privInput c n)), (Reg.SPT_PRIV_OVF, if x.ovf then 1 else 0),
      (Reg.SPT_PRIV_WORLD, worldBit x.world), (Reg.SPT_PRIV_TLEVEL, x.tlevel), (Reg.SPT_PRIV_SENSE, x.sense),
      (Reg.SPT_PRIV_EN, if x.en then 1 else 0)]

/-- SPT_PRIVn written: an N-world write to a source whose WORLD is S is ignored; WORLD of 0-3, TLEVEL of 0 and 3 and
EN of 0 and 3 are fixed. -/
def State.wrSptPriv (s : State) (a : Access) (c : CoreId) (n : Nat) (m v : Word) : State :=
  let x := s.priv c n
  let w := s.sptPrivWord c n
  let world := if n ≤ 3 then x.world else worldOf (fieldAfter w m v Reg.SPT_PRIV_WORLD)
  let fixed := decide (n = 0 ∨ n = 3)
  let tl := if fixed then x.tlevel else fieldAfter w m v Reg.SPT_PRIV_TLEVEL
  if !(privateSrc n) || (!(isS a.world) && decide (x.world = .S))
      || (covers Reg.SPT_PRIV_TLEVEL m && !(tlevelOk world tl)) && !fixed then s
  else
    let clr := hits Reg.SPT_PRIV_CLR m v
    s.setPriv c n { x with
      count := if clr then 0 else x.count, ovf := x.ovf && !clr && !(hits Reg.SPT_PRIV_OVF m v),
      world := world, tlevel := tl, en := fixed || decide (fieldAfter w m v Reg.SPT_PRIV_EN = 1) }

/-- SPT_TMR_S and SPT_TMR_N written: NS of 10^9 or more is ignored, and so is the N world at SPT_TMR_S. -/
def State.wrSptTmr (s : State) (a : Access) (b off : Nat) (m v : Word) : State :=
  if (decide (off = 0x010) && !(isS a.world)) || !(s.okField b ⟨off, 31, 0⟩ m v (fun n => decide (n < 1000000000))) then s
  else s.tableWrite b off m v

/-- An access of N-H or M, as far as its attributes tell (R277). DEDUCED, notes/assumptions/23.md. -/
def fromHorM (a : Access) : Bool := a.mbit || (decide (a.world = .N) && decide (a.basin = 0))

/-- SPT_ACTIVE of a core (R306). -/
def State.sptActiveWord (s : State) (c : CoreId) : Word :=
  let k := s.core c
  packFields [(Reg.SPT_ACTIVE_M, k.actM.toNat), (Reg.SPT_ACTIVE_H, k.actH.toNat), (Reg.SPT_ACTIVE_SK, k.actSK.toNat),
    (Reg.SPT_ACTIVE_NK, k.actNK.toNat)]

/-- A write of a per-core block; T2n+1's block of a locked pair is T2n's (R313). -/
def State.wrSpt (s : State) (a : Access) (c : CoreId) (off : Nat) (m v : Word) : State :=
  let c := s.leadOf c
  let b := Blk.spt c.val
  if off = 0x010 ∨ off = 0x018 then s.wrSptTmr a b off m v
  else if off = 0x020 then (if fromHorM a then s.tableWrite b off m v else s)
  else if 0x100 ≤ off ∧ off < 0x200 then s.wrSptPriv a c ((off - 0x100) / 8) m v
  else s.tableWrite b off m v

/-- A read of a per-core block; T2n+1's block of a locked pair reads as T2n's (R313). -/
def State.rdSpt (s : State) (c : CoreId) (off : Nat) : Word :=
  let c := s.leadOf c
  if off = 0x000 then s.sptActiveWord c
  else if 0x100 ≤ off ∧ off < 0x200 then s.sptPrivWord c ((off - 0x100) / 8)
  else s.tableRead (Blk.spt c.val) off

end Sys2Proof.Machine
end

