-- ==== Sys2Proof/Machine/SysRegs.lean ====
section
/-! DEFINITION. The registers of the blocks PWR, CLK, DTB, ERR, CIS, POL, TRN and CRN: what a read shows beyond the field
tables and what a write does (18_bringup_power.md R334-R351, 17_fault_tolerance.md R320-R333, 14_cistern.md
R266-R275, 12_memory_system.md R231, R244, R245). The form of the access and the powering of the block have been
checked before. A WO field that a write covers in part takes 0 in the bits not covered (notes/assumptions/25.md). -/

namespace Sys2Proof.Machine

/-! Ownership of domains and islands (R298, R299). -/

/-- Whether the S world owns a power domain (PWR_OWN0-1). -/
def State.pdSecure (s : State) (pd : Nat) : Bool := bitAt (s.rget Blk.PWR (0x300 + 8 * (pd / 64))) (pd % 64)

/-- Whether the S world owns a clock island (CLK_OWN0-1). -/
def State.isSecure (s : State) (i : Nat) : Bool := bitAt (s.rget Blk.CLK (0x300 + 8 * (i / 64))) (i % 64)

/-- The physical address of a register. -/
def regAddr (b off : Nat) : Nat := regBase + 0x1000 * b + off

/-- R299: the write is discarded and the writer's guard freezes it, cause OWNERSHIP. -/
def State.ownViolation (s : State) (a : Access) (b off : Nat) : State :=
  let r : Refused := ⟨a, regAddr b off, .write, some 0⟩
  match a.src with
  | .core c => s.freezeCore c 2 r
  | m => match guardOf m with
    | some g => s.freezeGuard g 2 r
    | none => s

/-! Power requests (R343). -/

/-- The core of a core's power domain. -/
def pdCore (pd : Nat) : Option CoreId := if h : pd < 32 then some ⟨pd, h⟩ else none

/-- Whether a source is a core itself asking for its own domain (R343). -/
def State.selfRequest (s : State) (m : Master) (c : CoreId) : Bool :=
  match m with
  | .core o => decide (s.leadOf o = s.leadOf c)
  | _ => false

/-- R343: whether a domain may enter a state, by the table of its group. -/
def State.pwrAllowed (s : State) (m : Option Master) (pd st : Nat) : Bool :=
  if st = 0 then true
  else if 3 ≤ st then false
  else if h : pd < 32 then
    (match m with
     | some x => s.selfRequest x ⟨pd, h⟩
     | none => false) || decide (s.crnState ⟨pd, h⟩ = 4 ∨ s.crnState ⟨pd, h⟩ = 5)
  else if pd < 64 then decide (st = 2) && decide (s.fget (Blk.pol (pd - 32)) Reg.POL_FENCE_STATE = 2)
  else if pd < 72 then decide (s.fget (Blk.cas (pd - 64)) Reg.CAS_STATUS_STATE ∈ [0, 2, 3])
  else if pd < 82 then decide (s.fget (Blk.jet (pd - 72)) Reg.JET_STATUS_STATE ∈ [5, 6])
  else if pd < 86 then decide (st = 2) && bitAt s.bankFenced (pd - 82)
  else if pd < 90 then (List.range 8).all (fun i => !(s.flag (Blk.mac (8 * (pd - 86) + i)) Reg.MAC_CTRL_ENABLE))
  else if pd = 90 then (List.range 2).all (fun i => !(s.flag (Blk.mac (32 + i)) Reg.MAC_CTRL_ENABLE))
  else if pd = 91 then (List.range 4).all (fun i => !(s.flag (Blk.rdg i) Reg.RDG_LCTRL_ENABLE))
  else decide (pd = 95)

/-- The domains a request acts on: both of a locked pair (R14). -/
def State.pdUnit (s : State) (pd : Nat) : List Nat :=
  if h : pd < 32 then (s.unitCores ⟨pd, h⟩).map (·.val) else [pd]

/-- R364: before PD95 leaves RUN every unit emits SLEEP and the formatter drains. -/
def State.traceOff (s : State) (pd st : Nat) : State :=
  if pd = 95 ∧ st ≠ 0 ∧ s.pwr 95 = 0 then foldL allCores (fun c t => t.traceSleepDrain c 3) s else s

/-- A request acted on (R343, steps 2 and 3): refused, without effect because the state is in force, or the change
begins; PWR_STATE shows 3 and the target heads `pwrWait`. Debug is enabled only while PD95 is in RUN (R352). -/
def State.pwrAct (s : State) (m : Option Master) (pd st : Nat) : State :=
  if !(s.pwrAllowed m pd st) then (s.fset Blk.PWR Reg.PWR_EVENT_REFUSED 1).bump Blk.PWR Ctr.PWR_REFUSED
  else if s.pwr pd = st then s
  else
    let s := foldL (s.pdUnit pd) (fun d t => t.setPwr d 3) (s.traceOff pd st)
    let s := if pd = 95 then s.authCheck else s
    { s with pwrWait := (pd, st) :: s.pwrWait }

/-- PWR_REQ written (R343): the ownership rule first; while the domain is changing the request waits. -/
def State.wrPwrReq (s : State) (a : Access) (m v : Word) : State :=
  let pd := woVal Reg.PWR_REQ_PD m v
  let st := woVal Reg.PWR_REQ_STATE m v
  if !(covers Reg.PWR_REQ_PD m) || decide (96 ≤ pd) then s
  else if !(isS a.world) && s.pdSecure pd && decide (s.pwr pd ≠ st) then s.ownViolation a Blk.PWR 0x018
  else
    let lead := (s.pdUnit pd).headD pd
    if s.pwr lead = 3 then { s with pwrWait := s.pwrWait ++ [(lead, st)] } else s.pwrAct (some a.src) lead st

/-- PWR_START written (R336): the address is recorded, and a core in reset starts. -/
def State.wrPwrStart (s : State) (a : Access) (m v : Word) : State :=
  if !(isS a.world) || !(covers Reg.PWR_START_ADDR m) then s
  else
    let c := s.leadOf (Fin.ofNat 32 (woVal Reg.PWR_START_CORE m v))
    let s := s.modCore c (fun k => { k with start := some (BitVec.ofNat 64 (4 * woVal Reg.PWR_START_ADDR m v)) })
    if s.crnState c = 0 then s.startCore c else s

/-- PWR_BASINRST written (R337): each basin named is reset; bit 0 is ignored. -/
def State.wrBasinrst (s : State) (a : Access) (m v : Word) : State :=
  if !(isS a.world) || bitAt (v &&& m) 0 then s
  else foldL (bitList (v &&& m)) (fun b t => t.basinReset (Fin.ofNat 64 b)) s

/-- PWR_KEYS written (R342): a slot is revoked where another one is programmed and not revoked. -/
def State.wrKeys (s : State) (a : Access) (m v : Word) : State :=
  let r := woVal Reg.PWR_KEYS_REVOKE m v
  let k := r % 4
  let other := (List.range 4).any (fun j => decide (j ≠ k) && bitAt s.fuses.programmed j && !(bitAt s.fuses.revoked j))
  if a.mbit && decide (4 ≤ r) && other then
    { s with fuses := { s.fuses with revoked := setBit s.fuses.revoked k true } }
  else s

/-- PWR_SAVE written: no part of the save areas may lie outside the Pool SRAM window (R345). -/
def State.wrSave (s : State) (a : Access) (m v : Word) : State :=
  let base := s.after Blk.PWR Reg.PWR_SAVE_BASE m v * 2 ^ 16
  let ok := decide (sramBase ≤ base) && decide (base + 0x10000 ≤ sramBase + 0x4000000)
  if !(isS a.world) || (covers Reg.PWR_SAVE_BASE m && !(s.deaf Blk.PWR Reg.PWR_SAVE_BASE) && !ok) then s
  else s.tableWrite Blk.PWR 0x040 m v

/-- PWR_AVS written: VMIN must not exceed VMAX. -/
def State.wrAvs (s : State) (a : Access) (m v : Word) : State :=
  if !(isS a.world) || decide (s.after Blk.PWR Reg.PWR_AVS_VMAX m v < s.after Blk.PWR Reg.PWR_AVS_VMIN m v) then s
  else s.tableWrite Blk.PWR 0x068 m v

/-- PWR_RESET written (R334): the key from an access whose M bit is 1 resets the device with cause 3. -/
def State.wrPwrReset (s : State) (a : Access) (m v : Word) : State :=
  if a.mbit && decide (woVal Reg.PWR_RESET_KEY m v = 0xD1E5) then s.deviceReset 3 else s

/-- PWR_OWN written (R298): S world only; the bit of T2n+1 of a locked pair takes T2n's value. -/
def State.wrPwrOwn (s : State) (a : Access) (off : Nat) (m v : Word) : State :=
  if !(isS a.world) then s
  else
    let s := s.tableWrite Blk.PWR off m v
    if off ≠ 0x300 then s
    else
      foldL (List.finRange 16) (fun p t =>
        if t.locked p then t.rput Blk.PWR 0x300 (setBit (t.rget Blk.PWR 0x300) (2 * p.val + 1) (bitAt (t.rget Blk.PWR 0x300) (2 * p.val)))
        else t) s

/-- CLK_OWN written (R298): S world only; the AON islands stay the S world's. -/
def State.wrClkOwn (s : State) (a : Access) (off : Nat) (m v : Word) : State :=
  if !(isS a.world) then s
  else
    let s := s.tableWrite Blk.CLK off m v
    if off = 0x308 then s.rput Blk.CLK 0x308 (s.rget Blk.CLK 0x308 ||| 0xFE800) else s

/-- A write of the PWR block. -/
def State.wrPwr (s : State) (a : Access) (off : Nat) (m v : Word) : State :=
  if off = 0x010 then s.wrPwrStart a m v
  else if off = 0x018 then s.wrPwrReq a m v
  else if off = 0x040 then s.wrSave a m v
  else if off = 0x048 then s.wrBasinrst a m v
  else if off = 0x050 then (if isS a.world then s.tableWrite Blk.PWR off m v else s)
  else if off = 0x058 then s.wrKeys a m v
  else if off = 0x068 then s.wrAvs a m v
  else if off = 0x070 then s.wrPwrReset a m v
  else if off = 0x300 ∨ off = 0x308 then s.wrPwrOwn a off m v
  else if off = 0x400 then (if isS a.world then s.tableWrite Blk.PWR off m v else s)
  else s.tableWrite Blk.PWR off m v

/-- A read of the PWR block: PWR_KEYS and PWR_BOOTSVN.MIN show fuses (R342). -/
def State.rdPwr (s : State) (off : Nat) : Word :=
  if off = 0x058 then packFields [(Reg.PWR_KEYS_REVOKED, s.fuses.revoked.toNat), (Reg.PWR_KEYS_PROGRAMMED, s.fuses.programmed.toNat)]
  else if off = 0x060 then
    packFields [(Reg.PWR_BOOTSVN_LOADED, s.fget Blk.PWR Reg.PWR_BOOTSVN_LOADED), (Reg.PWR_BOOTSVN_MIN, s.fuses.bootSvnMin.toNat)]
  else s.tableRead Blk.PWR off

/-! Clocks (R346). -/

/-- CLK_FREQn written: values outside 4-22 are ignored; after an AVS failure those above 16 act as 16 (R350); the N
world may not change an island of the S world (R299). -/
def State.wrClkFreq (s : State) (a : Access) (n : Nat) (m v : Word) : State :=
  let off := 8 * n
  let code := s.after Blk.CLK (Reg.CLK_FREQ_CODE.nth n) m v
  if !(s.okField Blk.CLK (Reg.CLK_FREQ_CODE.nth n) m v (fun x => decide (4 ≤ x) && decide (x ≤ 22))) then s
  else if !(isS a.world) && s.isSecure n && decide (code ≠ s.fget Blk.CLK (Reg.CLK_FREQ_CODE.nth n)) then
    s.ownViolation a Blk.CLK off
  else
    let s := s.tableWrite Blk.CLK off m v
    if s.avs.failed && decide (16 < code) then s.fset Blk.CLK (Reg.CLK_FREQ_CODE.nth n) 16 else s

/-- A write of the CLK block. -/
def State.wrClk (s : State) (a : Access) (off : Nat) (m v : Word) : State :=
  if off < 0x080 then s.wrClkFreq a (off / 8) m v
  else if off = 0x300 ∨ off = 0x308 then s.wrClkOwn a off m v
  else s.tableWrite Blk.CLK off m v

/-! Device time base (R348). -/

/-- DTB_SET0 written: the step to DTB_SET1.SECONDS and NS is scheduled 1 µs on; one that waits is replaced. -/
def State.wrDtbSet0 (s : State) (a : Access) (m v : Word) : State :=
  if !(isS a.world) || !(s.okField Blk.DTB Reg.DTB_SET0_NS m v (fun n => decide (n < 1000000000))) then s
  else
    let s := s.tableWrite Blk.DTB 0x000 m v
    let t := s.fget Blk.DTB Reg.DTB_SET1_SECONDS * dtbSecond + s.fget Blk.DTB Reg.DTB_SET0_NS * 65536
    { s with tb := { s.tb with step := some t, stepTick := s.tb.ticks + 1000 } }

/-- DTB_ADJ as a signed number of parts per 10^12 (R348). -/
def adjOf (n : Nat) : Int := if n < 2 ^ 31 then (n : Int) else (n : Int) - 2 ^ 32

/-- DTB_ADJ written: rates beyond ±500,000,000 are ignored. -/
def State.wrDtbAdj (s : State) (a : Access) (m v : Word) : State :=
  if !(isS a.world)
      || !(s.okField Blk.DTB Reg.DTB_ADJ_ADJ m v (fun n => decide (-500000000 ≤ adjOf n) && decide (adjOf n ≤ 500000000))) then s
  else s.tableWrite Blk.DTB 0x010 m v

/-- A write of the DTB block. -/
def State.wrDtb (s : State) (a : Access) (off : Nat) (m v : Word) : State :=
  if off = 0x000 then s.wrDtbSet0 a m v
  else if off = 0x008 then (if isS a.world then s.tableWrite Blk.DTB off m v else s)
  else if off = 0x010 then s.wrDtbAdj a m v
  else s.tableWrite Blk.DTB off m v

/-! The error record queue (R330). -/

/-- The oldest NEW record. -/
def State.errFirst (s : State) : Option ErrRec := s.errs.find? (fun r => r.isNew)

/-- ERR_STATUS and ERR_REC0-3 as a read shows them. -/
def State.rdErr (s : State) (off : Nat) : Word :=
  if off = 0x000 then
    (s.tableRead Blk.ERR 0x000 &&& (maskBits 31 30)) |||
      packFields [(Reg.ERR_STATUS_OCCUPIED, s.errs.length), (Reg.ERR_STATUS_NEW, (s.errs.filter (·.isNew)).length)]
  else if 0x010 ≤ off ∧ off ≤ 0x028 then
    match s.errFirst with
    | none => 0
    | some r =>
      if off = 0x010 then
        packFields [(Reg.ERR_REC0_VALID, 1), (Reg.ERR_REC0_ESC, if r.esc then 1 else 0),
          (Reg.ERR_REC0_LOST_BEFORE, if r.lostBefore then 1 else 0), (Reg.ERR_REC0_CLASS, r.cls),
          (Reg.ERR_REC0_SEV, sevOf r.cls), (Reg.ERR_REC0_SEQ, r.seq)]
      else if off = 0x018 then
        packFields [(Reg.ERR_REC1_INFO, r.info.toNat), (Reg.ERR_REC1_BASIN, r.basin.val),
          (Reg.ERR_REC1_WORLD, worldBit r.world), (Reg.ERR_REC1_KIND, r.kind), (Reg.ERR_REC1_INDEX, r.index)]
      else if off = 0x020 then packFields [(Reg.ERR_REC2_ADDR, r.addr)]
      else packFields [(Reg.ERR_REC3_NS, r.ns), (Reg.ERR_REC3_SECONDS, r.sec)]
  else s.tableRead Blk.ERR off

/-- The effect of an aligned 8-byte read of ERR_REC3: the record shown moves to READ (R330). -/
def State.errTake (s : State) : State :=
  match s.errFirst with
  | none => s
  | some r => { s with errs := s.errs.map (fun x => if x = r then { x with isNew := false } else x) }

/-- ERR_DONE written: the slot holding SEQ is freed (R330). -/
def State.wrErrDone (s : State) (a : Access) (m v : Word) : State :=
  if !(isS a.world) || !(covers Reg.ERR_DONE_SEQ m) then s
  else { s with errs := s.errs.filter (fun r => decide (r.seq ≠ woVal Reg.ERR_DONE_SEQ m v)) }

/-- A write of the ERR block. -/
def State.wrErr (s : State) (a : Access) (off : Nat) (m v : Word) : State :=
  if off = 0x030 then s.wrErrDone a m v
  else if off = 0x038 then (if isS a.world then s.tableWrite Blk.ERR off m v else s)
  else s.tableWrite Blk.ERR off m v

/-! The cistern (R272-R274). -/

/-- Every cached copy of the reserve range dropped without write-back (R273). -/
def State.dropReserve (s : State) : State :=
  let lo := 0x7E0000000
  let s := s.dropCopies lo cisTop
  { s with slices := s.slices.map (fun x => { x with lines := x.lines.filter (fun l => decide (l.line * 64 < lo)) }) }

/-- CIS_CTRL written: RESERVE is set only while the SA region, the deep region and the stage area are not in use; then
the range leaves the caches and fills with poison (R273). -/
def State.wrCisCtrl (s : State) (a : Access) (m v : Word) : State :=
  let r := s.after Blk.CIS0 Reg.CIS_CTRL_RESERVE m v
  let busy := s.flag Blk.SA Reg.SA_REGION_VALID || decide (s.rget Blk.SPL Reg.SPL_DEEP_SIZE_SIZE.off ≠ 0)
    || decide (s.fget Blk.SLU Reg.SLU_AREA_SIZE_SIZE ≠ 0)
  let sets := !s.reserve && decide (r = 1)
  if !(isS a.world) || (sets && busy) then s
  else
    let s := s.tableWrite Blk.CIS0 0x000 m v
    let s := if sets then
        { (s.dropReserve.fset Blk.CIS0 Reg.CIS_CAP_FILLING 1) with cis := { s.cis with filled := true }, resvClean := [] }
      else s
    s.fset Blk.CIS0 Reg.CIS_CAP_CAP_MIB s.capMib

/-- CIS_CMD written: MAPOUT of a pseudo-channel (R274). -/
def State.wrCisCmd (s : State) (a : Access) (st : Nat) (m v : Word) : State :=
  if isS a.world && decide (woVal Reg.CIS_CMD_OP m v = 1) then s.mapOut (32 * st + woVal Reg.CIS_CMD_PC m v) else s

/-- A write of a CIS block: registers of C0 only are absent in C1 (R9). -/
def State.wrCis (s : State) (a : Access) (st : Nat) (off : Nat) (m v : Word) : State :=
  let b := Blk.cis st
  let n := !(isS a.world)
  if off = 0x020 then s.wrCisCmd a st m v
  else if st = 0 ∧ off = 0x000 then s.wrCisCtrl a m v
  else if st = 0 ∧ off = 0x028 then
    (if n || !(s.okField b Reg.CIS_SCRUB_PERIOD_H m v (fun x => decide (x ≤ 168))) then s else s.tableWrite b off m v)
  else if st = 0 ∧ off = 0x030 then
    (if n || !(s.okField b Reg.CIS_THRESH_CE_LIMIT m v (fun x => decide (x ≠ 0)))
        || !(s.okField b Reg.CIS_THRESH_UE_LIMIT m v (fun x => decide (x ≠ 0))) then s
     else s.tableWrite b off m v)
  else if st = 0 ∧ off = 0x400 then
    (if n || !(s.okField b Reg.CIS_ARB_DEEP_W m v (fun x => decide (x ≠ 0)))
        || !(s.okField b Reg.CIS_ARB_POOL_W m v (fun x => decide (x ≠ 0))) then s
     else s.tableWrite b off m v)
  else s.tableWrite b off m v

/-! Pool slices and cores (R231, R244, R245, R326). -/

/-- POL_SRAM written (R244): ignored from the N world, with WAYS of 13-15, and while BUSY. -/
def State.wrPolSram (s : State) (a : Access) (h : SliceId) (m v : Word) : State :=
  let b := Blk.pol h.val
  if !(isS a.world) || s.flag b Reg.POL_SRAM_BUSY || !(s.okField b Reg.POL_SRAM_WAYS m v (fun x => decide (x ≤ 12))) then s
  else s.setWays h (s.after b Reg.POL_SRAM_WAYS m v)

/-- A write of a POL block. -/
def State.wrPol (s : State) (a : Access) (h : SliceId) (off : Nat) (m v : Word) : State :=
  let b := Blk.pol h.val
  if off = 0x000 then s.wrPolSram a h m v
  else if off = 0x018 then (if isS a.world && hits Reg.POL_FENCE_FENCE m v then s.fenceStart h else s)
  else if off = 0x400 then
    (if s.okField b Reg.POL_LFSR_SEED m v (fun x => decide (x ≠ 0)) then s.tableWrite b off m v else s)
  else s.tableWrite b off m v

/-- TRN_LFSR written (R231): every LFSR of the core, or of both cores of a locked pair; a 0 is ignored. -/
def State.wrTrnLfsr (s : State) (c : CoreId) (m v : Word) : State :=
  let b := Blk.trn c.val
  let old := BitVec.ofNat 64 ((s.core (s.leadOf c)).lfsr2.toNat)
  let n := fieldAfter old m v Reg.TRN_LFSR_SEED
  if !(covers Reg.TRN_LFSR_SEED m) then s
  else if !(s.expert b) then s.rput b 0x3F8 (setBit (s.rget b 0x3F8) 1 true)
  else if n = 0 then s
  else
    let l := BitVec.ofNat 16 n
    foldL (s.unitCores c) (fun o t => t.modCore o (fun k => { k with lfsrI := l, lfsrD := l, lfsr2 := l })) s

/-- TRN_L2OP written (R245): ignored while BUSY. -/
def State.wrL2op (s : State) (c : CoreId) (m v : Word) : State :=
  let b := Blk.trn c.val
  let op := woVal Reg.TRN_L2OP_OP m v
  if s.flag b Reg.TRN_L2OP_BUSY || !(decide (op = 1 ∨ op = 2)) then s
  else (s.l2Walk c op).fset b Reg.TRN_L2OP_BUSY 1

/-- A write of a TRN block. -/
def State.wrTrn (s : State) (c : CoreId) (off : Nat) (m v : Word) : State :=
  if off = 0x080 then s.wrL2op c m v
  else if off = 0x400 then s.wrTrnLfsr c m v
  else s.tableWrite (Blk.trn c.val) off m v

/-- A read of a TRN block: TRN_LFSR shows the L2's LFSR, while EXPERT = 1 (R8). -/
def State.rdTrn (s : State) (c : CoreId) (off : Nat) : Word :=
  if off = 0x400 then (if s.expert (Blk.trn c.val) then ((s.core (s.leadOf c)).lfsr2).setWidth 64 else 0)
  else s.tableRead (Blk.trn c.val) off

/-- A read of a POL block: POL_DIR counts the directory entries in use and those that are pinned. -/
def State.rdPol (s : State) (h : SliceId) (off : Nat) : Word :=
  if off = 0x010 then
    let d := (s.slice h).dir
    packFields [(Reg.POL_DIR_PINNED, (d.filter (fun e => !e.pins.isEmpty)).length), (Reg.POL_DIR_USED, d.length)]
  else s.tableRead (Blk.pol h.val) off

/-! Cairns (R316, R321). -/

/-- R321: who may write CRN_CMD: the S world; basin 0 of the N world while the N world owns the unit's domains. -/
def State.crnMay (s : State) (a : Access) (c : CoreId) : Bool :=
  isS a.world || (decide (a.basin = 0) && (s.unitCores c).all (fun o => !(s.pdSecure o.val)))

/-- CRN_CMD written (R321): OUT while running, TEST while out of service or failed, RETURN while out of service. -/
def State.wrCrnCmd (s : State) (a : Access) (p : Fin 16) (m v : Word) : State :=
  let op := woVal Reg.CRN_CMD_OP m v
  let c := s.leadOf (if woVal Reg.CRN_CMD_CORE m v = 1 then oddCore p else evenCore p)
  let st := s.crnState c
  if !(s.crnMay a c) then s
  else if op = 1 ∧ st = 1 then s.coreOut c
  else if op = 2 ∧ (st = 4 ∨ st = 5) then
    (s.setCrnState c 3).modPair p (fun x => { x with phase := if s.locked p then 1 else x.phase })
  else if op = 3 ∧ st = 4 then s.coreReset c
  else s

/-- A write of a CRN block. -/
def State.wrCrn (s : State) (a : Access) (p : Fin 16) (off : Nat) (m v : Word) : State :=
  let b := Blk.crn p.val
  if off = 0x000 then
    (if isS a.world && s.okField b Reg.CRN_CTRL_INTERVAL_US m v (fun x => decide (1 ≤ x) && decide (x ≤ 64)) then s.tableWrite b off m v
     else s)
  else if off = 0x010 then s.wrCrnCmd a p m v
  else if off = 0x400 then (if s.locked p then s.tableWrite b off m v else s)
  else s.tableWrite b off m v

end Sys2Proof.Machine
end

