-- ==== Sys2Proof/Machine/GuardOps.lean ====
section
/-! DEFINITION. The GRD blocks: the region table, and the thawing of a frozen master (15_worlds_basins.md R292-R297). -/

namespace Sys2Proof.Machine

/-- The master behind a guard (R301). -/
def masterOf (g : Nat) : Option Master :=
  if h : g < 32 then some (.core ⟨g, h⟩)
  else if h : g < 96 then some (.tier ⟨g - 32, by omega⟩)
  else if h : g < 106 then some (.jet ⟨g - 96, by omega⟩)
  else if h : g < 110 then some (.ridge ⟨g - 106, by omega⟩)
  else if h : g < 112 then some (.mgdma ⟨g - 110, by omega⟩)
  else if g = 112 then some .trace
  else none

/-- The kind of access that GRD_FINFO.KIND names. -/
def kindOf (n : Nat) : AccKind := if n = 0 then .read else if n = 1 then .write else if n = 2 then .fetch else .amo

/-- FROZEN cleared; a locked pair freezes and thaws as one (R295). -/
def State.unfreeze (s : State) (g : Nat) : State :=
  let f : State → Nat → State := fun t n => t.fset (Blk.grd n) Reg.GRD_STATUS_FROZEN 0
  if h : g < 32 then
    (if s.locked (pairOf ⟨g, h⟩) then f (f s (g / 2 * 2)) (g / 2 * 2 + 1) else f s g)
  else f s g

/-- R296, R297: a core resumed: the refused merging-buffer entry is discarded, an open transaction aborts with cause
RESET, and GUARD is entered at the level TARGET names: 1 K of the access's world, 2 H, 3 and 0 M. -/
def State.thawCore (s : State) (c : CoreId) (g target : Nat) : State :=
  let i := (s.rget (Blk.grd g) 0x010).toNat
  let w := worldOf (bits i 12 12)
  let dst : World × Level := if target = 1 then (w, .K) else if target = 2 then (.N, .H) else (.S, .M)
  let s := s.modCore c (fun k => { k with mb := k.mb.filter (fun e => !e.refused) })
  let s := s.txAbort c 13 0
  let e : Exc := { Exc.mk0 .guard (BitVec.ofNat 64 (s.fget (Blk.grd g) Reg.GRD_FADDR_PA)) (kindOf (bits i 9 8)) with imprecise := true }
  s.enterLevel c dst.1 dst.2 e (s.core c).arch.pc

/-- The registers of a block from `lo` to `hi` at their reset values. -/
def State.regsReset (s : State) (b lo hi : Nat) : State :=
  foldL ((List.range ((hi - lo) / 8 + 1)).map (fun i => lo + 8 * i)) (fun off t => t.rput b off (resetWord b off)) s

/-- Every register of a block at its reset value. -/
def State.blockReset (s : State) (b : Nat) : State :=
  { s with regs := s.regs.filter (fun e => decide (e.1 < 512 * b) || decide (512 * (b + 1) ≤ e.1)) }

/-- R296: the frames a tier holds are dropped and their cells released (R15). -/
def State.tierDrop (s : State) (t : TierId) : State :=
  foldL (s.frames.filter (fun f => f.loc == .tier t || f.loc == .fetch t)) (fun f u => u.release f) s

/-- R296, R297: GRD_THAW with a legal OP on a frozen master: 1 resume, 2 reset. -/
def State.thaw (s : State) (g op target : Nat) : State :=
  let nested := decide (s.fget (Blk.grd g) Reg.GRD_STATUS_CAUSE = 3)
  let s := s.unfreeze g
  match masterOf g with
  | some (.core c) =>
    let c := s.leadOf c
    if op = 2 ∨ nested then s.coreReset c else s.thawCore c g target
  | some (.tier t) => if op = 2 then s.tierDrop t else s
  | some (.jet j) => s.setJst j 5
  | some (.ridge _) => s
  | some (.mgdma m) => if op = 2 then s.regsReset (Blk.mac (32 + m.val)) 0x200 0x210 else s
  | some .trace => if op = 2 then s.regsReset Blk.TRC 0x010 0x020 else s
  | _ => s

/-- A write of a GRD block: from M only; GRD_THAW on a master that is not frozen does nothing; a region of a bad size is
ignored (R297, GRD_REGION). -/
def State.wrGrd (s : State) (a : Access) (g off : Nat) (m v : Word) : State :=
  let b := Blk.grd g
  if !a.mbit then s
  else if off = 0x018 then
    let op := woVal Reg.GRD_THAW_OP m v
    if s.flag b Reg.GRD_STATUS_FROZEN && decide (op = 1 ∨ op = 2) then s.thaw g op (woVal Reg.GRD_THAW_TARGET m v) else s
  else if 0x400 ≤ off ∧ off < 0xC00 then
    let size : Fld := ⟨off, 63, 58⟩
    if s.expert b && covers size m && !(decide (12 ≤ s.after b size m v) && decide (s.after b size m v ≤ 46)) then s
    else s.tableWrite b off m v
  else s.tableWrite b off m v

end Sys2Proof.Machine
end

