-- ==== Sys2Proof/Machine/RegAccess.lean ====
section
/-! DEFINITION. An access of the register-block range that has passed its master's guard: the form it must have (R7), the
block it reaches (R22, R24), what a read returns and does, what a write does (R8, R9, R387). -/

namespace Sys2Proof.Machine

/-- Whether an access of a register block is performed at all (R7, R22, R24). -/
def State.devOk (s : State) (b off size : Nat) : Bool :=
  (regForm off size).isSome && (blockTables b).isSome && s.blockServed b

/-- The 64 bits of a register as a read of a size at this instant shows them. -/
def State.regShow (s : State) (a : Access) (b off size : Nat) : Word :=
  if off = 0x3F0 ∨ off = 0x3F8 then s.tableRead b off
  else if b = Blk.PWR then s.rdPwr off
  else if b = Blk.ERR then s.rdErr off
  else if b = Blk.BIT then s.rdBit off
  else if b = Blk.SLU then (if off = 0x000 ∧ size = 8 then s.sluOpenShow a else s.rdSlu off)
  else if b = Blk.SPP then (if off = 0x000 then s.fuses.id else s.tableRead b off)
  else if b = Blk.SA then s.rdSa off
  else if b = Blk.SPL then s.rdSpl off
  else if h : 12 ≤ b ∧ b < 16 then s.rdRdg ⟨b - 12, by omega⟩ off
  else if b = Blk.DBG then s.rdDbg a off
  else if h : 64 ≤ b ∧ b < 98 then s.rdMac ⟨b - 64, by omega⟩ off
  else if h : 256 ≤ b ∧ b < 288 then s.rdPw ⟨b - 256, by omega⟩ off
  else if h : 288 ≤ b ∧ b < 352 then s.rdBw ⟨b - 288, by omega⟩ off
  else if b = Blk.HUB then s.rdHub a off
  else if h : 432 ≤ b ∧ b < 464 then s.rdSpt ⟨b - 432, by omega⟩ off
  else if h : 352 ≤ b ∧ b < 384 then s.rdPol ⟨b - 352, by omega⟩ off
  else if h : 384 ≤ b ∧ b < 416 then s.rdTrn ⟨b - 384, by omega⟩ off
  else s.tableRead b off

/-- The effect of an aligned 8-byte read (R7): only the registers that R7 lists have one. -/
def State.regTake (s : State) (a : Access) (b off : Nat) : State :=
  if b = Blk.ERR ∧ off = 0x028 then s.errTake
  else if b = Blk.SLU ∧ off = 0x000 then s.sluOpenTake a
  else if h : 12 ≤ b ∧ b < 16 then s.rdgTake ⟨b - 12, by omega⟩ off
  else if h : 64 ≤ b ∧ b < 98 then (if off = 0x040 then s.txtsTake ⟨b - 64, by omega⟩ else s)
  else if h : 288 ≤ b ∧ b < 352 then (if off = 0x3B0 then s.saEvtTake ⟨b - 288, by omega⟩ else s)
  else s

/-- A read of a register block: the state after it, and the bits it covers in their places in the register. -/
def State.devRead (s : State) (a : Access) (b off size : Nat) : State × Word :=
  match regForm off size with
  | none => (s, 0)
  | some (o, m) => (if size = 8 then s.regTake a b o else s, s.regShow a b o size &&& m)

/-- A write of the bits `m` of `v` to a register of the frame path: ports, MACs, channels, jets, weirs. -/
def State.frameWrite (s : State) (a : Access) (b off : Nat) (m v : Word) : State :=
  if 32 ≤ b ∧ b < 64 then s.wrPrt (b - 32) off m v
  else if h : 64 ≤ b ∧ b < 98 then s.wrMac ⟨b - 64, by omega⟩ off m v
  else if h : 128 ≤ b ∧ b < 136 then s.wrCas a ⟨b - 128, by omega⟩ off m v
  else if h : 136 ≤ b ∧ b < 146 then s.wrJet a ⟨b - 136, by omega⟩ off m v
  else if h : 256 ≤ b ∧ b < 288 then s.wrPw ⟨b - 256, by omega⟩ off m v
  else if h : 288 ≤ b ∧ b < 352 then s.wrBw ⟨b - 288, by omega⟩ off m v
  else s.tableWrite b off m v

/-- A write of the bits `m` of `v` to a register of a unit that the whole device shares. -/
def State.unitWrite (s : State) (a : Access) (b off : Nat) (m v : Word) : State :=
  if b = Blk.PWR then s.wrPwr a off m v
  else if b = Blk.CLK then s.wrClk a off m v
  else if b = Blk.DTB then s.wrDtb a off m v
  else if b = Blk.ERR then s.wrErr a off m v
  else if b = Blk.BIT then s.wrBit a off m v
  else if b = Blk.SLU then s.wrSlu a off m v
  else if b = Blk.SPP then s.wrSpp off m v
  else if b = Blk.SA then s.wrSa a off m v
  else if b = Blk.SPL then s.wrSpl off m v
  else if b = 10 ∨ b = 11 then s.wrCis a (b - 10) off m v
  else if h : 12 ≤ b ∧ b < 16 then s.wrRdg a ⟨b - 12, by omega⟩ off m v
  else if b = Blk.TRC then s.wrTrc a off m v
  else if b = Blk.DBG then s.wrDbg a off m v
  else s.tableWrite b off m v

/-- A write of the bits `m` of `v` to a register of a block; the GRD blocks and the TRC block hear certain masters only,
for FUNC_MODE too (19_debug_trace.md, 15_worlds_basins.md). -/
def State.blockWrite (s : State) (a : Access) (b off : Nat) (m v : Word) : State :=
  let deaf := (decide (512 ≤ b) && !a.mbit) || (decide (b = Blk.TRC) && !(a.mbit || decide (a.src = .dap)))
  if off = 0x3F8 then (if deaf then s else s.tableWrite b off m v)
  else if b < 32 then s.unitWrite a b off m v
  else if b < 352 then s.frameWrite a b off m v
  else if b = Blk.HUB then s.wrHub a off m v
  else if h : 432 ≤ b ∧ b < 464 then s.wrSpt a ⟨b - 432, by omega⟩ off m v
  else if h : 352 ≤ b ∧ b < 384 then s.wrPol a ⟨b - 352, by omega⟩ off m v
  else if h : 384 ≤ b ∧ b < 416 then s.wrTrn ⟨b - 384, by omega⟩ off m v
  else if h : 416 ≤ b ∧ b < 432 then s.wrCrn a ⟨b - 416, by omega⟩ off m v
  else if 512 ≤ b ∧ b < 625 then s.wrGrd a (b - 512) off m v
  else s.tableWrite b off m v

/-- A write of a register block by an access of a size: the written bytes stand in the low bits of `v`. -/
def State.devWrite (s : State) (a : Access) (b off size : Nat) (v : Word) : State :=
  match regForm off size with
  | none => s
  | some (o, m) => s.blockWrite a b o m (if off % 8 = 4 then v <<< 32 else v)

/-! Accesses that commands of the table make (R7, R292). -/

/-- R295, R296: a master's guard refuses: the master freezes; a tier's channel counts as failed, a jet as fenced. -/
def State.refuseAccess (s : State) (a : Access) (pa : Nat) (k : AccKind) (e : Option Nat) : State :=
  match a.src with
  | .core c => s.freezeCore c 1 ⟨a, pa, k, e⟩
  | .tier t => (s.freezeMaster a pa k e).tierAfter t
  | .jet j => (s.freezeMaster a pa k e).jetFenced j
  | _ => s.freezeMaster a pa k e

/-- A register write by a master: nothing from a frozen one (R295) or while the
device stands still (R371, R377); the guard checks it (R292); a place that is not
served is recorded for a master other than a core (R18), whose own data abort belongs to its bundle. -/
def State.busWrite (s : State) (a : Access) (b off size : Nat) (v : Word) : State :=
  if s.frozen a.src || s.stopped then s
  else
    match s.guard a (regAddr b off) size .write with
    | .refuse e => s.refuseAccess a (regAddr b off) .write e
    | .ok _ _ _ => if s.devOk b off size then s.devWrite a b off size v else s.unservedRecord a (regAddr b off)

/-- A register read by a master, with the bits it covers. -/
def State.busRead (s : State) (a : Access) (b off size : Nat) : State × Word :=
  if s.frozen a.src || s.stopped then (s, 0)
  else
    match s.guard a (regAddr b off) size .read with
    | .refuse e => (s.refuseAccess a (regAddr b off) .read e, 0)
    | .ok _ _ _ => if s.devOk b off size then s.devRead a b off size else (s.unservedRecord a (regAddr b off), 0)

/-- The offset and size of a named register's access (R7). -/
def regSize (w : RegW) : Nat := if w.wide then 8 else 4
def regOff (w : RegW) (off : Nat) : Nat := if !w.wide && w.high then off + 4 else off
/-- The bits a named register's write covers, and its value in their places. -/
def regMask (w : RegW) : Word := halfMask w.wide w.high
def regBits (w : RegW) : Word := if !w.wide && w.high then w.val <<< 32 else w.val

/-- A command that is a write of a named register. -/
def State.regWrite (s : State) (b off : Nat) (w : RegW) : State := s.busWrite w.acc b (regOff w off) (regSize w) w.val

/-- A command that is a write of a named register and names what the write must carry: another value is not this
command, and nothing changes (notes/assumptions/3.md). -/
def State.regWriteIf (s : State) (b off : Nat) (w : RegW) (ok : Bool) : State := if ok then s.regWrite b off w else s

end Sys2Proof.Machine
end

