-- ==== Sys2Proof/Machine/Access.lean ====
section
/-! DEFINITION. A core's memory accesses (12_memory_system.md R232-R243; 13_coherence_transactions.md R256-R259;
15_worlds_basins.md R293-R295): region types, the merging buffer and its drains, loads, atomics, cache maintenance. -/

namespace Sys2Proof.Machine

/-- What a memory access ends in other than its result: an exception, the abort of the open transaction with a cause,
an abort that has already come about, a guard's refusal (R295), a wait for a ridge answer. -/
inductive MemStop where
  | exc (e : Exc)
  | abort (cause : Nat)
  | aborted
  | refused
  | wait
  deriving DecidableEq, Repr

/-- What a read gives: its bytes, whether the L1D held them, poison, and the ridge requests that will bring them. -/
structure MemVal where
  bytes : List Byte
  hit : Bool
  poison : Bool
  await : List Nat
  deriving DecidableEq, Repr

abbrev MemAns := Except MemStop MemVal

/-- CACHECTL of a core (R243). -/
def Core.l2En (k : Core) : Bool := bitAt k.arch.cachectl 2
def Core.l1dEn (k : Core) : Bool := bitAt k.arch.cachectl 1 && k.l2En
def Core.l1iEn (k : Core) : Bool := bitAt k.arch.cachectl 0

/-! The spillway window (R20). -/

/-- A word of the spillway window; a word nothing has written through the window is a free value
(notes/assumptions/8.md). -/
def State.spillWord (s : State) (i : Nat) : Word :=
  match s.spill.find? (fun e => e.1 == i) with
  | some e => e.2
  | none => Config.freeWord (s.spillGen + i)

/-- A word put into a strictly rising list. -/
def wordPut (k : Nat) (v : Word) : List (Nat × Word) → List (Nat × Word)
  | [] => [(k, v)]
  | (k', v') :: t =>
    if k < k' then (k, v) :: (k', v') :: t else if k = k' then (k, v) :: t else (k', v') :: wordPut k v t

/-- R20: what the spillway window accepts. -/
def State.spillOk (s : State) (off n : Nat) (ty : RType) : Bool :=
  ty.isDevice && decide (n = 8) && decide (off % 8 = 0) && s.expert Blk.SPL

def State.spillRead (s : State) (off n : Nat) (ty : RType) : State × Word :=
  if s.spillOk off n ty then (s, s.spillWord (off / 8))
  else (s.rput Blk.SPL 0x3F8 (setBit (s.rget Blk.SPL 0x3F8) 1 true), 0)

def State.spillWrite (s : State) (off n : Nat) (ty : RType) (v : Word) : State :=
  if s.spillOk off n ty then { s with spill := wordPut (off / 8) v s.spill }
  else s.rput Blk.SPL 0x3F8 (setBit (s.rget Blk.SPL 0x3F8) 1 true)

/-! What serves an access. -/

/-- R7, R18, R21, R23, R233: whether an access of a type is performed where it leads. -/
def State.accessOk (s : State) (pa n : Nat) (ty : RType) (k : AccKind) : Bool :=
  s.served pa &&
  (match s.dest pa with
   | .cis => true
   | .sram _ _ => !ty.isDevice
   | .spill _ => true
   | .reg b off => ty.isDevice && decide (k = .read ∨ k = .write) && s.devOk b off n
   | .rom _ => decide (k = .read) || (decide (k = .fetch) && !ty.isDevice)
   | .ridge _ _ => decide (ty ≠ .normalWB) && decide (k ≠ .fetch) && (decide (k ≠ .amo) || !ty.isDevice)
   | .unserved => false)

/-- The parts of an access: split at the 8-byte boundary it crosses, unless it is aligned to its size (R240). -/
def parts (va : Word) (n : Nat) : List (Word × Nat) :=
  let o := va.toNat % 8
  if o + n ≤ 8 then [(va, n)] else [(va, 8 - o), (va + BitVec.ofNat 64 (8 - o), n - (8 - o))]

/-- A data-side exception at a VA. -/
def memExc (c : Cause) (va : Word) (k : AccKind) : Exc := Exc.mk0 c va k

/-- R240, R287: the parts of an access translated, all before any is performed, with the type that governs the whole
and every check that can raise an exception. -/
def State.xlate (s : State) (c : CoreId) (va : Word) (n : Nat) (k : AccKind) :
    State × Except Exc (List (Nat × Nat × Word) × RType) :=
  let r := (parts va n).foldl (fun (q : State × Except Exc (List (Nat × Nat × Word) × RType)) p =>
    match q.2 with
    | .error _ => q
    | .ok (l, ty) =>
      let t := q.1.translate c p.1 k
      match t.2 with
      | .error e =>
        (match l.find? (fun x => !(t.1.accessOk x.1 x.2.1 ty k)) with
         | some x => (t.1, .error (memExc .dabort x.2.2 k))
         | none => (t.1, .error e))
      | .ok (pa, ty') => (t.1, .ok (l ++ [(pa, p.2, p.1)], rtypeMin ty ty'))) (s, .ok ([], .normalWB))
  match r.2 with
  | .error e => (r.1, .error e)
  | .ok (l, ty) =>
    if (ty.isDevice || decide (k = .amo)) && decide (va.toNat % n ≠ 0) then (r.1, .error (memExc .align va k))
    else
      match l.find? (fun p => !(r.1.accessOk p.1 p.2.1 ty k)) with
      | some p => (r.1, .error (memExc .dabort p.2.2 k))
      | none => (r.1, .ok (l, ty))

/-! The merging buffer (R234, R235). -/

/-- The youngest store to a byte that a core's own merging buffer holds (R235). -/
def Core.mbByte (k : Core) (pa : Nat) : Option Byte :=
  (k.mb.reverse.find? (fun e => e.line == pa / 64 && bitAt e.mask (pa % 64) && !e.ty.isDevice)).map
    (fun e => lineByte e.data (pa % 64))

/-- Bytes with the core's own stores over them (R235). -/
def Core.forward (k : Core) (pa : Nat) (bs : List Byte) : List Byte :=
  (bs.zipIdx).map (fun p => (k.mbByte (pa + p.2)).getD p.1)

/-- Whether the merging buffer holds every byte of a range. -/
def Core.mbHolds (k : Core) (pa n : Nat) : Bool := (List.range n).all (fun i => (k.mbByte (pa + i)).isSome)

/-- The runs of bytes that a mask names, each with its first byte and its length. -/
def maskRuns (m : BitVec 64) : List (Nat × Nat) :=
  ((List.range 64).filter (fun i => bitAt m i && !(decide (0 < i) && bitAt m (i - 1)))).map (fun i =>
    (i, ((List.range (64 - i)).takeWhile (fun j => bitAt m (i + j))).length))

/-- A store performed where an uncached entry leads (R20, R21, R233); unserved, it changes nothing (R18). -/
def State.writeOut (s : State) (acc : Access) (pa : Nat) (bs : List Byte) (ty : RType) : State :=
  if !(s.accessOk pa bs.length ty .write) then s
  else
    match s.dest pa with
    | .cis => s.cohWrite pa bs
    | .sram _ _ => s.cohWrite pa bs
    | .spill off => s.spillWrite off bs.length ty (BitVec.ofNat 64 (leNat bs))
    | .reg b off => s.devWrite acc b off bs.length (BitVec.ofNat 64 (leNat bs))
    | .ridge n off =>
      let r := s.reqSend acc n 2 off bs.length ty 0 bs 0 0
      if r.2.isSome then r.1 else r.1.ridgeWriteError acc pa
    | _ => s

/-- An entry without L2 line performed: the bytes it names reach a line of memory at one instant, elsewhere each run of them
is a write (R233, R236, R269). -/
def State.writeEntry (s : State) (e : MbEntry) : State :=
  let mem : Bool := match s.dest (e.line * 64) with
    | .cis => true
    | .sram _ _ => true
    | _ => false
  if mem && s.accessOk (e.line * 64) 64 e.ty .write then s.ncWrite e.line e.mask e.data
  else foldL (maskRuns e.mask) (fun r t => t.writeOut e.acc (e.line * 64 + r.1) (((bytesOfLine e.data).drop r.1).take r.2) e.ty) s

/-- The guard's answer for a merging-buffer entry that drains, with the address it is about, or none where it needs no
check: an owned L2 line whose record holds W (R294). -/
def State.entryGuard (s : State) (c : CoreId) (e : MbEntry) : Option (Nat × GuardAns) :=
  let own : Bool := match s.l2Find c e.line with
    | some l => decide (l.st ≠ .S) && l.w
    | none => false
  if e.ty = .normalWB ∧ (s.core c).l2En then
    (if own then none else some (e.line * 64, s.guard e.acc (e.line * 64) 64 .write))
  else
    let ans := (maskRuns e.mask).map (fun r => (e.line * 64 + r.1, s.guard e.acc (e.line * 64 + r.1) r.2 .write))
    some ((ans.find? (fun x => match x.2 with
      | .refuse _ => true
      | .ok _ _ _ => false)).getD (e.line * 64, .ok true true true))

/-- One entry of a core's merging buffer performed (R233, R234). A refused one stays, marked, and the core is frozen
(R246, R295). False where it could not be performed. -/
def State.drainEntry (s : State) (c : CoreId) (i : Nat) : State × Bool :=
  match (s.core c).mb[i]? with
  | none => (s, true)
  | some e =>
    if e.refused || s.frozen (.core c) || (s.ridgeBusy c && !(decide (e.ty = .normalWB))) then (s, false)
    else
      let without : State := s.modCore c (fun k => { k with mb := k.mb.eraseIdx i })
      match s.entryGuard c e with
      | some (pa, .refuse en) =>
        ((s.modCore c (fun k => { k with mb := k.mb.set i { e with refused := true } })).freezeCore c 1 ⟨e.acc, pa, .write, en⟩,
         false)
      | some (_, .ok r w x) =>
        if e.ty = .normalWB ∧ (s.core c).l2En then (without.drainWB c e ⟨r, w, x⟩ State.forceCommit)
        else (without.writeEntry e, true)
      | none => without.drainWB c e Rights.all State.forceCommit

/-- Every entry drained, oldest first, until one cannot be (R234). -/
def State.drainMany : Nat → CoreId → State → State × Bool
  | 0, _, s => (s, true)
  | n + 1, c, s =>
    if (s.core c).mb.isEmpty then (s, true)
    else
      let r := s.drainEntry c 0
      if r.2 then State.drainMany n c r.1 else r

/-- Every store of a core completed (FENCE, DSYNC, AMO, DEVICE access, TCOMMIT, R234). -/
def State.drainAll (s : State) (c : CoreId) : State × Bool := State.drainMany 17 c s

/-- The first `n` entries drained in order, until one cannot be (R238). -/
def State.drainFront : Nat → CoreId → State → State × Bool
  | 0, _, s => (s, true)
  | n + 1, c, s =>
    let r := s.drainEntry c 0
    if r.2 then State.drainFront n c r.1 else r

/-- The first `n` entries of a line drained, oldest first, until one cannot be (R236). -/
def State.drainSame : Nat → CoreId → Nat → State → State × Bool
  | 0, _, _, s => (s, true)
  | n + 1, c, line, s =>
    match (s.core c).mb.findIdx? (fun e => e.line == line) with
    | none => (s, true)
    | some i =>
      let r := s.drainEntry c i
      if r.2 then State.drainSame n c line r.1 else r

/-- Entry `i` drained, after the older ones of its line; behind or as a DEVICE or DEVICE-E access, after every entry before
it (R236-R238). -/
def State.drainAt (s : State) (c : CoreId) (i : Nat) : State × Bool :=
  let before := (s.core c).mb.take (i + 1)
  match (s.core c).mb[i]? with
  | none => (s, true)
  | some e =>
    if before.any (fun e => e.ty.isDevice) then State.drainFront (i + 1) c s
    else State.drainSame (before.filter (fun x => x.line == e.line)).length c e.line s

/-- Every entry of one line drained (R234, R235, R242). -/
def State.drainLine (s : State) (c : CoreId) (line : Nat) : State × Bool :=
  (List.range (s.core c).mb.length).foldl (fun r _ =>
    match (r.1.core c).mb.findIdx? (fun e => e.line == line) with
    | none => r
    | some i => if r.2 then r.1.drainAt c i else r) (s, true)

/-- The type a store has in the merging buffer: the spillway is no memory that a cache may hold (R20), so that a NORMAL-WB
store to it goes out as a NORMAL-NC one. -/
def State.bufType (s : State) (pa : Nat) (ty : RType) : RType :=
  match s.dest pa with
  | .spill _ => if ty = .normalWB then .normalNC else ty
  | _ => ty

/-- R234: bytes of a store enter the merging buffer: merged into the newest entry of the line where it is open and of the
same type, otherwise as an entry of their own; with all 16 in use the oldest drains first. -/
def State.mbEnter (s : State) (c : CoreId) (pa : Nat) (bs : List Byte) (ty : RType) : State × Bool :=
  let k := s.core c
  let acc := coreAcc c k.arch
  let ty := s.bufType pa ty
  let line := pa / 64
  let tx := k.txn.isSome
  let m := byteMask (pa % 64) bs.length
  let d : LineData := lineOfBytes (List.replicate (pa % 64) 0 ++ bs)
  let found := if ty.isDevice then none else
    ((List.range k.mb.length).reverse.find? (fun i => (k.mb[i]?.map (fun e => e.line == line)).getD false)).bind (fun i =>
      (k.mb[i]?).bind (fun e => if e.ty = ty ∧ e.inTxn = tx ∧ !e.refused ∧ e.acc = acc then some i else none))
  match found with
  | some i =>
    (s.modCore c (fun k => { k with mb := k.mb.modify i (fun e =>
      { e with mask := e.mask ||| m, data := lineMerge e.data d m }) }), true)
  | none =>
    let r := if 16 ≤ k.mb.length then s.drainEntry c 0 else (s, true)
    let e : MbEntry := { line := line, ty := ty, mask := m, data := d, dev := some (pa % 64, bs.length), acc := acc,
                         inTxn := tx, refused := false }
    (r.1.modCore c (fun k => { k with mb := k.mb ++ [e] }), r.2)

/-! Loads (R233, R235, R250, R257). -/

/-- A line allocated in the L1D or L1I (R228, R231): any other copy of it in that L1 goes. -/
def l1Alloc (ls : List L1Line) (l : BitVec 16) (line : Nat) (va : Word) : List L1Line × BitVec 16 :=
  let ls := ls.filter (fun x => x.line ≠ line)
  let set := bits va.toNat 13 6
  let inSet := ls.filter (fun x => x.set == set)
  match freeWay (inSet.map (·.way)) 4 with
  | some w => (⟨line, set, w⟩ :: ls, lfsrStep l)
  | none =>
    let w := lfsrWay l 4
    (⟨line, set, w⟩ :: ls.filter (fun x => !(x.set == set && x.way == w)), lfsrStep l)

def State.l1dAlloc (s : State) (c : CoreId) (line : Nat) (va : Word) : State :=
  s.modCore c (fun k =>
    let r := l1Alloc k.l1d k.lfsrD line va
    { k with l1d := r.1, lfsrD := r.2 })

def State.l1iAlloc (s : State) (c : CoreId) (line : Nat) (va : Word) : State :=
  s.modCore c (fun k =>
    let r := l1Alloc k.l1i k.lfsrI line va
    { k with l1i := r.1, lfsrI := r.2 })

/-- A line brought into a core's L2 with the right an access needs (R251, R294). -/
def State.fillLine (s : State) (c : CoreId) (line : Nat) (k : AccKind) : State × Except MemStop Unit :=
  let have_ : Bool := match s.l2Find c line with
    | some l => rightOk k l.r l.w l.x
    | none => false
  if have_ then (s, .ok ())
  else
    let acc := coreAcc c (s.core c).arch
    let s := s.bump (Blk.trn c.val) Ctr.TRN_L2_MISS
    match s.guard acc (line * 64) 64 k with
    | .refuse e => (s.freezeCore c 1 ⟨acc, line * 64, k, e⟩, .error .refused)
    | .ok r w x =>
      match s.l2Find c line with
      | some _ => (s.l2Mod c line (fun l => { l with r := r, w := w, x := x }), .ok ())
      | none =>
        let q := s.serveS c line ⟨r, w, x⟩ State.forceCommit
        if q.2 then (q.1, .ok ()) else (q.1, .error .aborted)

/-- Poison of the words that a byte range of a line touches. -/
def poisonIn (p : BitVec 8) (off n : Nat) : Bool :=
  (List.range 8).any (fun w => bitAt p w && decide (off / 8 ≤ w) && decide (w ≤ (off + n - 1) / 8))

/-- R328: a POISON record for a core. -/
def State.poisonRecord (s : State) (c : CoreId) (pa : Nat) : State :=
  let acc := coreAcc c (s.core c).arch
  s.errRecord { cls := 4, kind := 1, index := (s.leadOf c).val, basin := acc.basin, world := acc.world, addr := pa, info := 0 }

/-- A NORMAL-WB read of bytes within one line (R233, R243, R257). -/
def State.readWB (s : State) (c : CoreId) (pa n : Nat) (va : Word) : State × MemAns :=
  let k := s.core c
  let line := pa / 64
  if k.mbHolds pa n && !(k.txn.isSome && (s.l2Find c line).isNone) then
    (if k.txn.isSome then s.l2Mod c line (fun l => { l with rmark := true }) else s, .ok ⟨k.forward pa (List.replicate n 0), true, false, []⟩)
  else if !k.l2En then
    if k.txn.isSome then (s, .error (.abort 3))
    else
      let acc := coreAcc c k.arch
      match s.guard acc pa n .read with
      | .refuse e => (s.freezeCore c 1 ⟨acc, pa, .read, e⟩, .error .refused)
      | .ok _ _ _ =>
        let r := s.cohRead pa n
        (r.1, .ok ⟨(r.1.core c).forward pa r.2.1, false, r.2.2, []⟩)
  else
    let hit := k.l1dEn && k.l1d.any (fun x => x.line == line && x.set == bits va.toNat 13 6)
      && ((s.l2Find c line).map (·.r)).getD false
    let q := s.fillLine c line .read
    match q.2 with
    | .error e => (q.1, .error e)
    | .ok _ =>
      let s := q.1
      let s := if hit || !(s.core c).l1dEn then s else s.l1dAlloc c line va
      let s := if (s.core c).txn.isSome then s.l2Mod c line (fun l => { l with rmark := true }) else s
      match s.l2Find c line with
      | none => (s, .error .aborted)
      | some l =>
        let bs := ((bytesOfLine l.data).drop (pa % 64)).take n
        (s, .ok ⟨(s.core c).forward pa bs, hit, poisonIn l.poison (pa % 64) n && !((s.core c).mbHolds pa n), []⟩)

/-- A read of a register block as the bytes of the access (R7). -/
def State.readReg (s : State) (acc : Access) (b off n : Nat) : State × List Byte :=
  let r := s.devRead acc b off n
  (r.1, (leBytes 8 (r.2.toNat >>> (8 * (off % 8)))).take n)

/-- The answer that a core holds for a read or atomic of a ridge window (R174, R318). -/
def Core.fetchedAt (k : Core) (op pa n : Nat) : Option RFetch :=
  k.fetched.find? (fun x => x.op == op && x.pa == pa && x.len == n && x.ans.isSome)

/-- Such an answer taken: the bytes, or a data abort where the read failed. -/
def State.takeFetched (s : State) (c : CoreId) (x : RFetch) (va : Word) : State × MemAns :=
  (s.modCore c (fun k => { k with fetched := k.fetched.erase x }),
   match x.ans with
   | some (some bs) => .ok ⟨bs, false, false, []⟩
   | _ => .error (.exc (memExc .dabort va (if x.op = 3 then .amo else .read))))

/-- An uncached read: NORMAL-NC, DEVICE, DEVICE-E, or the boot ROM (R20, R21, R233, R238). -/
def State.readOut (s : State) (c : CoreId) (pa n : Nat) (ty : RType) (part : Nat) (va : Word) : State × MemAns :=
  let acc := coreAcc c (s.core c).arch
  match s.guard acc pa n .read with
  | .refuse e => (s.freezeCore c 1 ⟨acc, pa, .read, e⟩, .error .refused)
  | .ok _ _ _ =>
    match s.dest pa with
    | .cis =>
      let r := s.cohRead pa n
      (r.1, .ok ⟨(r.1.core c).forward pa r.2.1, false, r.2.2, []⟩)
    | .sram _ _ =>
      let r := s.cohRead pa n
      (r.1, .ok ⟨(r.1.core c).forward pa r.2.1, false, r.2.2, []⟩)
    | .spill off =>
      let r := s.spillRead off n ty
      (r.1, .ok ⟨(leBytes 8 r.2.toNat).take n, false, false, []⟩)
    | .reg b off =>
      let r := s.readReg acc b off n
      (r.1, .ok ⟨r.2, false, false, []⟩)
    | .rom off => (s, .ok ⟨(List.range n).map (fun i => Config.romByte (off + i)), false, false, []⟩)
    | .ridge d off =>
      (match (s.core c).fetchedAt 1 pa n with
       | some x => s.takeFetched c x va
       | none =>
         let b := s.drainLine c (pa / 64)
         if !b.2 then (b.1, .error .refused)
         else
           let r := b.1.reqSend acc d 1 off n ty 0 [] part va
           match r.2 with
           | some id => (r.1, .ok ⟨List.replicate n 0, false, false, [id]⟩)
           | none => (r.1, .error (.exc (memExc .dabort va .read))))
    | .unserved => (s, .error (.exc (memExc .dabort va .read)))

/-- One part of a load (R233, R259): inside a transaction only NORMAL-WB memory can be read. A DEVICE access waits for
every earlier store, and every access for an earlier DEVICE store (R238). -/
def State.readPart (s : State) (c : CoreId) (pa n : Nat) (ty : RType) (part : Nat) (va : Word) : State × MemAns :=
  let k := s.core c
  if k.txn.isSome && decide (ty ≠ .normalWB) then (s, .error (.abort 7))
  else if s.ridgeBusy c then (s, .error .wait)
  else
    let d : State × Bool := if ty.isDevice || k.mb.any (fun e => decide (e.ty = .device)) then s.drainAll c else (s, true)
    if !d.2 then (d.1, .error .refused)
    else if !ty.isDevice ∧ ty = .normalWB ∧ (pa < cisTop ∨ inSram (pa / 64) ∧ pa < sramBase + 0x4000000) then d.1.readWB c pa n va
    else d.1.readOut c pa n ty part va

/-- The guard's refusal of a part of an access, none where it passes or needs no check: bytes of the own merging buffer,
or an L2 line with the right (R235, R294). -/
def State.partRefused (s : State) (c : CoreId) (ty : RType) (k : AccKind) (p : Nat × Nat × Word) : Option Refused :=
  let q := s.core c
  let acc := coreAcc c q.arch
  let cached := decide (ty = .normalWB) && q.l2En
  let free : Bool := (cached && ((s.l2Find c (p.1 / 64)).map (fun l => rightOk k l.r l.w l.x && (decide (k ≠ .write) || decide (l.st ≠ .S)))).getD false)
    || (decide (k = .read) && q.mbHolds p.1 p.2.1)
  let at_ := if cached then p.1 / 64 * 64 else p.1
  if free then none
  else
    match s.guard acc at_ (if cached then 64 else p.2.1) k with
    | .refuse e => some ⟨acc, at_, k, e⟩
    | .ok _ _ _ => none

/-- R240: the guard check of both parts of a split access comes before either is performed. A refused one freezes the
core, and neither is. -/
def State.splitCheck (s : State) (c : CoreId) (ty : RType) (k : AccKind) (ps : List (Nat × Nat × Word)) : State × Bool :=
  if ps.length < 2 || ((s.core c).txn.isSome && decide (ty ≠ .normalWB)) then (s, true)
  else
    match ps.findSome? (s.partRefused c ty k) with
    | none => (s, true)
    | some r => (s.freezeCore c 1 r, false)

/-- The parts of a load read one after another (R240). -/
def State.readParts (s : State) (c : CoreId) (ty : RType) (part : Nat) : List (Nat × Nat × Word) → State × MemAns
  | [] => (s, .ok ⟨[], true, false, []⟩)
  | (pa, n, va) :: t =>
    let r := s.readPart c pa n ty part va
    match r.2 with
    | .error e => (r.1, .error e)
    | .ok v =>
      let q := State.readParts r.1 c ty (part + n) t
      match q.2 with
      | .error e => (q.1, .error e)
      | .ok w => (q.1, .ok ⟨v.bytes ++ w.bytes, v.hit && w.hit, v.poison || w.poison, v.await ++ w.await⟩)

/-- A load of up to 8 bytes, or of a chunk within one line, at a VA (R185, R240). -/
def State.loadAt (s : State) (c : CoreId) (va : Word) (n : Nat) : State × MemAns :=
  let t := s.xlate c va n .read
  match t.2 with
  | .error e => (t.1, .error (.exc e))
  | .ok (ps, ty) =>
    let g := t.1.splitCheck c ty .read ps
    if g.2 then g.1.readParts c ty 0 ps else (g.1, .error .refused)

/-- The parts of a store entered into the merging buffer (R234, R240). -/
def State.writeParts (s : State) (c : CoreId) (ty : RType) : List (Nat × Nat × Word) → List Byte → State × Option MemStop
  | [], _ => (s, none)
  | (pa, n, _) :: t, bs =>
    let r := s.mbEnter c pa (bs.take n) ty
    if r.2 then State.writeParts r.1 c ty t (bs.drop n) else (r.1, some .refused)

/-- A store of up to 8 bytes, or of a chunk within one line, at a VA (R234, R240, R257, R259). -/
def State.storeAt (s : State) (c : CoreId) (va : Word) (bs : List Byte) : State × Option MemStop :=
  let t := s.xlate c va bs.length .write
  match t.2 with
  | .error e => (t.1, some (.exc e))
  | .ok (ps, ty) =>
    let k := t.1.core c
    if k.txn.isSome && decide (ty ≠ .normalWB) then (t.1, some (.abort 7))
    else if k.txn.isSome && !k.l2En then (t.1, some (.abort 3))
    else if t.1.ridgeBusy c then (t.1, some .wait)
    else
      let g := t.1.splitCheck c ty .write ps
      if g.2 then g.1.writeParts c ty ps bs else (g.1, some .refused)

/-- An AMO (R205, R255, R256): ordered after every earlier access, performed at the home node, the cistern controller
or the target device of a ridge window; the spillway does not accept it and reads 0 (R20). -/
def State.amoAt (s : State) (c : CoreId) (va : Word) (fn : BitVec 6) (opnd cmp : Word) : State × MemAns :=
  let n := amoSize fn
  if !(amoLegal fn) then (s, .error (.exc (memExc .illegal (s.core c).arch.pc .amo)))
  else
    let t := s.xlate c va n .amo
    match t.2 with
    | .error e => (t.1, .error (.exc e))
    | .ok (ps, ty) =>
      match ps with
      | [] => (t.1, .error .wait)
      | (pa, _, _) :: _ =>
        let s := t.1
        if (s.core c).txn.isSome then (s, .error (.abort 7))
        else if ty.isDevice then (s, .error (.exc (memExc .dabort va .amo)))
        else if s.ridgeOpen c then (s, .error .wait)
        else
          let d := s.drainAll c
          if !d.2 then (d.1, .error .refused)
          else
            let s := d.1
            let acc := coreAcc c (s.core c).arch
            match s.guard acc pa n .amo with
            | .refuse e => (s.freezeCore c 1 ⟨acc, pa, .amo, e⟩, .error .refused)
            | .ok _ _ _ =>
              match s.dest pa with
              | .ridge dv off =>
                (match (s.core c).fetchedAt 3 pa n with
                 | some x => s.takeFetched c x va
                 | none =>
                   let r := s.reqSend acc dv 3 off n ty fn (leBytes 8 opnd.toNat ++ leBytes 8 cmp.toNat) 0 va
                   match r.2 with
                   | some id => (r.1, .ok ⟨List.replicate n 0, false, false, [id]⟩)
                   | none => (r.1, .error (.exc (memExc .dabort va .amo))))
              | .cis =>
                let r := s.amoHome (decide (ty = .normalNC)) pa fn opnd cmp
                (r.1, .ok ⟨leBytes n r.2.1.toNat, false, r.2.2, []⟩)
              | .sram _ _ =>
                let r := s.amoHome (decide (ty = .normalNC)) pa fn opnd cmp
                (r.1, .ok ⟨leBytes n r.2.1.toNat, false, r.2.2, []⟩)
              | .spill off => ((s.spillRead off n ty).1, .ok ⟨List.replicate n 0, false, false, []⟩)
              | _ => (s, .error (.exc (memExc .dabort va .amo)))

/-! Maintenance by address (R241, R242). -/

/-- WBP and WBM at the home node: a dirty L2 copy goes to the home slice, copies staying valid; with `toMem` a dirty
Pool copy goes on to the cistern. -/
def State.homeClean (s : State) (line : Nat) (toMem : Bool) : State :=
  let h := s.homeOf line
  let s := s.commitHolders h line State.forceCommit
  let pre := s.dirFind h line
  let s := s.snoopAll h line false none
  let s := match pre with
    | some e =>
      if e.em then s.dirMod h line (fun x =>
        { x with em := false, sharers := setBit 0 e.owner.val ((s.l2Find e.owner line).isSome) }) else s
    | none => s
  let s := s.modSlice h (fun x => { x with dir := x.dir.filter DirEnt.live })
  if !toMem then s
  else
    match s.poolFind h line with
    | some l =>
      (s.poolClean h l).modSlice h (fun x => { x with lines := x.lines.map (fun y =>
        if y.line == line then { y with dirty := false } else y) })
    | none => s

/-- INVD at the home node: every copy goes without write-back; a transaction that marks the line aborts (R258). -/
def State.homeDrop (s : State) (line : Nat) : State :=
  let h := s.homeOf line
  let s := s.commitHolders h line State.forceCommit
  let s := foldL allCores (fun o t =>
    match t.l2Find o line with
    | some l =>
      let t := if l.rmark || l.wmark then t.txAbort o 2 0 else t
      t.l2Remove o line
    | none => t) s
  let s := s.modSlice h (fun x => { x with dir := (x.dir.map (fun e =>
    if e.line == line then { e with em := false, sharers := 0 } else e)).filter DirEnt.live })
  if inSram line then s else s.poolRemove h line

/-- A CMO of code 0 to 3 ordered at the home node (R241, R247). -/
def State.cmoHome (s : State) (code line : Nat) : State :=
  let h := s.homeOf line
  let s := s.bump (Blk.pol h.val) Ctr.POL_CMO
  if code = 0 then s.homeClean line false
  else if code = 1 then s.homeClean line true
  else if code = 2 then
    let s := (s.homeClean line true).homeInvalidate line
    if inSram line then s else s.poolRemove h line
  else s.homeDrop line

/-- The right a CMO needs (R241). -/
def cmoKind (code : Nat) : AccKind := if code ≤ 2 then .read else .write

/-- A CMO of a core (R241): the entry for the line drains first (R242); ZERO is a store of a whole line. -/
def State.cmoAt (s : State) (c : CoreId) (code : Nat) (va : Word) : State × Option MemStop :=
  let k := s.core c
  if 4 < code then (s, some (.exc (memExc .illegal k.arch.pc .read)))
  else if code = 3 ∧ k.arch.level = .U then (s, some (.exc (memExc .privileged 0 .read)))
  else if k.txn.isSome then (s, some (.abort 12))
  else
    let kd := cmoKind code
    let t := s.translate c (va &&& 0xFFFFFFFFFFFFFFC0) kd
    match t.2 with
    | .error e => (t.1, some (.exc { e with addr := if e.stage2 then e.addr else va }))
    | .ok (pa, ty) =>
      let s := t.1
      if ty.isDevice || !(s.accessOk pa 64 ty kd) || decide (¬(pa < cisTop ∨ inSram (pa / 64) ∧ pa < sramBase + 0x4000000)) then
        (s, some (.exc (memExc .dabort va kd)))
      else if s.ridgeBusy c then (s, some .wait)
      else
        let d := s.drainLine c (pa / 64)
        if !d.2 then (d.1, some .refused)
        else
          let s := d.1
          let acc := coreAcc c (s.core c).arch
          match s.guard acc pa 64 kd with
          | .refuse e => (s.freezeCore c 1 ⟨acc, pa, kd, e⟩, some .refused)
          | .ok _ _ _ =>
            if code = 4 then
              let r := s.mbEnter c pa (List.replicate 64 0) ty
              (r.1, if r.2 then none else some .refused)
            else (s.cmoHome code (pa / 64), none)

/-- PRF (R205, R259): a line brought into the L2, or nothing where translation, type or guard would refuse it, and
inside a transaction. -/
def State.prefetch (s : State) (c : CoreId) (va : Word) : State :=
  if (s.core c).txn.isSome || !((s.core c).l2En) then s
  else
    let t := s.translate c va .read
    match t.2 with
    | .error _ => s
    | .ok (pa, ty) =>
      if ty ≠ .normalWB ∨ !(s.accessOk pa 1 ty .read) ∨ ¬(pa < cisTop ∨ inSram (pa / 64) ∧ pa < sramBase + 0x4000000) then s
      else
        match s.guard (coreAcc c (s.core c).arch) (pa / 64 * 64) 64 .read with
        | .refuse _ => s
        | .ok _ _ _ => (t.1.fillLine c (pa / 64) .read).1

end Sys2Proof.Machine
end

