-- ==== Sys2Proof/Machine/Operands.lean ====
section
/-! DEFINITION. Operands of Tarn syllables: registers read at issue (10_tarn_isa.md R185, R186), immediates with EXT
(R189, R190), chain reads of accumulators and carry registers (R196), destinations and their landing (R191-R193). -/

namespace Sys2Proof.Machine

/-- The g63 bank of a state (R276, R284). -/
def bankIdx (w : World) (l : Level) : Fin 6 :=
  match w, l with
  | .S, .U => 0
  | .S, .K => 1
  | _, .M => 2
  | .N, .U => 3
  | .N, .K => 4
  | _, .H => 5

/-- The destination a g-register field names: g63 is the bank of the own state (R186). -/
def CoreArch.gdst (a : CoreArch) (n : BitVec 6) : Dst :=
  if n = 63 then .bank (bankIdx a.world a.level) else .g n.toFin

/-- The value of a g-register: g0 reads 0 (R186). -/
def CoreArch.gval (a : CoreArch) (n : BitVec 6) : Word :=
  if n = 0 then 0
  else if n = 63 then a.banks.get (bankIdx a.world a.level)
  else a.g.get n.toFin

/-- The destination an f-register field names; fields above 31 are illegal (R184). -/
def fdst (n : BitVec 6) : Dst := .f (Fin.ofNat 32 n.toNat)

/-- The value of an f-register. -/
def CoreArch.fval (a : CoreArch) (n : BitVec 6) : Word := a.f.get (Fin.ofNat 32 n.toNat)

/-- An f-register field inside its file (R184). -/
def fok (n : BitVec 6) : Bool := decide (n.toNat < 32)

/-- The newest value an in-flight fixed-latency result gives a destination, else what its file holds: what a chain
reader sees (R196). -/
def Core.chain (k : Core) (d : Dst) (now : BitVec 128) : BitVec 128 :=
  match k.pend.reverse.find? (fun p => decide (p.dst = d)) with
  | some p => p.val
  | none => now

/-- R190: an immediate of width `w` after its EXT syllables, sign-extended; the low 64 bits. -/
def immOf (y : Syl) (w v : Nat) : Word :=
  match y.ext with
  | [] => sext w (BitVec.ofNat 64 v)
  | [e] => sext (24 + w) (BitVec.ofNat 64 (e.toNat * 2 ^ w + v))
  | e :: f :: _ =>
    if 48 + w < 64 then sext (48 + w) (BitVec.ofNat 64 ((e.toNat * 2 ^ 24 + f.toNat) * 2 ^ w + v))
    else BitVec.ofNat 64 ((e.toNat * 2 ^ 24 + f.toNat) * 2 ^ w + v)

/-- The execution slots a syllable takes (R183). -/
inductive Slot where
  | i
  | m
  | x
  | b
  | macd
  | alone
  deriving DecidableEq, Repr

/-- What a syllable asks of its bundle (R183, R184, R192): its slot, the registers it reads and writes, whether it
writes FL, whether it takes an immediate that EXT may extend, whether its own fields are legal, the divide unit it needs
(R209), and whether it waits for the flags of every earlier floating-point operation (R217). -/
structure SylInfo where
  slot : Slot
  reads : List Dst := []
  writes : List Dst := []
  fl : Bool := false
  imm : Bool := false
  legal : Bool := true
  unit : Option LUnit := none
  fpSync : Bool := false
  deriving DecidableEq, Repr

/-- A result of fixed latency added to a bundle (R191). -/
def Bundle.wr (b : Bundle) (k : Core) (d : Dst) (v : Word) (lat : Nat) : Bundle :=
  { b with writes := b.writes ++ [⟨d, v.setWidth 128, k.bn + lat, 0⟩] }

/-- A 128-bit accumulator result added to a bundle (R196). -/
def Bundle.wrAcc (b : Bundle) (k : Core) (n : Fin 4) (v : BitVec 128) (lat : Nat) : Bundle :=
  { b with writes := b.writes ++ [⟨.acc n, v, k.bn + lat, 0⟩] }

/-- A floating-point result with its flags added to a bundle (R217). -/
def Bundle.wrF (b : Bundle) (k : Core) (d : Dst) (r : Word × BitVec 5) (lat : Nat) : Bundle :=
  { b with writes := b.writes ++ [⟨d, r.1.setWidth 128, k.bn + lat, r.2⟩] }

/-- A long operation added to a bundle: its pending mark stalls from the next bundle on (R192). -/
def Bundle.long (b : Bundle) (k : Core) (d : Dst) (v : Word) (fl : BitVec 5) (u : LUnit) : Bundle :=
  { b with longs := b.longs ++ [⟨d, v.setWidth 128, fl, u, k.bn + 1, [], none, (0, false), k.txn.isSome⟩] }

/-- An exception of a syllable: the first of the bundle is kept. -/
def Bundle.fault (b : Bundle) (e : Exc) : Bundle := { b with exc := b.exc.or (some e) }

/-- A memory access of a bundle, in order (R185). -/
def Bundle.access (b : Bundle) (m : MemOp) : Bundle := { b with mem := b.mem ++ [m] }

/-- What the B-class syllable does when the bundle completes. -/
def Bundle.op (b : Bundle) (o : BOp) : Bundle := { b with bop := some o }

/-- A conditional branch: what its atom tells (R362). -/
def Bundle.cond (b : Bundle) (taken : Bool) : Bundle := { b with atom := some taken }

/-- An indirect branch (R362). -/
def Bundle.indirect (b : Bundle) : Bundle := { b with ind := true }

/-- FL of a bundle: the new C if written, and whether OV is set (R194). -/
def Bundle.flags (b : Bundle) (c : Option Bool) (ov : Bool) : Bundle := { b with fl := some (c, ov) }

end Sys2Proof.Machine
end

