-- ==== Sys2Proof/Machine/Bundle.lean ====
section
/-! DEFINITION. A bundle: its syllables are staged as they issue and come about together at the stop bit
(10_tarn_isa.md R182-R185), with stalls for pending registers (R192), memory accesses in order, control flow,
loop-back (R198), level changes (R201), transactions (R202), control writes (R188) and outside accesses of a locked
pair (17_fault_tolerance.md R318). -/

namespace Sys2Proof.Machine

/-! Waiting for pending registers (R192). -/

/-- A long operation whose pending mark a register meets. -/
def LongOp.marks (o : LongOp) (bn : Nat) (d : Dst) : Bool := decide (o.blocks ≤ bn) && decide (o.dst = d) && decide (d ≠ .g 0)

/-- A core after a stall until the long operations of `hit` have landed; none where the wait is for a ridge answer. -/
def Core.landHit (k : Core) (hit : LongOp → Bool) : Option Core :=
  if k.longs.any (fun o => hit o && !o.await.isEmpty) then none
  else
    let done := k.longs.filter hit
    let rest := k.longs.filter (fun o => !(hit o))
    let owed := done.filter (fun o => o.abort.isSome)
    some { k with arch := done.foldl landOp k.arch,
                  longs := rest ++ owed.map (fun o => { o with dst := .g 0, val := 0, flags := 0 }) }

/-- The stall that the registers a syllable reads, or a busy divide unit (R209), ask for: a reader within the load
latency of a load that misses reads the old value and does not stall (R192). -/
def Core.stallFor (k : Core) (ds : List Dst) (u : Option LUnit) : Option Core :=
  k.landHit (fun o => ds.any (o.marks k.bn) || decide (u = some o.unit))

/-- The stall that the registers a syllable writes ask for: a pending register waits for its result, whatever the bundle
(R192). -/
def Core.holdFor (k : Core) (ds : List Dst) : Option Core :=
  k.landHit (fun o => ds.any (fun d => decide (o.dst = d) && decide (d ≠ .g 0)))

/-- FPC as a stalled MFCR or MTCR finds it: the flags of every earlier operation merged (R217). -/
def Core.mergeFlags (k : Core) : Core :=
  let fl : BitVec 5 := (k.pend.map (·.flags)).foldl (· ||| ·) 0
  let fp := k.longs.filter (fun o => decide (o.unit = .fdiv))
  let a := fp.foldl landOp { k.arch with fpc := k.arch.fpc ||| (BitVec.ofNat 64 fl.toNat <<< 8) }
  { k with arch := a, pend := k.pend.map (fun p => { p with flags := 0 }),
           longs := k.longs.filter (fun o => decide (o.unit ≠ .fdiv)) }

/-- The VA of a poisoned load whose imprecise abort has not been taken (R328). -/
def Core.owed (k : Core) : Option Word :=
  (k.longs.find? (fun o => decide (o.dst = .g 0) && o.await.isEmpty && o.abort.isSome)).bind (·.abort)

/-- R328: the imprecise abort of a poisoned load, taken at a bundle boundary; one that an injected bundle brings waits
until the core goes on (R359). -/
def State.imprecise (s : State) (c : CoreId) (va : Word) : State :=
  let s := s.modCore c (fun k => { k with bundle := Bundle.empty,
                                          longs := k.longs.filter (fun o => !(decide (o.abort = some va) && decide (o.dst = .g 0))) })
  if (s.core c).dbg.inject then
    s.modCore c (fun k => { k with longs := k.longs ++ [⟨.g 0, 0, 0, .miss, k.bn, [], some va, (0, false), false⟩] })
  else s.raise c { Exc.mk0 .dabort va .read with imprecise := true } (s.core c).arch.pc

/-! Illegal bundles (R184). -/

/-- A list without two equal members. -/
def noDup (l : List Dst) : Bool :=
  match l with
  | [] => true
  | x :: t => !(t.contains x) && noDup t

/-- Whether the bundle staged so far meets a condition of R184, at the address `pc`. -/
def Bundle.isIllegal (b : Bundle) (pc : Word) (stopped : Bool) : Bool :=
  b.illegal || decide (2 < b.nI) || decide (2 < b.nM) || decide (1 < b.nX) || decide (1 < b.nB)
    || (b.alone && decide (b.syls ≠ 1)) || decide (6 < b.syls) || !stopped
    || decide (16 < pc.toNat % 64 / 4 + b.syls)
    || !(noDup (b.dsts.filter (fun d => decide (d ≠ .g 0)))) || decide (1 < b.flWriters)

/-- A syllable counted into its bundle (R183). -/
def Bundle.count (b : Bundle) (y : Syl) (i : SylInfo) : Bundle :=
  let n : Nat × Nat × Nat × Nat :=
    match i.slot with
    | .i => (1, 0, 0, 0)
    | .m => (0, 1, 0, 0)
    | .x => (0, 0, 1, 0)
    | .b => (0, 0, 0, 1)
    | .macd => (0, 2, 1, 0)
    | .alone => (0, 1, 0, 0)
  { b with
    syls := b.syls + 1 + y.ext.length, nI := b.nI + n.1, nM := b.nM + n.2.1, nX := b.nX + n.2.2.1,
    nB := b.nB + n.2.2.2, alone := b.alone || decide (i.slot = .alone), dsts := b.dsts ++ i.writes,
    flWriters := b.flWriters + (if i.fl then 1 else 0),
    illegal := b.illegal || !i.legal || decide (2 < y.ext.length) || (!y.ext.isEmpty && !i.imm) }

/-! The memory accesses of a bundle. -/

/-- What the accesses of a bundle have given so far. -/
structure Done where
  s : State
  stop : Option MemStop
  writes : List PendWrite
  longs : List LongOp
  poison : Option Word
  ret : Option Word
  again : Bool
  deriving DecidableEq, Repr

/-- The value of a load from its bytes (R205). -/
def loadVal (bs : List Byte) (size : Nat) (signed : Bool) : Word :=
  let v := BitVec.ofNat 64 (leNat bs)
  if signed then sext (8 * size) v else v

/-- R209: with all 12 load-miss slots in use the oldest miss lands first; none where it waits for a ridge answer. -/
def Core.freeMiss (k : Core) (n : Nat) : Option Core :=
  if (k.longs.filter (fun o => decide (o.unit = .miss))).length + n ≤ 12 then some k
  else
    match k.longs.find? (fun o => decide (o.unit = .miss) && o.await.isEmpty && decide (o.dst ≠ .g 0)) with
    | none => none
    | some o =>
      some { k with arch := landOp k.arch o,
                    longs := (k.longs.erase o) ++ (if o.abort.isSome then [{ o with dst := .g 0, val := 0 }] else []) }

/-- The result of a read put into a destination: fixed after an L1D hit, long after a miss (R192); a poisoned one is
0 and owes an abort (R328). -/
def Done.result (q : Done) (c : CoreId) (d : Dst) (va : Word) (v : MemVal) (size : Nat) (signed : Bool) (long : Bool) : Done :=
  let k := q.s.core c
  let val : Word := if v.poison then 0 else loadVal v.bytes size signed
  let s := if v.poison then
      (match (q.s.xlate c va size .read).2 with
       | .ok (p :: _, _) => q.s.poisonRecord c p.1
       | _ => q.s)
    else q.s
  if v.hit && !long then
    { q with s := s, writes := q.writes ++ [⟨d, val.setWidth 128, k.bn + 3, 0⟩],
             poison := if v.poison then some va else q.poison }
  else
    { q with s := s, longs := q.longs ++ [⟨d, val.setWidth 128, 0, .miss, k.bn + (if long then 1 else 3), v.await,
      if v.poison then some va else none, (size, signed), k.txn.isSome⟩] }

/-- R295: a refused read gives 0. -/
def Done.zero (q : Done) (c : CoreId) (d : Dst) : Done :=
  let k := q.s.core c
  { q with longs := q.longs ++ [⟨d, 0, 0, .miss, k.bn + 3, [], none, (8, false), k.txn.isSome⟩] }

/-- A read's answer taken up: its value, or what stops the bundle. -/
def Done.take (q : Done) (c : CoreId) (d : Dst) (va : Word) (size : Nat) (signed long : Bool) (r : State × MemAns) : Done :=
  match r.2 with
  | .ok v => { q with s := r.1 }.result c d va v size signed long
  | .error .refused => { q with s := r.1 }.zero c d
  | .error e => { q with s := r.1, stop := some e }

/-- A store's answer taken up; a refused one leaves the core frozen and the bundle complete. -/
def Done.after (q : Done) (r : State × Option MemStop) : Done :=
  match r.2 with
  | none => { q with s := r.1 }
  | some .refused => { q with s := r.1 }
  | some e => { q with s := r.1, stop := some e }

/-- R197, R209: the two fetches of a MACD and what they make of its accumulator and carry register. -/
def Done.macd (q : Done) (c : CoreId) (n : Fin 4) (cd : Dst) (acc : BitVec 128) (cin : Word) (va vb : Word)
    (pa pb : PendWrite) : Done :=
  if va.toNat % 8 ≠ 0 then { q with stop := some (.exc (memExc .align va .read)) }
  else if vb.toNat % 8 ≠ 0 then { q with stop := some (.exc (memExc .align vb .read)) }
  else
    let chk : Word → Option MemStop := fun v =>
      match (q.s.xlate c v 8 .read).2 with
      | .error e => some (.exc e)
      | .ok (_, ty) =>
        if ty.isDevice then some (.exc (memExc .dabort v .read)) else none
    match (chk va).or (chk vb) with
    | some e => { q with stop := some e }
    | none =>
      let x := q.s.loadAt c va 8
      match x.2 with
      | .error .refused => { q with s := x.1, writes := q.writes ++ [pa, pb] }
      | .error e => { q with s := x.1, stop := some e }
      | .ok xv =>
        let y := x.1.loadAt c vb 8
        match y.2 with
        | .error .refused => { q with s := y.1, writes := q.writes ++ [pa, pb] }
        | .error e => { q with s := y.1, stop := some e }
        | .ok yv =>
          let k := y.1.core c
          let bad := xv.poison || yv.poison
          let sum := acc.toNat + leNat xv.bytes * leNat yv.bytes
          let av : BitVec 128 := if bad then 0 else BitVec.ofNat 128 sum
          let cv : Word := if bad then 0 else cin + BitVec.ofNat 64 (sum / 2 ^ 128)
          let bva := if xv.poison then va else vb
          let s := if bad then
              (match (y.1.xlate c bva 8 .read).2 with
               | .ok (p :: _, _) => y.1.poisonRecord c p.1
               | _ => y.1)
            else y.1
          if xv.hit && yv.hit then
            { q with s := s, writes := q.writes ++ [pa, pb, ⟨.acc n, av, k.bn + 6, 0⟩, ⟨cd, cv.setWidth 128, k.bn + 6, 0⟩],
                     poison := if bad then some bva else q.poison }
          else
            { q with s := s, writes := q.writes ++ [pa, pb],
                     longs := q.longs ++ [⟨.acc n, av, 0, .miss, k.bn + 1, [], if bad then some bva else none, (8, false), k.txn.isSome⟩,
                                          ⟨cd, cv.setWidth 128, 0, .miss, k.bn + 1, [], none, (8, false), k.txn.isSome⟩] }

/-! Block-repeat instructions (R199). -/

/-- The chunk of a block operation: for BCOPY its direction. Sizes of R199. -/
def chunkOf (op : Nat) (vd va vb : Word) : Bool × Nat :=
  let d := vd.toNat
  let a := va.toNat
  let n := vb.toNat
  let down := decide (op = 0) && decide (a < d) && decide (d < a + n)
  if op = 2 then (false, min n (64 - d % 64))
  else if down then (true, min n (min ((d + n - 1) % 64 + 1) ((a + n - 1) % 64 + 1)))
  else (false, min n (min (64 - d % 64) (64 - a % 64)))

/-- The registers of a block operation written in place, as they stand after a chunk (R199). -/
def CoreArch.putBlock (a : CoreArch) (d x b : Fin 64) (vd vx vb : Word) : CoreArch :=
  ((a.put (.g d) (vd.setWidth 128)).put (.g x) (vx.setWidth 128)).put (.g b) (vb.setWidth 128)

/-- Translation and type checks of one operand of a chunk: DEVICE types take a data abort (R199). -/
def State.chunkCheck (s : State) (c : CoreId) (va : Word) (n : Nat) (k : AccKind) : Option MemStop :=
  let t := s.translate c va k
  match t.2 with
  | .error e => some (.exc e)
  | .ok (pa, ty) =>
    if ty.isDevice || !(t.1.accessOk pa n ty k) then some (.exc (memExc .dabort va k)) else none

/-- The bytes a chunk reads (one line, R199). -/
def State.chunkRead (s : State) (c : CoreId) (va : Word) (n : Nat) : State × MemAns :=
  let t := s.translate c va .read
  match t.2 with
  | .error e => (t.1, .error (.exc e))
  | .ok (pa, ty) => t.1.readPart c pa n ty 0 va

/-- The bytes a chunk writes (one line, R199). -/
def State.chunkWrite (s : State) (c : CoreId) (va : Word) (bs : List Byte) : State × Option MemStop :=
  let t := s.translate c va .write
  match t.2 with
  | .error e => (t.1, some (.exc e))
  | .ok (pa, ty) =>
    let k := t.1.core c
    if k.txn.isSome && decide (ty ≠ .normalWB) then (t.1, some (.abort 7))
    else if k.txn.isSome && !k.l2En then (t.1, some (.abort 3))
    else
      let r := t.1.mbEnter c pa bs ty
      (r.1, if r.2 then none else some .refused)

/-- One chunk of a block operation (R199): 0 BCOPY, 1 BCMP, 2 BFILL. -/
def Done.block (q : Done) (c : CoreId) (op : Nat) (d a b : Fin 64) (vd va vb : Word) : Done :=
  if vb = 0 then q
  else
    let ck := chunkOf op vd va vb
    let n := ck.2
    let off : Word := if ck.1 then vb - BitVec.ofNat 64 n else 0
    let k64 : Word := BitVec.ofNat 64 n
    let chk : Option MemStop :=
      if op = 0 then (q.s.chunkCheck c (va + off) n .read).or (q.s.chunkCheck c (vd + off) n .write)
      else if op = 1 then (q.s.chunkCheck c vd n .read).or (q.s.chunkCheck c va n .read)
      else q.s.chunkCheck c vd n .write
    match chk with
    | some e => { q with stop := some e }
    | none =>
      let fin : State → Word → Word → Word → Bool → Option Word → Done := fun s vd' va' vb' again p =>
        { q with s := s.modArch c (fun x => if op = 2 then (x.put (.g d) (vd'.setWidth 128)).put (.g b) (vb'.setWidth 128)
                                            else x.putBlock d a b vd' va' vb'),
                 again := again, poison := p }
      if op = 2 then
        let bs := (List.range n).map (fun i => BitVec.ofNat 8 (va.toNat >>> (8 * ((vd.toNat + i) % 8))))
        let w := q.s.chunkWrite c vd bs
        match w.2 with
        | some .refused => { q with s := w.1 }
        | some e => { q with s := w.1, stop := some e }
        | none => fin w.1 (vd + k64) va (vb - k64) (decide (vb ≠ k64)) none
      else if op = 0 then
        let r := q.s.chunkRead c (va + off) n
        match r.2 with
        | .error .refused => { q with s := r.1 }
        | .error e => { q with s := r.1, stop := some e }
        | .ok v =>
          let s := if v.poison then r.1.poisonRecord c ((match (r.1.translate c (va + off) .read).2 with | .ok p => p.1 | _ => 0)) else r.1
          let w := s.chunkWrite c (vd + off) (if v.poison then List.replicate n 0 else v.bytes)
          match w.2 with
          | some .refused => { q with s := w.1 }
          | some e => { q with s := w.1, stop := some e }
          | none =>
            fin w.1 (if ck.1 then vd else vd + k64) (if ck.1 then va else va + k64) (vb - k64) (decide (vb ≠ k64))
              (if v.poison then some (va + off) else none)
      else
        let r := q.s.chunkRead c vd n
        match r.2 with
        | .error .refused => { q with s := r.1 }
        | .error e => { q with s := r.1, stop := some e }
        | .ok x =>
          let t := r.1.chunkRead c va n
          match t.2 with
          | .error .refused => { q with s := t.1 }
          | .error e => { q with s := t.1, stop := some e }
          | .ok y =>
            let bad := x.poison || y.poison
            let pva := if x.poison then vd else va
            let s := if bad then t.1.poisonRecord c ((match (t.1.translate c pva .read).2 with | .ok p => p.1 | _ => 0)) else t.1
            let xb := if x.poison then List.replicate n 0 else x.bytes
            let yb := if y.poison then List.replicate n 0 else y.bytes
            let p := if bad then some pva else none
            match (List.range n).find? (fun i => xb[i]? ≠ yb[i]?) with
            | some j =>
              let j64 : Word := BitVec.ofNat 64 j
              fin s (vd + j64) (va + j64) (vb - j64) false p
            | none => fin s (vd + k64) (va + k64) (vb - k64) (decide (vb ≠ k64)) p

/-- The stack load of RET (R200): its target must be 4-byte aligned. -/
def Done.popRet (q : Done) (c : CoreId) (va : Word) : Done :=
  if va.toNat % 8 ≠ 0 then { q with stop := some (.exc (memExc .align va .read)) }
  else
    let k := q.s.core c
    let r := q.s.loadAt c va 8
    let g63 : PendWrite := ⟨k.arch.gdst 63, (va + 8).setWidth 128, k.bn + 1, 0⟩
    match r.2 with
    | .error .refused => { q with s := r.1, writes := q.writes ++ [g63], ret := some 0 }
    | .error e => { q with s := r.1, stop := some e }
    | .ok v =>
      let t : Word := if v.poison then 0 else loadVal v.bytes 8 false
      if t.toNat % 4 ≠ 0 then { q with s := r.1, stop := some (.exc (memExc .align 0 .read)) }
      else
        let s := if v.poison then
            (match (r.1.xlate c va 8 .read).2 with
             | .ok (p :: _, _) => r.1.poisonRecord c p.1
             | _ => r.1)
          else r.1
        { q with s := s, writes := q.writes ++ [g63], ret := some t, poison := if v.poison then some va else q.poison }

/-- One memory access of a bundle (R185). -/
def Done.perform (q : Done) (c : CoreId) (m : MemOp) : Done :=
  if q.stop.isSome then q
  else
    match m with
    | .load d va size sg =>
      (match (q.s.core c).freeMiss 1 with
       | none => { q with stop := some .wait }
       | some k => { q with s := q.s.setCore c k }.take c d va size sg false ((q.s.setCore c k).loadAt c va size))
    | .store va size v => q.after (q.s.storeAt c va (leBytes size v.toNat))
    | .amo d va fn o p =>
      (match (q.s.core c).freeMiss 1 with
       | none => { q with stop := some .wait }
       | some k => { q with s := q.s.setCore c k }.take c d va (amoSize fn) false true ((q.s.setCore c k).amoAt c va fn o p))
    | .cmo code va => q.after (q.s.cmoAt c code va)
    | .prf va => { q with s := q.s.prefetch c va }
    | .macd n cd acc cin va vb pa pb =>
      (match (q.s.core c).freeMiss 2 with
       | none => { q with stop := some .wait }
       | some k => { q with s := q.s.setCore c k }.macd c n cd acc cin va vb pa pb)
    | .block op d a b vd va vb => q.block c op d a b vd va vb
    | .pushRet _ => q
    | .popRet va => q.popRet c va

/-- The stack accesses of CALL, CALLR and RET, which come last in a bundle (R185, R200). -/
def MemOp.isB : MemOp → Bool
  | .pushRet _ => true
  | .popRet _ => true
  | _ => false

/-- The accesses of a bundle in the order M0, M1, B, the return address of a call filled in (R185, R200). -/
def orderMem (next : Word) (ms : List MemOp) : List MemOp :=
  ms.filter (fun m => !m.isB) ++ (ms.filter MemOp.isB).map (fun m =>
    match m with
    | .pushRet va => .store va 8 next
    | m => m)

/-- Every memory access of a bundle, in order (R185). -/
def State.performAll (s : State) (c : CoreId) (ms : List MemOp) : Done :=
  ms.foldl (fun q m => q.perform c m) ⟨s, none, [], [], none, none, false⟩

/-! Control registers (R187, R188, R284). -/

/-- An exception without an address. -/
def plainExc (c : Cause) : Exc := Exc.mk0 c 0 .read

/-- ILLEGAL of the bundle at `pc` (R184). -/
def illegalExc (pc : Word) : Exc := Exc.mk0 .illegal pc .read

/-- TXST (R261). -/
def Core.txst (k : Core) : Word :=
  BitVec.ofNat 64 (k.txSeq.toNat * 2 ^ 20 + (if k.txn.isSome then k.wset else 0) * 2 ^ 10
    + ((k.txn.map (·.depth)).getD 0))

/-- What an MFCR of a number gives at issue, or the exception it raises (R187, R284). SPT_CLAIM and DTBNOW act when
the bundle completes. DBGDATA answers an injected bundle only (R359). -/
def Core.mfcr (k : Core) (num : BitVec 12) : Except Exc Word :=
  let a := k.arch
  let n := ctlAbs a num
  if num = 0x1C0 then (if k.dbg.inject then .ok k.dbg.data else .error (illegalExc a.pc))
  else if !(ctlDefined num.toNat) then .error (illegalExc a.pc)
  else if !(ctlReach a.world a.level num.toNat false) then .error (plainExc .privileged)
  else if n = 0x181 then .ok k.txst
  else if n = 0x1B1 then .ok (k.dtbSec.setWidth 64)
  else .ok (a.ctl n)

/-- The value of SPT_IE after a write at a level: only its own bits are written (16_spout_interrupts.md). -/
def ieWrite (a : CoreArch) (old v : Word) : Word :=
  (old &&& ~~~(ieMask a.world a.level)) ||| (v &&& ieMask a.world a.level)

/-- The newest value written to a control register that is not in force yet, else the one in force. -/
def Core.ctlNewest (k : Core) (n : Nat) : Word :=
  match k.ctl.reverse.find? (fun w => w.num.toNat == n) with
  | some w => w.val
  | none => k.arch.ctl n

/-- The exception an MTCR raises (R187, R284, R288, R291). -/
def State.mtcrExc (s : State) (c : CoreId) (num : BitVec 12) (v : Word) : Option Exc :=
  let a := (s.core c).arch
  let n := ctlAbs a num
  if num = 0x1C0 then (if (s.core c).dbg.inject then none else some (illegalExc a.pc))
  else if !(ctlDefined num.toNat) || ctlReadOnly n then some (illegalExc a.pc)
  else if !(ctlReach a.world a.level num.toNat true) then some (plainExc .privileged)
  else if n = 0x138 then
    let op := bits v.toNat 3 0
    if 7 ≤ op then some (illegalExc a.pc)
    else if (4 ≤ op ∧ op ≤ 5 ∧ a.level = .K) ∨ (op = 6 ∧ a.level ≠ .M) then some (plainExc .privileged)
    else none
  else if n = 0x137 then
    if bitAt (s.pair (pairOf c)).basins (bits v.toNat 5 0) then none else some (plainExc .privileged)
  else none

/-- What an MTCR does when its bundle completes (R188): FL and the loop registers at once, TLBINV as an operation,
DBGDATA, which is no
control state but the storage of DBG_DATA, at once (R359; DEDUCED, notes/assumptions/38.md), the rest for the 4th bundle
after. -/
def State.mtcrDo (s : State) (c : CoreId) (num : BitVec 12) (v : Word) : State :=
  let k := s.core c
  let n := ctlAbs k.arch num
  if num = 0x1C0 then s.modCore c (fun k => { k with dbg := { k.dbg with data := v } })
  else if n = 0 ∨ n = 2 ∨ n = 3 ∨ n = 4 then s.modArch c (fun a => a.setCtl n v)
  else if n = 0x138 then s.tlbInv c (bits v.toNat 3 0) v
  else
    let v := if n = 0x191 then ieWrite k.arch (k.ctlNewest n) v else v
    s.modCore c (fun k => { k with ctl := k.ctl ++ [⟨BitVec.ofNat 12 n, v, k.bn + 4⟩] })

/-! The Spout claim and the time (R311, 18_bringup_power.md R347). -/

/-- R311: an MFCR of SPT_CLAIM: the value, and one event taken from the active source. -/
def State.claim (s : State) (c : CoreId) : State × Word :=
  let k := s.core c
  let n := k.act k.arch.world k.arch.level
  if n = 0x3FF then (s, 0x3FF)
  else
    let x := s.anySrc c n.toNat
    let level := decide (x.sense ≤ 1)
    let inp := if n.toNat < 32 then s.privInput c n.toNat else s.srcInput n.toNat
    if s.srcTarget c n.toNat ≠ s.leadOf c then (s, 0x3FF)
    else if !level && decide (0 < x.count) && k.txn.isNone then
      let y := { x with count := x.count - 1 }
      let s := if n.toNat < 32 then s.setPriv c n.toNat y else s.setSrc n.toNat y
      (s, BitVec.ofNat 64 (2 ^ 63 + y.count * 2 ^ 48 + n.toNat))
    else
      (s, BitVec.ofNat 64 ((if level then 2 ^ 62 else 0) + x.countAt inp * 2 ^ 48 + n.toNat))

/-- DTBNOW of R347. -/
def State.dtbNowWord (s : State) : Word := BitVec.ofNat 64 (s.ns * 2 ^ 32 + s.frac * 2 ^ 16 + s.sec % 2 ^ 16)

/-! What a bundle's B-class syllable forbids or aborts before anything is performed. -/

/-- The exception of a bundle's B-class syllable, or the abort it brings to an open transaction (R201-R203, R260,
R283). -/
def State.bopStop (s : State) (c : CoreId) (o : BOp) : Option MemStop :=
  let k := s.core c
  let a := k.arch
  let tx := k.txn.isSome
  match o with
  | .jump t => if t.toNat % 4 ≠ 0 then some (.exc (plainExc .align)) else none
  | .levelCall cause _ =>
    if (callTarget a cause).isNone then some (.exc (illegalExc a.pc)) else if tx then some (.abort 10) else none
  | .xret =>
    let h := a.hset a.world a.level
    if a.level = .U then some (.exc (illegalExc a.pc))
    else if tx then some (.abort 10)
    else if !(xretOk a.world a.level h.savedWorld h.savedLevel (s.pair (pairOf c)).sok) then some (.exc (illegalExc a.pc))
    else none
  | .tbegin _ _ => if (k.txn.map (·.depth)) = some 31 then some (.abort 6) else none
  | .tcommit => if tx then none else some (.exc (illegalExc a.pc))
  | .isync => if tx then some (.abort 11) else none
  | .pclr all => if all && decide (a.level ≠ .M) then some (.exc (plainExc .privileged)) else if tx then some (.abort 11) else none
  | .mtcr n v => match s.mtcrExc c n v with
    | some e => some (.exc e)
    | none => if tx then some (.abort 11) else none
  | .claim _ => if a.level = .U then some (.exc (plainExc .privileged)) else none
  | _ => none

/-! Outside accesses of a locked pair (R318). -/

/-- Whether one access of a bundle is an outside access. -/
def State.outsideOp (s : State) (c : CoreId) (m : MemOp) : Bool :=
  let ty (va : Word) (n : Nat) (k : AccKind) : Option (Nat × RType) :=
    match (s.xlate c va n k).2 with
    | .ok (p :: _, t) => some (p.1, t)
    | _ => none
  let ridge (va : Word) (n : Nat) : Bool := match ty va n .read with
    | some (pa, _) => decide (ridgeBase ≤ pa)
    | none => false
  match m with
  | .load _ va n _ => match ty va n .read with
    | some (pa, t) => t.isDevice || decide (ridgeBase ≤ pa)
    | none => false
  | .popRet va => match ty va 8 .read with
    | some (pa, t) => t.isDevice || decide (ridgeBase ≤ pa)
    | none => false
  | .store va n _ => match ty va n .write with
    | some (_, t) => decide (t ≠ .normalWB) || !((s.core c).l2En)
    | none => false
  | .macd _ _ _ _ va vb _ _ => ridge va 8 || ridge vb 8
  | .block op _ _ _ vd va vb => decide (vb ≠ 0) && ((decide (op ≠ 1) && (match ty vd 1 .write with
    | some (_, t) => decide (t ≠ .normalWB) || !((s.core c).l2En)
    | none => false)) || (decide (op = 0) && ridge (if (chunkOf op vd va vb).1 then va + vb - 1 else va) 1)
      || (decide (op = 1) && (ridge vd 1 || ridge va 1)))
  | .amo _ _ _ _ _ => true
  | .cmo _ _ => true
  | _ => false

/-- Whether a bundle holds an outside access (R318); an injected one is an outside access (R360). -/
def State.outside (s : State) (c : CoreId) (b : Bundle) : Bool :=
  s.locked (pairOf c) && ((s.core c).txn.isNone) &&
  ((s.core c).dbg.inject || b.mem.any (fun m => s.outsideOp c m)
    || (match b.bop with
        | some (.claim _) => true
        | some (.mtcr n v) => decide (ctlAbs (s.core c).arch n = 0x138) && bitAt v 10
        | _ => false))

/-- A cairn boundary taken at once (R316): every entry drained, results landed, checkpoint taken. -/
def State.boundaryNow (s : State) (p : Fin 16) (early : Bool) : State :=
  let d := s.drainAll (evenCore p)
  let s := d.1.cairnTake p
  if early then s.bump (Blk.crn p.val) Ctr.CRN_FORCED else s

/-! The end of a bundle. -/

/-- Where the next bundle is: the loop-back rule after a bundle at LPE without taken branch (R198). -/
def CoreArch.advance (a : CoreArch) (next : Word) : CoreArch :=
  if a.lpc ≠ 0 ∧ a.pc.setWidth 48 = a.lpe then
    if 1 < a.lpc.toNat then { a with lpc := a.lpc - 1, pc := sext 48 (a.lps.setWidth 64) }
    else { a with lpc := 0, pc := next }
  else { a with pc := next }

/-- Whether a result on its way is superseded: a newer write of the same accumulator has landed (R196). -/
def PendWrite.stale (p : PendWrite) (all due : List PendWrite) : Bool :=
  match p.dst with
  | .acc _ => due.any (fun q => decide (q.dst = p.dst) &&
      decide ((all.findIdx? (fun x => decide (x = p))).getD 0 < (all.findIdx? (fun x => decide (x = q))).getD 0))
  | _ => false

/-- The results that have become visible for bundle `bn` land, in issue order; a landed accumulator write supersedes
the older ones of that accumulator (R191, R196). -/
def Core.landDue (k : Core) : Core :=
  let due := k.pend.filter (fun p => decide (p.due ≤ k.bn))
  let rest := k.pend.filter (fun p => !(decide (p.due ≤ k.bn)))
  { k with arch := landAll k.arch due, pend := rest.filter (fun p => !(p.stale k.pend due)) }

/-- The control writes that take effect for bundle `bn` (R188). -/
def Core.ctlDue (k : Core) : Core :=
  let due := k.ctl.filter (fun w => decide (w.due ≤ k.bn))
  { due.foldl (fun k w => k.inForce w.num.toNat w.val) k with ctl := k.ctl.filter (fun w => !(decide (w.due ≤ k.bn))) }

/-- One bundle counted as issued (R191): what is due for the next one becomes visible. -/
def Core.tick (k : Core) : Core := Core.ctlDue (Core.landDue { k with bn := k.bn + 1 })

/-- TBEGIN at depth 0 (R202, R262): long operations land, the checkpoint is saved, earlier accesses are ordered. -/
def State.txOpen (s : State) (c : CoreId) (d : Dst) (fallback : Word) : State × Bool :=
  if s.ridgeOpen c then (s, false)
  else
    let r := s.drainAll c
    let s := r.1.modCore c Core.landLongs
    let s := s.modCore c (fun k =>
      { k with txSeq := k.txSeq + 1,
               txn := some ⟨1, some d, fallback, BitVec.ofNat 32 s.ns, (landAll k.arch k.pend).save⟩ })
    (s.bump (Blk.trn c.val) Ctr.TRN_TX_BEGIN, true)

/-- TCOMMIT to depth 0 (R202, R257, R262): the entries drain, every mark clears, pins fall. In a locked pair the write
set joins the held lines (R317). -/
def State.txClose (s : State) (c : CoreId) : State × Bool :=
  if s.ridgeOpen c then (s, false)
  else
    let r := s.drainAll c
    let s := r.1
    if (s.core c).txn.isNone || !r.2 then (s, true)
    else
      let lk := s.locked (pairOf c)
      let seq := (s.core c).txSeq
      let unmark : L2Line → L2Line := fun l => { l with rmark := false, wmark := false, held := l.held || (lk && l.wmark) }
      let s := s.modCore c (fun k =>
        { k with txn := none, l2 := k.l2.map unmark, mb := k.mb.map (fun e => { e with inTxn := false }) })
      ((s.unpinAll c seq).bump (Blk.trn c.val) Ctr.TRN_TX_COMMIT, true)

/-- PCLR (R203). -/
def State.pclrDo (s : State) (c : CoreId) (all : Bool) : State :=
  let a := (s.core c).arch
  let own : PredTag → Bool := fun p => decide (p.world = a.world) && decide (p.basin = basinOf a)
  s.modCore c (fun k => { k with pred := k.pred.filter (fun p => !(all || own p)) })

/-- A level call entered (R201, R279, R280): the return address is the next bundle. -/
def State.levelCallDo (s : State) (c : CoreId) (cause : Cause) (imm : BitVec 12) : State :=
  match callTarget (s.core c).arch cause with
  | none => s
  | some (w, l) => s.enterLevel c w l { Exc.mk0 cause 0 .read with imm := imm } (s.core c).arch.pc

/-- How many syllables the bundle at an address has, from the bytes that a fetch finds there; none where they cannot be
read or hold no stop bit among six (R182). -/
def State.bundleLen (s : State) (c : CoreId) (pc : Word) : Option Nat :=
  (List.range 6).findSome? (fun i =>
    match (s.translate c (pc + BitVec.ofNat 64 (4 * i)) .fetch).2 with
    | .ok (pa, ty) =>
      if s.accessOk pa 4 ty .fetch && decide (pa < ridgeBase) && decide (128 ≤ ((s.cohRead (pa + 3) 1).2.1.headD 0).toNat) then
        some (i + 1)
      else none
    | .error _ => none)

/-- The address of the bundle after the one at `e` (R198); `e` itself where its length cannot be told
(notes/assumptions/27.md). -/
def State.bundleAfter (s : State) (c : CoreId) (e : Word) : Word := e + BitVec.ofNat 64 (4 * (s.bundleLen c e).getD 0)

/-- What the B-class syllable does once the rest of the bundle has taken effect and `pc` stands at the next bundle.
None where it waits for a ridge answer. -/
def State.bopDo (s : State) (c : CoreId) (pc next : Word) (o : BOp) : Option State :=
  match o with
  | .jump t => some (s.modArch c (fun a => { a with pc := t }))
  | .ret => some s
  | .loopArm n d =>
    let e : Word := pc + BitVec.ofNat 64 (4 * d)
    let s := s.modArch c (fun a => { a with lps := next.setWidth 48, lpe := e.setWidth 48, lpc := n })
    some (if n = 0 then (let f := s.bundleAfter c e
      s.modArch c (fun a => { a with lpc := 0, pc := f })) else s)
  | .levelCall cause imm => some (s.levelCallDo c cause imm)
  | .xret => some (s.xretExit c)
  | .tbegin d disp =>
    (match (s.core c).txn with
     | some t => some (s.modCore c (fun k => { k with txn := some { t with depth := t.depth + 1 } }))
     | none =>
       let r := s.txOpen c d (pc + disp * 4)
       if r.2 then some r.1 else none)
  | .tcommit =>
    (match (s.core c).txn with
     | some t =>
       if 1 < t.depth then some (s.modCore c (fun k => { k with txn := some { t with depth := t.depth - 1 } }))
       else
         let r := s.txClose c
         if r.2 then some r.1 else none
     | none => some s)
  | .tabort imm => if (s.core c).txn.isSome then some (s.txAbort c 1 imm.toNat) else some s
  | .fence => if s.ridgeOpen c then none else some (s.drainAll c).1
  | .dsync =>
    if s.ridgeOpen c then none
    else
      let s := (s.drainAll c).1
      some (s.modCore c (fun k =>
        let l := Core.landLongs { k with longs := k.longs.filter (fun o => decide (o.unit = .miss)) }
        { l with longs := k.longs.filter (fun o => decide (o.unit ≠ .miss)) ++ l.longs }))
  | .isync => some (s.modCore c Core.allInForce)
  | .pclr all => some (s.pclrDo c all)
  | .mtcr n v => some (s.mtcrDo c n v)
  | .claim d =>
    let r := s.claim c
    some (r.1.modCore c (fun k => { k with pend := k.pend ++ [⟨d, r.2.setWidth 128, k.bn + 1, 0⟩] }))
  | .now d =>
    some (s.modCore c (fun k =>
      { k with dtbSec := BitVec.ofNat 48 s.sec,
               pend := k.pend ++ [⟨d, s.dtbNowWord.setWidth 128, k.bn + 1, 0⟩] }))

/-- Whether a B-class syllable that comes about before the bundle is counted: those that leave the interrupted code or
fix the checkpoint come after. -/
def BOp.leaves : BOp → Bool
  | .levelCall _ _ => true
  | .xret => true
  | _ => false

/-- What of a state a raised exception keeps of the attempt: a guard's freeze and its record (R295). -/
def State.keepFreeze (s0 s1 : State) (c : CoreId) : State :=
  if s1.frozen (.core c) then { s0 with regs := s1.regs, errs := s1.errs, errSeq := s1.errSeq, errLost := s1.errLost }
  else s0

/-- FL after a bundle (R194). -/
def CoreArch.setFl (a : CoreArch) (fl : Option (Option Bool × Bool)) : CoreArch :=
  match fl with
  | none => a
  | some (c, ov) => { a with flC := c.getD a.flC, flOV := a.flOV || ov }

/-- CRN_INJECT.FLIP is set for a locked pair: the next register write of T2n+1 is made to differ (R319). -/
def State.injected (s : State) (c : CoreId) : Bool :=
  s.locked (pairOf c) && s.flag (Blk.crn (pairOf c).val) Reg.CRN_INJECT_FLIP

/-! Debug (R358, R360). -/

/-- The bytes that an access of a bundle covers: its address, its length, whether it reads, whether it writes. -/
def MemOp.ranges : MemOp → List (Word × Nat × Bool × Bool)
  | .load _ va n _ => [(va, n, true, false)]
  | .store va n _ => [(va, n, false, true)]
  | .amo _ va fn _ _ => [(va, amoSize fn, true, true)]
  | .cmo _ _ => []
  | .prf _ => []
  | .macd _ _ _ _ va vb _ _ => [(va, 8, true, false), (vb, 8, true, false)]
  | .block op _ _ _ vd va vb =>
    let ck := chunkOf op vd va vb
    let off : Word := if ck.1 then vb - BitVec.ofNat 64 ck.2 else 0
    if op = 0 then [(va + off, ck.2, true, false), (vd + off, ck.2, false, true)]
    else if op = 1 then [(vd, ck.2, true, false), (va, ck.2, true, false)]
    else [(vd, ck.2, false, true)]
  | .pushRet va => [(va, 8, false, true)]
  | .popRet va => [(va, 8, true, false)]

/-- KIND of a DBG_MATCH entry; KIND 1 in entries 4 and 5 acts as 0. -/
def CoreDbg.kind (d : CoreDbg) (i : Fin 6) : Nat :=
  let n := bits (d.matches_.get i).toNat 63 62
  if n = 1 ∧ 4 ≤ i.val then 0 else n

/-- ADDR of a DBG_MATCH entry, as bits 47 to 0 of a VA. -/
def CoreDbg.addr (d : CoreDbg) (i : Fin 6) : Nat := bits (d.matches_.get i).toNat 47 2 * 4

/-- The watchpoints that a bundle's accesses hit, in a state that is enabled for invasive debug. -/
def Core.watchHits (k : Core) (enabled : Bool) (ms : List MemOp) : BitVec 6 :=
  let rs := (ms.map MemOp.ranges).flatten
  (List.finRange 6).foldl (fun w i =>
    let hit := rs.any (fun r =>
      let lo := r.1.toNat % 2 ^ 48
      decide (lo ≤ k.dbg.addr i) && decide (k.dbg.addr i < lo + r.2.1)
        && ((decide (k.dbg.kind i = 2) && r.2.2.1) || (decide (k.dbg.kind i = 3) && r.2.2.2)))
    setBit w i.val (enabled && !k.dbg.inject && hit)) 0

/-- The watchpoints hit are kept until WATCHPOINT_HIT. -/
def State.watch (s : State) (c : CoreId) (w : BitVec 6) : State :=
  if w = 0 then s else s.modCore c (fun k => { k with dbg := { k.dbg with watched := w } })

/-- The core halts: in a locked pair after a cairn commit (R360); results and long operations land; SLEEP (R364). -/
def State.haltNow (s : State) (c : CoreId) : State :=
  let s := if s.locked (pairOf c) then (s.txAbort c 5 0).boundaryNow (pairOf c) true else s
  let s := (s.modCore c Core.settled).traceSleep c 4
  s.modCore c (fun k => { k with dbg := { k.dbg with halt := false, halted := true, stepping := false, watched := 0 } })

/-- R358: a halt that is pending is accepted between two bundles in a state enabled for invasive debug, with no access
under way. -/
def State.haltTry (s : State) (c : CoreId) : State :=
  if (s.core c).dbg.halt && s.coreRuns c && s.invasive c && !(s.ridgeOpen c) && (s.core c).undo.isNone
      && decide ((s.core c).bundle = Bundle.empty) then s.haltNow c
  else s

/-- The end of a step (R358): the core halts again, at once where it may. -/
def State.stepEnd (s : State) (c : CoreId) : State :=
  if (s.core c).dbg.stepping then
    (s.modCore c (fun k => { k with dbg := { k.dbg with stepping := false, halt := true } })).haltTry c
  else s

/-- R358: a bundle-address entry matches the next bundle, in an enabled state; a bundle that a step issues is let
through. -/
def State.breakHere (s : State) (c : CoreId) : Bool :=
  let k := s.core c
  s.invasive c && decide (k.bundle = Bundle.empty) && !k.dbg.stepping && !k.dbg.inject
    && (List.finRange 6).any (fun i => decide (k.dbg.kind i = 1) && decide (k.dbg.addr i = k.arch.pc.toNat % 2 ^ 48))

/-- A core whose bundle has been taken up: the next one begins. -/
def Core.clear (k : Core) : Core := { k with bundle := Bundle.empty }

/-- The address of the bundle after a core's bundle. An injected bundle stands at no address and leaves the pc (R359). -/
def Core.nextPc (k : Core) : Word :=
  if k.dbg.inject then k.arch.pc else k.arch.pc + BitVec.ofNat 64 (4 * k.bundle.syls)

/-- What ends a bundle before anything of it is performed: a condition of R184, an exception of a syllable, or what its
B-class syllable forbids. -/
def State.bundleStop (s : State) (c : CoreId) (k : Core) (b : Bundle) (stopped : Bool) : Option State :=
  let pc := k.arch.pc
  if b.isIllegal (if k.dbg.inject then 0 else pc) stopped then some (s.raise c (illegalExc pc) pc)
  else
    match b.exc with
    | some e => some (s.raise c e pc)
    | none =>
      match b.bop.bind (fun o => s.bopStop c o) with
      | some (.exc e) => some (s.raise c e pc)
      | some (.abort n) => some (s.txAbort c n 0)
      | some _ => some s
      | none => none

/-- What a bundle wrote: FL, results of fixed latency and long operations on their way. -/
def Core.issue (k : Core) (b : Bundle) (ws : List PendWrite) (ls : List LongOp) (undo : Option CoreUndo) : Core :=
  { k with arch := k.arch.setFl b.fl, pend := k.pend ++ b.writes ++ ws, longs := k.longs ++ b.longs ++ ls, undo := undo }

/-- What a core had before a bundle that waits for a ridge answer (R174). -/
def Done.undo (q : Done) (k : Core) : Option CoreUndo :=
  if q.longs.any (fun o => !o.await.isEmpty) then some ⟨k.arch, k.pend, k.longs, k.ctl, k.bn, k.dbg.inject⟩ else none

/-- Whether a B-class syllable decides by itself where the next bundle is. -/
def BOp.jumps : BOp → Bool
  | .jump _ => true
  | .ret => true
  | .loopArm _ _ => true
  | _ => false

/-- The next bundle, with the loop-back atom of a bundle at LPE and the atom of a conditional branch (R198, R362). -/
def State.bundleNext (s : State) (c : CoreId) (k : Core) (b : Bundle) (ret : Option Word) : State :=
  let taken := (b.bop.map BOp.jumps).getD false
  let s := s.modArch c (fun a =>
    match ret with
    | some t => { a with pc := t }
    | none => if taken || k.dbg.inject then { a with pc := k.nextPc } else a.advance k.nextPc)
  let s := if b.atom.isSome then s.traceAtom c (b.atom.getD false) else s
  if decide (k.arch.lpc ≠ 0) && decide (k.arch.pc.setWidth 48 = k.arch.lpe) && !k.dbg.inject then
    s.traceAtom c (!taken && ret.isNone && decide (1 < k.arch.lpc.toNat))
  else s

/-- The B-class syllable and the count of the bundle: one that leaves the interrupted code or fixes the checkpoint comes
after. None where it waits for a ridge answer. -/
def State.bundleB (s : State) (c : CoreId) (k : Core) (b : Bundle) : Option State :=
  match b.bop with
  | none => some (s.modCore c Core.tick)
  | some o =>
    if o.leaves then
      let t := s.modCore c Core.tick
      some ((t.bopDo c k.arch.pc k.nextPc o).getD t)
    else (s.bopDo c k.arch.pc k.nextPc o).map (fun t => t.modCore c Core.tick)

/-- What follows a bundle: the boundary of an outside access, an injected difference, VM pending bits, trace packets and
watchpoints. -/
def State.bundleEnd (s : State) (c : CoreId) (k : Core) (b : Bundle) (out wrote : Bool) (hits : BitVec 6) : State :=
  let s := if out && !(s.ridgeOpen c) then s.boundaryNow (pairOf c) true else s
  let s := if s.injected c && wrote then s.mismatch (pairOf c) else s
  let s := if k.ctl.isEmpty then s else s.vmPend c
  let s := (if b.ind then s.traceBranch c (s.core c).arch.pc else s).traceBundle c
  s.watch c hits

/-- The imprecise abort of a read that a bundle made and that gave poison (R328). -/
def State.bundlePoison (s : State) (c : CoreId) (p : Option Word) : State :=
  match p with
  | some va => s.imprecise c va
  | none => s

/-- A bundle that has performed its accesses: its results start on their way and control flow follows; a block operation
that has not finished stays at its bundle (R199). -/
def State.bundleDone (q : Done) (c : CoreId) (k : Core) (b : Bundle) (out : Bool) (hits : BitVec 6) : Option State :=
  if q.again then some ((q.s.watch c hits).bundlePoison c q.poison)
  else
    let s := q.s.modCore c (fun x => x.issue b q.writes q.longs (q.undo k))
    ((s.bundleNext c k b q.ret).bundleB c k b).map (fun t =>
      (t.bundleEnd c k b out (!b.writes.isEmpty || !q.writes.isEmpty) hits).bundlePoison c q.poison)

/-- The accesses of a bundle in order; an exception or an abort leaves none of it but a guard's freeze. None where an
access waits for a ridge answer, so that nothing has issued. -/
def State.bundleRun (s : State) (c : CoreId) (k : Core) (b : Bundle) (hits : BitVec 6) : Option State :=
  let pc := k.arch.pc
  let out := s.outside c b
  let s := if out && (s.core c).fetched.isEmpty then s.boundaryNow (pairOf c) true else s
  let q := s.performAll c b.mem
  match q.stop with
  | some (.exc e) => some ((s.keepFreeze q.s c).raise c e pc)
  | some (.abort n) => some (s.txAbort c n 0)
  | some .wait => none
  | some _ => some q.s
  | none => State.bundleDone q c k b out hits

/-- A bundle with its accesses in order. -/
def Bundle.ordered (b : Bundle) (next : Word) : Bundle := { b with mem := orderMem next b.mem }

/-- The bundle of a core completes (R185): a condition of R184, an exception or an abort leaves none of it; otherwise
its accesses are performed in order, its results start on their way, and control flow follows. -/
def State.commitBundle (s : State) (c : CoreId) (stopped : Bool) : Option State :=
  let k := s.core c
  let b := k.bundle.ordered k.nextPc
  let s0 := s.modCore c Core.clear
  match s0.bundleStop c k b stopped with
  | some t => some t
  | none => s0.bundleRun c k b (k.watchHits (s.invasive c) b.mem)

/-! Ridge reads that a bundle needs before it comes about (R174): those of MACD, RET and block operations, and every read
and atomic of a locked pair (R318). Each is asked for and answered before anything of the bundle is performed. -/

/-- Such a read or atomic: its OP, its place, its type, its VA, and what an atomic carries. -/
structure RNeed where
  op : Nat
  pa : Nat
  len : Nat
  ty : RType
  va : Word
  fn : BitVec 6
  data : List Byte
  deriving DecidableEq, Repr

/-- Those of some parts of an access that lie in a ridge window and that the guard lets pass. -/
def State.ridgeParts (s : State) (c : CoreId) (op : Nat) (ps : List (Nat × Nat × Word)) (ty : RType) (fn : BitVec 6)
    (data : List Byte) : List RNeed :=
  ps.filterMap (fun p =>
    match s.dest p.1, s.guard (coreAcc c (s.core c).arch) p.1 p.2.1 (if op = 3 then .amo else .read) with
    | .ridge _ _, .ok _ _ _ => some ⟨op, p.1, p.2.1, ty, p.2.2, fn, data⟩
    | _, _ => none)

/-- What an access of a bundle needs from a ridge window beforehand. Inside a transaction only NORMAL-WB memory is read. -/
def State.needsOf (s : State) (c : CoreId) (m : MemOp) : List RNeed :=
  let via := fun (va : Word) (n : Nat) =>
    match (s.xlate c va n .read).2 with
    | .ok (ps, ty) => s.ridgeParts c 1 ps ty 0 []
    | .error _ => []
  let chunk := fun (va : Word) (n : Nat) =>
    match (s.translate c va .read).2 with
    | .ok (pa, ty) => s.ridgeParts c 1 [(pa, n, va)] ty 0 []
    | .error _ => []
  if (s.core c).txn.isSome then []
  else
    match m with
    | .load _ va n _ => if s.locked (pairOf c) then via va n else []
    | .amo _ va fn o p =>
      if s.locked (pairOf c) then
        (match (s.xlate c va (amoSize fn) .amo).2 with
         | .ok (ps, ty) => s.ridgeParts c 3 (ps.take 1) ty fn (leBytes 8 o.toNat ++ leBytes 8 p.toNat)
         | .error _ => [])
      else []
    | .macd _ _ _ _ va vb _ _ => via va 8 ++ via vb 8
    | .popRet va => via va 8
    | .block op _ _ _ vd va vb =>
      let ck := chunkOf op vd va vb
      let off : Word := if ck.1 then vb - BitVec.ofNat 64 ck.2 else 0
      if vb = 0 then [] else if op = 0 then chunk (va + off) ck.2 else if op = 1 then chunk vd ck.2 ++ chunk va ck.2 else []
    | _ => []

/-- One such read or atomic sent (R174): in a locked pair after the cairn commit of R318, after the stores that it must
not pass (R235, R238). False where a store holds it back. -/
def State.ask (s : State) (c : CoreId) (r : RNeed) : State × Bool :=
  let s := if s.locked (pairOf c) && (s.core c).fetched.isEmpty then s.boundaryNow (pairOf c) true else s
  let all := decide (r.op = 3) || r.ty.isDevice || (s.core c).mb.any (fun e => decide (e.ty = .device))
  let d := if all then s.drainAll c else s.drainLine c (r.pa / 64)
  match d.1.dest r.pa with
  | .ridge n off =>
    if !d.2 || d.1.ridgeBusy c || (decide (r.op = 3) && d.1.ridgeOpen c) then (d.1, false)
    else
      let q := d.1.reqSend (coreAcc c (d.1.core c).arch) n r.op off r.len r.ty r.fn r.data 0 r.va
      (q.1.modCore c (fun k => { k with fetched := k.fetched ++ [⟨r.op, r.pa, r.len, q.2, if q.2.isNone then some none else none⟩] }),
       q.2.isNone)
  | _ => (d.1, false)

/-- What a staged bundle needs from ridge windows, asked for one after another. True where the bundle may come about: with
every answer in, or where something stops it in any case. -/
def State.ahead (s : State) (c : CoreId) (stopped : Bool) : State × Bool :=
  let k := s.core c
  let b := k.bundle.ordered k.nextPc
  let need := b.mem.flatMap (fun m => s.needsOf c m)
  if need.isEmpty then (s, true)
  else if k.fetched.any (fun x => x.ans.isNone) then (s, false)
  else
    let s0 := s.modCore c Core.clear
    if (s0.bundleStop c k b stopped).isSome || (s0.performAll c b.mem).stop.isSome then (s, true)
    else
      match (k.fetched.foldl (fun (l : List RNeed) x =>
          l.eraseP (fun r => r.op == x.op && r.pa == x.pa && r.len == x.len)) need).head? with
      | none => (s, true)
      | some r => s.ask c r

/-- A staged bundle comes about, or waits for a ridge answer; one that waits for anything else leaves `old`. -/
def State.complete (s : State) (c : CoreId) (stopped : Bool) (old : State) : State :=
  let r := s.ahead c stopped
  if r.2 then
    match r.1.commitBundle c stopped with
    | none => old
    | some t =>
      let t := if (r.1.core c).fetched.isEmpty then t else t.modCore c (fun k => { k with fetched := [] })
      t.stepEnd c
  else r.1.modCore c (fun k => { k with waiting := some stopped })

/-- A core whose bundle waits for ridge answers goes on if they are all in (R174), also on its way to sleep (R344). -/
def State.goOn (s : State) (c : CoreId) : State :=
  match (s.core c).waiting with
  | none => s
  | some stopped =>
    let goes := decide (s.crnState c = 1) && decide (s.pwr c.val = 0 ∨ s.pwr c.val = 3) && !(s.frozen (.core c)) && !(s.stopped)
    if goes then (s.modCore c (fun k => { k with waiting := none })).complete c stopped s else s

/-- Every core that waits for ridge answers goes on as far as it can. -/
def State.goOnAll (s : State) : State := foldL allCores (fun c t => t.goOn c) s

/-! A syllable of a bundle. -/

/-- Whether a core waits with an outside access of its locked pair that is not complete (R318). -/
def State.outsideWait (s : State) (c : CoreId) : Bool := s.locked (pairOf c) && s.ridgeOpen c

/-- Whether a core takes a syllable: it runs, it is not T2n+1 of a locked pair, whose bundles are T2n's (R313), no
outside access or ridge read holds it, and no watchpoint hit waits to halt it (R358). -/
def State.issues (s : State) (c : CoreId) : Bool :=
  s.coreRuns c && decide (s.leadOf c = c) && !(s.outsideWait c) && (s.core c).undo.isNone && (s.core c).waiting.isNone
    && decide ((s.core c).dbg.watched = 0)

/-- One syllable issues: pending registers it reads or writes have landed (R192), its effect is staged by `eff` in the bundle,
and the stop bit, or a sixth syllable without one, completes the bundle (R182-R185). A core that a breakpoint holds, a core that does not issue, or a
wait for a ridge answer, leaves everything as it is. -/
def State.syllable (s : State) (y : Syl) (info : CoreArch → SylInfo) (eff : Core → Bundle → Bundle) : State :=
  let c := y.core
  let s := s.goOn c
  if !(s.issues c) || s.breakHere c then s
  else
    match (if (s.core c).dbg.inject then none else (s.core c).owed) with
    | some va => s.imprecise c va
    | none =>
      let i := info (s.core c).arch
      match (s.core c).stallFor i.reads i.unit with
      | none => s
      | some k =>
        let k := if i.fpSync then k.mergeFlags else k
        match k.holdFor i.writes with
        | none => s
        | some h =>
          match (if h.dbg.inject then none else h.owed) with
          | some va => (s.setCore c h).imprecise c va
          | none =>
            let b := if i.legal then eff k (h.bundle.count y i) else h.bundle.count y i
            let s1 := s.setCore c { h with bundle := b }
            if y.stop || decide (6 ≤ b.syls) then s1.complete c y.stop s else s1

end Sys2Proof.Machine
end

