-- ==== Sys2Proof/Machine/Flags.lean ====
section
/-! DEFINITION. What each arithmetic of the Tarn I and X classes computes: carry and overflow (10_tarn_isa.md R194),
integer results (R204, R206), division edges (11_tarn_pipeline.md R213) and the flags of floating point (R215-R219). -/

namespace Sys2Proof.Machine

/-- A result with its carry or borrow and its signed overflow (R194). -/
structure AddRes where
  val : Word
  c : Bool
  ov : Bool
  deriving DecidableEq, Repr

/-- Whether an integer is outside the signed 64-bit range. -/
def outOfRange (x : Int) : Bool := decide (x < -(2 ^ 63)) || decide (2 ^ 63 ≤ x)

/-- ADDS and ADDC (R194). -/
def addWith (a b : Word) (cin : Nat) : AddRes :=
  ⟨BitVec.ofNat 64 (a.toNat + b.toNat + cin), decide (2 ^ 64 ≤ a.toNat + b.toNat + cin),
   outOfRange (a.toInt + b.toInt + (cin : Int))⟩

/-- SUBS and SUBC (R194): C is the borrow. -/
def subWith (a b : Word) (cin : Nat) : AddRes :=
  ⟨a - b - BitVec.ofNat 64 cin, decide (a.toNat < b.toNat + cin), outOfRange (a.toInt - b.toInt - (cin : Int))⟩

/-- FL.C as a number. -/
def CoreArch.carry (a : CoreArch) : Nat := if a.flC then 1 else 0

def b2w (b : Bool) : Word := if b then 1 else 0

/-- R204, FN 0-5. -/
def aluVal (op : AluOp) (a b : Word) : Word :=
  match op with
  | .add => a + b
  | .sub => a - b
  | .and => a &&& b
  | .or => a ||| b
  | .xor => a ^^^ b
  | .andn => a &&& ~~~b

/-- R204, FN 6-10: shift or rotate by gb[5:0]. -/
def shiftVal (op : ShiftOp) (a b : Word) : Word :=
  let n := b.toNat % 64
  match op with
  | .shl => a <<< n
  | .shr => a >>> n
  | .sar => a.sshiftRight n
  | .rol => a.rotateLeft n
  | .ror => a.rotateRight n

/-- R204, FN 11-14. -/
def minMaxVal (op : MinMaxOp) (a b : Word) : Word :=
  match op with
  | .min => if a.slt b then a else b
  | .max => if a.slt b then b else a
  | .minu => if a.toNat < b.toNat then a else b
  | .maxu => if a.toNat < b.toNat then b else a

/-- R204, FN 15-20. -/
def cmpVal (op : CmpOp) (a b : Word) : Word :=
  b2w (match op with
  | .eq => decide (a = b)
  | .ne => decide (a ≠ b)
  | .lt => a.slt b
  | .ltu => decide (a.toNat < b.toNat)
  | .le => a.sle b
  | .leu => decide (a.toNat ≤ b.toNat))

/-- The number of zero bits above the highest set bit. -/
def clzNat (a : Word) : Nat := if a = 0 then 64 else 63 - a.toNat.log2

/-- R204, FN 25-27: CLZ and CTZ of 0 give 64. -/
def countVal (op : CountOp) (a : Word) : Word :=
  match op with
  | .clz => BitVec.ofNat 64 (clzNat a)
  | .ctz => BitVec.ofNat 64 (if a = 0 then 64 else ((List.range 64).find? (fun i => bitAt a i)).getD 64)
  | .popc => BitVec.ofNat 64 (popc a)

/-- R204, FN 28-31. -/
def extendVal (op : ExtendOp) (a : Word) : Word :=
  match op with
  | .sextb => sext 8 a
  | .sexth => sext 16 a
  | .sextw => sext 32 a
  | .zextw => zext 32 a

/-- BSWAP (R204). -/
def bswapVal (a : Word) : Word := BitVec.ofNat 64 (leNat (leBytes 8 a.toNat).reverse)

/-- R204, OP 0x01-0x04. -/
def aluImmVal (op : AluImmOp) (a i : Word) : Word :=
  match op with
  | .addi => a + i
  | .andi => a &&& i
  | .ori => a ||| i
  | .xori => a ^^^ i

/-- R204, OP 0x05-0x07. -/
def shiftImmVal (op : ShiftImmOp) (a : Word) (n : Nat) : Word :=
  match op with
  | .shli => a <<< n
  | .shri => a >>> n
  | .sari => a.sshiftRight n

/-- R204, OP 0x08-0x0A: the immediate is sign-extended, CMPLTUI compares unsigned. -/
def cmpImmVal (op : CmpImmOp) (a i : Word) : Word :=
  b2w (match op with
  | .eqi => decide (a = i)
  | .lti => a.slt i
  | .ltui => decide (a.toNat < i.toNat))

/-- The 128-bit product, unsigned or signed (R195, R206). -/
def product (signed : Bool) (a b : Word) : BitVec 128 :=
  if signed then BitVec.ofInt 128 (a.toInt * b.toInt) else BitVec.ofNat 128 (a.toNat * b.toNat)

/-- MUL, MULHU, MULHS (R206). -/
def mulVal (op : MulOp) (a b : Word) : Word :=
  match op with
  | .mul => a * b
  | .mulhu => BitVec.ofNat 64 ((product false a b).toNat / 2 ^ 64)
  | .mulhs => BitVec.ofNat 64 ((product true a b).toNat / 2 ^ 64)

/-- DIV and REM are signed. -/
def divSigned : DivOp → Bool
  | .div => true
  | .rem => true
  | _ => false

/-- The −2^63 / −1 case of R213. -/
def divOverflow (op : DivOp) (a b : Word) : Bool :=
  divSigned op && decide (a = 0x8000000000000000) && decide (b = 0xFFFFFFFFFFFFFFFF)

/-- R213: quotient toward zero, remainder with the sign of the dividend, and the edges. -/
def divVal (op : DivOp) (a b : Word) : Word :=
  if b = 0 then (match op with
    | .div => 0
    | .divu => 0
    | _ => a)
  else if divOverflow op a b then (match op with
    | .div => a
    | _ => 0)
  else match op with
    | .div => BitVec.ofInt 64 (Int.tdiv a.toInt b.toInt)
    | .rem => BitVec.ofInt 64 (Int.tmod a.toInt b.toInt)
    | .divu => BitVec.ofNat 64 (a.toNat / b.toNat)
    | .remu => BitVec.ofNat 64 (a.toNat % b.toNat)

/-- CTL of the own world: DIVTRAP (R187). -/
def CoreArch.divTrap (a : CoreArch) : Bool := bitAt (a.ctl (ctlAbs a 0x010)) 1

/-- The format of a .D or .S form. -/
def fmtOf (dbl : Bool) : Fmt := if dbl then .d else .s

/-- FPC.RM and FTZ at issue (R217). -/
def CoreArch.rm (a : CoreArch) : Rm := rmOf (bits a.fpc.toNat 2 0)
def CoreArch.ftz (a : CoreArch) : Bool := bitAt a.fpc 4

/-- FPC.TRAPEN in the order of the flags (R187). -/
def CoreArch.trapEn (a : CoreArch) : BitVec 5 := BitVec.ofNat 5 (bits a.fpc.toNat 20 16)

/-- An operand of a floating-point operation (R186, R216). -/
def CoreArch.fop (a : CoreArch) (dbl : Bool) (n : BitVec 6) : Fp := unpack (fmtOf dbl) a.ftz (a.fval n)

/-- A floating-point result of fixed latency, or FPTRAP where a flag it raises is enabled (R217, R219). -/
def Bundle.fp (b : Bundle) (k : Core) (d : Dst) (r : Word × BitVec 5) (lat : Nat) : Bundle :=
  if r.2 &&& k.arch.trapEn = 0 then b.wrF k d r lat
  else b.fault { plainExc .fptrap with fpflags := r.2 }

/-- A floating-point long operation, or FPTRAP (R192, R219). -/
def Bundle.fpLong (b : Bundle) (k : Core) (d : Dst) (r : Word × BitVec 5) : Bundle :=
  if r.2 &&& k.arch.trapEn = 0 then b.long k d r.1 r.2 .fdiv
  else b.fault { plainExc .fptrap with fpflags := r.2 }

/-- Branch conditions of R207. -/
def brTaken (op : BrCond) (a b : Word) : Bool :=
  match op with
  | .eq => decide (a = b)
  | .ne => decide (a ≠ b)
  | .lt => a.slt b
  | .ge => !(a.slt b)
  | .ltu => decide (a.toNat < b.toNat)
  | .geu => decide (b.toNat ≤ a.toNat)

/-- The size of an integer load and whether it is sign-extended (R205). -/
def loadShape (op : LoadOp) : Nat × Bool :=
  match op with
  | .ldb => (1, true)
  | .ldbu => (1, false)
  | .ldh => (2, true)
  | .ldhu => (2, false)
  | .ldw => (4, true)
  | .ldwu => (4, false)
  | .ldd => (8, false)

/-- The size of an integer store (R205). -/
def storeSize (op : StoreOp) : Nat :=
  match op with
  | .stb => 1
  | .sth => 2
  | .stw => 4
  | .std => 8

/-- A MACD pointer step code (R197). -/
def macdStep (code : Nat) : Word := if code = 1 then 8 else if code = 2 then BitVec.ofInt 64 (-8) else 0

end Sys2Proof.Machine
end

