-- ==== Sys2Proof/Machine/IntAlu.lean ====
section
/-! DEFINITION. The I class of the Tarn instruction set (10_tarn_isa.md R190, R194, R204): latency 1. -/

namespace Sys2Proof.Machine

abbrev Ans := Host.Outcome State Fault Refusal

/-- An I-class syllable of three registers whose result is a function of ga and gb; `legal` is the row's own constraint. -/
def State.iRRR (s : State) (y : Syl) (d a b : BitVec 6) (legal : Bool) (f : Word → Word → Word) : State :=
  s.syllable y (fun r => { slot := .i, reads := [r.gdst a, r.gdst b], writes := [r.gdst d], legal := legal })
    (fun k u => u.wr k (k.arch.gdst d) (f (k.arch.gval a) (k.arch.gval b)) 1)

/-- An I-class syllable of two registers and an immediate (R189, R190). -/
def State.iRRI (s : State) (y : Syl) (d a : BitVec 6) (ext legal : Bool) (f : Word → Word) : State :=
  s.syllable y (fun r => { slot := .i, reads := [r.gdst a], writes := [r.gdst d], imm := ext, legal := legal })
    (fun k u => u.wr k (k.arch.gdst d) (f (k.arch.gval a)) 1)

/-- An I-class syllable that writes FL (R194). -/
def State.iFlag (s : State) (y : Syl) (d a b : BitVec 6) (f : CoreArch → Word → Word → AddRes) : State :=
  s.syllable y (fun r => { slot := .i, reads := [r.gdst a, r.gdst b], writes := [r.gdst d], fl := true })
    (fun k u =>
      let r := f k.arch (k.arch.gval a) (k.arch.gval b)
      (u.wr k (k.arch.gdst d) r.val 1).flags (some r.c) r.ov)

/-- ADD, SUB, AND, OR, XOR, ANDN (R204). -/
def execAluRRR (y : Syl) (op : AluOp) (d a b : BitVec 6) (s : State) : Ans := .next (s.iRRR y d a b true (aluVal op))

/-- SHL, SHR, SAR, ROL, ROR (R204). -/
def execShiftRRR (y : Syl) (op : ShiftOp) (d a b : BitVec 6) (s : State) : Ans := .next (s.iRRR y d a b true (shiftVal op))

/-- MIN, MAX, MINU, MAXU (R204). -/
def execMinMax (y : Syl) (op : MinMaxOp) (d a b : BitVec 6) (s : State) : Ans := .next (s.iRRR y d a b true (minMaxVal op))

/-- CMPEQ, CMPNE, CMPLT, CMPLTU, CMPLE, CMPLEU (R204). -/
def execCmpRRR (y : Syl) (op : CmpOp) (d a b : BitVec 6) (s : State) : Ans := .next (s.iRRR y d a b true (cmpVal op))

/-- ADDS (R194). -/
def execAdds (y : Syl) (d a b : BitVec 6) (s : State) : Ans := .next (s.iFlag y d a b (fun _ x z => addWith x z 0))

/-- ADDC (R194). -/
def execAddc (y : Syl) (d a b : BitVec 6) (s : State) : Ans := .next (s.iFlag y d a b (fun r x z => addWith x z r.carry))

/-- SUBS (R194). -/
def execSubs (y : Syl) (d a b : BitVec 6) (s : State) : Ans := .next (s.iFlag y d a b (fun _ x z => subWith x z 0))

/-- SUBC (R194). -/
def execSubc (y : Syl) (d a b : BitVec 6) (s : State) : Ans := .next (s.iFlag y d a b (fun r x z => subWith x z r.carry))

/-- CLZ, CTZ, POPC (R204): b must be 0. -/
def execCountBits (y : Syl) (op : CountOp) (d a b : BitVec 6) (s : State) : Ans :=
  .next (s.iRRR y d a b (decide (b = 0)) (fun x _ => countVal op x))

/-- SEXTB, SEXTH, SEXTW, ZEXTW (R204): b must be 0. -/
def execExtend (y : Syl) (op : ExtendOp) (d a b : BitVec 6) (s : State) : Ans :=
  .next (s.iRRR y d a b (decide (b = 0)) (fun x _ => extendVal op x))

/-- SEL (R204): gd = ga if gd ≠ 0, else gb. -/
def execSel (y : Syl) (d a b : BitVec 6) (s : State) : Ans :=
  .next (s.syllable y (fun r => { slot := .i, reads := [r.gdst d, r.gdst a, r.gdst b], writes := [r.gdst d] })
    (fun k u => u.wr k (k.arch.gdst d) (if k.arch.gval d ≠ 0 then k.arch.gval a else k.arch.gval b) 1))

/-- BSWAP (R204): b must be 0. -/
def execBswap (y : Syl) (d a b : BitVec 6) (s : State) : Ans :=
  .next (s.iRRR y d a b (decide (b = 0)) (fun x _ => bswapVal x))

/-- ADDI, ANDI, ORI, XORI (R204, R190). -/
def execAluImm (y : Syl) (op : AluImmOp) (d a : BitVec 6) (imm : BitVec 12) (s : State) : Ans :=
  .next (s.iRRI y d a true true (fun x => aluImmVal op x (immOf y 12 imm.toNat)))

/-- SHLI, SHRI, SARI (R204): imm[11:6] must be 0, no EXT. -/
def execShiftImm (y : Syl) (op : ShiftImmOp) (d a : BitVec 6) (imm : BitVec 12) (s : State) : Ans :=
  .next (s.iRRI y d a false (decide (imm.toNat < 64)) (fun x => shiftImmVal op x (imm.toNat % 64)))

/-- CMPEQI, CMPLTI, CMPLTUI (R204). -/
def execCmpImm (y : Syl) (op : CmpImmOp) (d a : BitVec 6) (imm : BitVec 12) (s : State) : Ans :=
  .next (s.iRRI y d a true true (fun x => cmpImmVal op x (immOf y 12 imm.toNat)))

/-- MOVI (R190, R204). -/
def execMovi (y : Syl) (d : BitVec 6) (imm : BitVec 18) (s : State) : Ans :=
  .next (s.syllable y (fun r => { slot := .i, writes := [r.gdst d], imm := true })
    (fun k u => u.wr k (k.arch.gdst d) (immOf y 18 imm.toNat) 1))

end Sys2Proof.Machine
end

