-- ==== Sys2Proof/Machine/PortRows.lean ====
section
/-! DEFINITION. The commands of lanes, MACs and management ports (02_ports_and_lanes.md R34-R50, R389; 07_weirs.md R140). -/

namespace Sys2Proof.Machine

/-- A command that brings `t` about under a condition; while the device stands still (R371, R377) nothing happens. -/
def State.doIf (s : State) (ok : Bool) (t : State) : Ans := .next (if ok && !s.stopped then t else s)

/-- The answer of a register read that is a command: the value goes to `rdata`. -/
def State.regReadCmd (s : State) (b off : Nat) (r : RegR) : State :=
  let w : RegW := ⟨r.acc, r.wide, r.high, 0⟩
  let q := s.busRead r.acc b (regOff w off) (regSize w)
  { q.1 with rdata := q.2 }

/-! Lanes (R34, R37). -/

/-- LANE_READY (R37): a lane in service of a MAC that has settled on a mode that uses it. -/
def execLaneReady (lane : Fin 32) (s : State) : Ans :=
  let k := lane.val
  let b := Blk.prt k
  let ok : Bool := s.laneIn k && (match s.macOfLane k with
    | some m => (s.usedLanes m).contains k && [3, 4, 6, 7].contains (s.macState m)
    | none => false)
  s.doIf ok ((((s.fset b Reg.PRT_STATUS_SIGNAL 1).fset b Reg.PRT_STATUS_CDR_LOCK 1).fset b Reg.PRT_STATUS_TRAINED 1).setReady
    (Rdy.lane k) true)

/-- LANE_LOSS (R37): the MAC whose resolved mode uses the lane returns to negotiation. -/
def execLaneLoss (lane : Fin 32) (s : State) : Ans :=
  let t := s.laneOff lane.val
  s.doIf true (match s.macOfLane lane.val with
    | some m => if (s.usedLanes m).contains lane.val then t.macRestart m else t
    | none => t)

/-- LANE_WITHHOLD (R34): a write of PRT_TEST with EN = 1, or of PRT_CTRL with ENABLE = 0. -/
def execLaneWithhold (lane : Fin 32) (test : Bool) (w : RegW) (s : State) : Ans :=
  let b := Blk.prt lane.val
  .next (if test then s.regWriteIf b 0x400 w (hits Reg.PRT_TEST_EN (regMask w) (regBits w))
    else s.regWriteIf b 0x000 w (covers Reg.PRT_CTRL_ENABLE (regMask w) && !(hits Reg.PRT_CTRL_ENABLE (regMask w) (regBits w))))

/-! Negotiation (R34-R36). -/

/-- The code that clause 73 resolves from the partner's abilities (R34): codes 2 and 3 are the one 25 Gbit/s ability, whose code
follows from the FEC requests of both sides. -/
def State.anResolve (s : State) (m : MacId) (partner : BitVec 13) (rs br : Bool) : Option Nat :=
  let own := s.candidates m
  let g25 := own.contains 2 || own.contains 3
  let common := (List.range 13).filter (fun c =>
    if c = 2 then false
    else if c = 3 then g25 && (bitAt partner 2 || bitAt partner 3)
    else own.contains c && bitAt partner c)
  match common.getLast? with
  | none => none
  | some 3 =>
    if rs || own.contains 3 then (if own.contains 3 then some 3 else none)
    else if br then none
    else if own.contains 2 then some 2 else none
  | some c => some c

/-- AN_RESOLVED (R34, R36). -/
def execAnResolved (mac : MacId) (partner : BitVec 13) (rs br : Bool) (s : State) : Ans :=
  s.doIf (decide (s.macState mac = 1))
    (match s.anResolve mac partner rs br with
     | some c => s.macMode mac c (if modeTrains c then 2 else 3)
     | none => s.floorFail mac)

/-- AN_RESTART_TIMER (R34): no pages from the partner; STATE stays 1. -/
def execAnRestartTimer (mac : MacId) (s : State) : Ans :=
  s.doIf (decide (s.macState mac = 1) && !(s.flag (Blk.mac mac.val) Reg.MAC_CTRL_MEDIUM)) (s.macStart mac)

/-- LINK_TRAINING_DONE (R35): each lane's taps are those the training settled on (PRT_TXEQ). -/
def execLinkTrainingDone (mac : PortId) (taps : List (BitVec 32)) (s : State) : Ans :=
  let m := macOf mac
  let t := foldL ((s.usedLanes m).zipIdx) (fun e u =>
    let u := u.rput (Blk.prt e.1) 0x410 (((taps[e.2]?).getD 0).setWidth 64)
    u.fset (Blk.prt e.1) Reg.PRT_STATUS_TRAINED 1) s
  s.doIf (decide (s.macState m = 2)) ((t.setMf m Reg.MAC_STATUS_STATE 3).modMac m (fun k => { k with fails := 0 }))

/-- TRAIN_TIMEOUT (R35): the third failure in a row at a mode removes it. -/
def execTrainTimeout (mac : PortId) (s : State) : Ans :=
  let m := macOf mac
  let c := s.mf m Reg.MAC_STATUS_MODE
  let n := if (s.mac m).fails / 4 = c then (s.mac m).fails % 4 + 1 else 1
  let t := if 3 ≤ n then
      (s.modMac m (fun k => { k with removed := setBit k.removed c true, fails := 0 })).setMf m Reg.MAC_EVENT_TRAIN_FAIL 1
    else s.modMac m (fun k => { k with fails := 4 * c + n })
  s.doIf (decide (s.macState m = 2)) (t.macStart m)

/-- FLOOR_FAIL_RETRY (R36). -/
def execFloorFailRetry (mac : MacId) (s : State) : Ans := s.doIf (decide (s.macState mac = 5)) (s.macStart mac)

/-- FLOOR_FAIL_RESTORE (R35): the modes removed return to the candidates. -/
def execFloorFailRestore (mac : MacId) (s : State) : Ans :=
  s.doIf (decide (s.macState mac = 5)) (s.modMac mac (fun k => { k with removed := 0, fails := 0 }))

/-! Links (R37, R39). -/

/-- MAC_LINK_UP (R37): every lane of the mode is ready and the PCS aligns; a signalled fault keeps the bit clear and shows
in STATE. A borrowed MAC is ready with its carrier's. -/
def execMacLinkUp (mac : MacId) (fault : Option Bool) (s : State) : Ans :=
  let st := s.macState mac
  let borrowed := s.borrows mac.val && s.present (s.lending mac.val).2.1
  let own := decide (st = 3 ∨ st = 6 ∨ st = 7) && !(s.macHeld mac) && (s.usedLanes mac).all (fun k => s.ready (Rdy.lane k))
  let t := s.setMf mac Reg.MAC_STATUS_HIBER 0
  s.doIf ((own || borrowed) && !(s.macUp mac))
    (match fault with
     | none => t.macRise mac
     | some remote => t.setMf mac Reg.MAC_STATUS_STATE (if remote then 7 else 6))

/-- MAC_LINK_DOWN (R37, R39): loss of alignment, a high bit error rate or a fault sequence. -/
def execMacLinkDown (mac : MacId) (hiber : Bool) (s : State) : Ans :=
  let t := if hiber then s.setMf mac Reg.MAC_STATUS_HIBER 1 else s
  s.doIf (s.macUp mac) (t.macRestart mac)

/-- RESTART (R34): a write of MAC_CTRL with RESTART = 1. -/
def execRestart (mac : MacId) (w : RegW) (s : State) : Ans :=
  .next (s.regWriteIf (Blk.mac mac.val) 0x000 w (hits Reg.MAC_CTRL_RESTART (regMask w) (regBits w)))

/-! Received frames (R38, R389, R100, R42). -/

/-- RX_FRAME_END: `age` is the time since the frame's timestamp point, `bank` where its cells are looked for. A frame cut off
by the loss of its link ends with an error (R38). -/
def execRxFrameEnd (mac : MacId) (bytes : List Byte) (pcsErr : Bool) (age : Nat) (bank : Fin 4) (s : State) : Ans :=
  s.doIf ((s.macUp mac || pcsErr) && !(s.borrows mac.val)) (s.rxEnd mac bytes (pcsErr || !(s.macUp mac)) age bank.val)

/-- RX_CELL_EXHAUSTED (R100): `got` bytes of a frame have cells, the next one finds none. -/
def execRxCellExhausted (mac : PortId) (got : Nat) (s : State) : Ans :=
  s.doIf (s.macUp (macOf mac) && !(s.carries mac.val) && decide (s.freeCells < cellsFor (got + 1)))
    (s.bump Blk.SPL Ctr.SPL_DROP_NOBUF)

/-- RX_FLOW_CONTROL_FRAME (R42): a whole MAC control frame is received. -/
def execRxFlowControlFrame (mac : MacId) (bytes : List Byte) (s : State) : Ans :=
  s.doIf (s.macUp mac && !(s.borrows mac.val) && decide (s.rxKind mac bytes = .control)) (s.rxEnd mac bytes false 0 0)

/-- PAUSE_TIMER_EXPIRE (R42): in PAUSE mode one timer holds every priority. -/
def execPauseTimerExpire (mac : MacId) (prio : Fin 8) (s : State) : Ans :=
  let v := BitVec.ofNat 8 (s.mf mac Reg.MAC_FC_STATE_RX_PAUSED)
  let v' : BitVec 8 := if s.fcMode mac = 1 then 0 else setBit v prio.val false
  s.doIf (bitAt v prio.val) ((s.setMf mac Reg.MAC_FC_STATE_RX_PAUSED v'.toNat).txStart mac)

/-- PFC_THRESHOLD_RECHECK (R140): thresholds written are compared again, those of the cells too. -/
def execPfcThresholdRecheck (mac : PortId) (s : State) : Ans := s.doIf true (s.cellEval.acctEval mac)

/-- FLOW_CONTROL_FRAME_TX (R44): the transmitter is idle, or at a frame boundary. -/
def execFlowControlFrameTx (mac : MacId) (s : State) : Ans :=
  let k := s.mac mac
  s.doIf (s.macUp mac && k.fcDue && k.tx.isNone && k.mgTx.isNone) (s.fcSend mac)

/-- FC_REFRESH (R44): REFRESH has passed while XOFF lasts; the frame is due again. -/
def execFcRefresh (mac : MacId) (s : State) : Ans :=
  s.doIf (s.macUp mac && decide (s.mf mac Reg.MAC_FC_STATE_TX_XOFF ≠ 0) && !(s.borrows mac.val))
    (s.modMac mac (fun k => { k with fcDue := true }))

/-- TXTS_READ (R47). -/
def execTxtsRead (mac : MacId) (r : RegR) (s : State) : Ans := .next (s.regReadCmd (Blk.mac mac.val) 0x040 r)

/-! Management DMA (R50). -/

/-- The descriptor that a management DMA's receive or transmit ring stands at, if it is available. -/
def State.mgDesc (s : State) (i : Fin 2) (tx : Bool) : State × Option (Nat × List Byte) :=
  let b := Blk.mac (mgMac i).val
  if s.frozen (.mgdma i) then (s, none)
  else if tx then
    s.ringDesc (s.mgAcc i) 10 i.val (s.fget b Reg.MAC_TXRING_BASE) (s.fget b Reg.MAC_TXRING_SIZE)
      (s.fget b Reg.MAC_RINGPTR_TX_HEAD) (s.fget b Reg.MAC_RINGPTR_TX_TAIL)
  else
    s.ringDesc (s.mgAcc i) 10 i.val (s.fget b Reg.MAC_RXRING_BASE) (s.fget b Reg.MAC_RXRING_SIZE)
      (s.fget b Reg.MAC_RINGPTR_RX_HEAD) (s.fget b Reg.MAC_RINGPTR_RX_TAIL)

/-- XOFF of a management port: raised while its DMA waits at a descriptor with OWN = 0 (07_weirs.md R134). -/
def State.mgXoff (s : State) (i : Fin 2) (on : Bool) : State :=
  (s.modMac (mgMac i) (fun k => { k with acct := if on then 1 else 0 })).fcEval (mgMac i)

/-- Whether the receive ring waits at a posted descriptor. -/
def State.mgPosted (s : State) (i : Fin 2) : Bool :=
  let b := Blk.mac (mgMac i).val
  decide (s.fget b Reg.MAC_RXRING_SIZE ≠ 0) && decide (s.fget b Reg.MAC_RINGPTR_RX_HEAD ≠ s.fget b Reg.MAC_RINGPTR_RX_TAIL)

/-- A received frame written to memory and its descriptor returned. -/
def State.mgPut (s : State) (i : Fin 2) (f : MgFrame) (pa : Nat) (d : List Byte) : State :=
  let m := mgMac i
  let b := Blk.mac m.val
  let a := s.mgAcc i
  let lost : State → State := fun t => t.mbump m Ctr.MAC_DROP_LINKDOWN
  let step : State → State := fun t =>
    t.fset b Reg.MAC_RINGPTR_RX_HEAD ((t.fget b Reg.MAC_RINGPTR_RX_HEAD + 1) % t.fget b Reg.MAC_RXRING_SIZE)
  if leAt d 8 2 < f.bytes.length then
    let w := s.dmaWrite a (pa + 8) [0, 0, descFlags d true]
    (if w.2 = .ok then step w.1 else w.1).mbump m Ctr.MAC_RX_LONG
  else
    let w := s.dmaWrite a (descAddr d) f.bytes
    if w.2 ≠ .ok then lost w.1
    else
      let ts := if w.1.flag b Reg.MAC_PTP_EN then f.ts else 0
      let v := w.1.dmaWrite a (pa + 8) (leBytes 2 f.bytes.length ++ [descFlags d false, 0, 0, 0, 0, 0] ++ leBytes 12 ts)
      if v.2 ≠ .ok then lost v.1 else step v.1

/-- MGDMA_RX_FRAME (R50): the oldest frame received meets the ring; where no descriptor is available it is dropped. -/
def execMgdmaRxFrame (mg : Fin 2) (s : State) : Ans :=
  let m := mgMac mg
  match (s.mac m).mgRx with
  | [] => .next s
  | f :: rest =>
    let t := s.modMac m (fun k => { k with mgRx := rest })
    let r := t.mgDesc mg false
    s.doIf true (match r.2 with
      | some (pa, d) => (r.1.mgXoff mg false).mgPut mg f pa d
      | none => (r.1.mgXoff mg (r.1.mgPosted mg)).mbump m Ctr.MAC_DROP_LINKDOWN)

/-- A transmit descriptor taken: its frame goes on the wire; data that hold poison end it under R39 and give ERR (R328). -/
def State.mgSend (s : State) (i : Fin 2) : State :=
  let m := mgMac i
  let k := s.mac m
  if !(s.macUp m) || k.mgTx.isSome || k.fcDue || s.paused m 0 then s
  else
    let r := s.mgDesc i true
    match r.2 with
    | none => r.1
    | some (_, d) =>
      let req := bitAt (BitVec.ofNat 8 (beAt d 10 1)) 2
      let q := r.1.dmaRead (s.mgAcc i) (descAddr d) (leAt d 8 2)
      match q.2.2 with
      | .ok => q.1.modMac m (fun x => { x with mgTx := some ⟨q.2.1, 0, req⟩ })
      | .poison =>
        { (q.1.mbump m Ctr.MAC_TX_TRUNC) with out := Out.frame m q.2.1 true :: q.1.out }.mgTxBack i true req 0
      | .unserved => q.1.mgTxBack i true req 0
      | .refused => q.1

/-- MGDMA_TX_DESC (R50). -/
def execMgdmaTxDesc (mg : Fin 2) (s : State) : Ans := s.doIf true (s.mgSend mg)

/-- MGDMA_RESUME (R50): the descriptor that a ring waits at has become available; the receive side stops holding its partner
off, the transmit side takes it. -/
def execMgdmaResume (mg : Fin 2) (tx : Bool) (s : State) : Ans :=
  if tx then s.doIf true (s.mgSend mg)
  else
    let r := s.mgDesc mg false
    s.doIf true (if r.2.isSome then r.1.mgXoff mg false else r.1.mgXoff mg (r.1.mgPosted mg))

end Sys2Proof.Machine
end

