-- ==== Sys2Proof/Machine/BitRows.lean ====
section
/-! DEFINITION. The commands of the loader and of boot (04_structural_bitstream.md R77-R84, 18_bringup_power.md R338-R341). -/

namespace Sys2Proof.Machine

/-- BIT_STAGE (R82): a write of BIT_CMD with OP 1. -/
def execBitStage (w : RegW) (s : State) : Ans :=
  .next (s.regWriteIf Blk.BIT 0x000 w (decide (woVal Reg.BIT_CMD_OP (regMask w) (regBits w) = 1)))

/-- BIT_ABORT (R84): a write of BIT_CMD with OP 2. -/
def execBitAbort (w : RegW) (s : State) : Ans :=
  .next (s.regWriteIf Blk.BIT 0x000 w (decide (woVal Reg.BIT_CMD_OP (regMask w) (regBits w) = 2)))

/-- BIT_LOAD_END (R77, R78, R82). -/
def execBitLoadEnd (s : State) : Ans := s.doIf true s.bitLoadEnd

/-- BOOT_BITSTREAM_LOAD (R80, R81): `file` is what the boot source holds from BIT_OFF on. -/
def execBootBitstreamLoad (file : List Byte) (s : State) : Ans := s.doIf true (s.bootLoad file)

/-- IMAGE_STREAM_START (R339 to R341): `dir` is the flash directory, `image` what stands at the primary image's offset. -/
def execImageStreamStart (dir image : List Byte) (s : State) : Ans := s.doIf true (s.imageStart dir image)

/-- IMAGE_VERIFY_DONE (R340): `secondary` is what stands at the secondary image's offset. -/
def execImageVerifyDone (secondary : List Byte) (s : State) : Ans := s.doIf true (s.imageVerify secondary)

end Sys2Proof.Machine
end

