-- ==== Sys2Proof/Machine/MemOps.lean ====
section
/-! DEFINITION. The M class of the Tarn instruction set (10_tarn_isa.md R199, R205; 12_memory_system.md R234, R241;
13_coherence_transactions.md R255, R256). -/

namespace Sys2Proof.Machine

/-- The effective address of the MEM format: base plus the offset scaled by the access size (R189, R190). -/
def memAddr (r : CoreArch) (y : Syl) (base : BitVec 6) (imm : BitVec 12) (size : Nat) : Word :=
  r.gval base + immOf y 12 imm.toNat * BitVec.ofNat 64 size

/-- LDB, LDBU, LDH, LDHU, LDW, LDWU, LDD (R205, R233). -/
def execLoad (y : Syl) (op : LoadOp) (d base : BitVec 6) (imm : BitVec 12) (s : State) : Ans :=
  let w := loadShape op
  .next (s.syllable y (fun r => { slot := .m, reads := [r.gdst base], writes := [r.gdst d], imm := true })
    (fun k u => u.access (.load (k.arch.gdst d) (memAddr k.arch y base imm w.1) w.1 w.2)))

/-- STB, STH, STW, STD (R205, R234). -/
def execStore (y : Syl) (op : StoreOp) (src base : BitVec 6) (imm : BitVec 12) (s : State) : Ans :=
  .next (s.syllable y (fun r => { slot := .m, reads := [r.gdst src, r.gdst base], imm := true })
    (fun k u => u.access (.store (memAddr k.arch y base imm (storeSize op)) (storeSize op) (k.arch.gval src))))

/-- LDF and LDFS (R205): LDFS loads a binary32 value, bits [63:32] becoming 0 (R186). -/
def execLoadF (y : Syl) (dbl : Bool) (d base : BitVec 6) (imm : BitVec 12) (s : State) : Ans :=
  let n := if dbl then 8 else 4
  .next (s.syllable y (fun r => { slot := .m, reads := [r.gdst base], writes := [fdst d], imm := true, legal := fok d })
    (fun k u => u.access (.load (fdst d) (memAddr k.arch y base imm n) n false)))

/-- STF and STFS (R205). -/
def execStoreF (y : Syl) (dbl : Bool) (src base : BitVec 6) (imm : BitVec 12) (s : State) : Ans :=
  let n := if dbl then 8 else 4
  .next (s.syllable y (fun r => { slot := .m, reads := [fdst src, r.gdst base], imm := true, legal := fok src })
    (fun k u => u.access (.store (memAddr k.arch y base imm n) n (k.arch.fval src))))

/-- AMO (R205, R255, R256): atomic at address ga with operand gb, comparand gd, old value to gd. -/
def execAmo (y : Syl) (d a b fn : BitVec 6) (s : State) : Ans :=
  .next (s.syllable y (fun r => { slot := .m, reads := [r.gdst d, r.gdst a, r.gdst b], writes := [r.gdst d], legal := amoLegal fn })
    (fun k u => u.access (.amo (k.arch.gdst d) (k.arch.gval a) fn (k.arch.gval b) (k.arch.gval d))))

/-- The register constraints of a block instruction (R199): three distinct registers, none g0 or g63, FN 0. -/
def blockLegal (d a b fn : BitVec 6) : Bool :=
  decide (d ≠ a) && decide (d ≠ b) && decide (a ≠ b) && [d, a, b].all (fun r => decide (r ≠ 0) && decide (r ≠ 63))
    && decide (fn = 0)

/-- One chunk of a block instruction (R199): all its state is in three registers. -/
def State.blockOp (s : State) (y : Syl) (op : Nat) (d a b fn : BitVec 6) : State :=
  s.syllable y (fun r => { slot := .alone, reads := [r.gdst d, r.gdst a, r.gdst b], writes := [r.gdst d, r.gdst a, r.gdst b],
                           legal := blockLegal d a b fn })
    (fun k u => u.access (.block op d.toFin a.toFin b.toFin (k.arch.gval d) (k.arch.gval a) (k.arch.gval b)))

/-- BCOPY (R199). -/
def execBcopy (y : Syl) (d a b fn : BitVec 6) (s : State) : Ans := .next (s.blockOp y 0 d a b fn)

/-- BCMP (R199). -/
def execBcmp (y : Syl) (d a b fn : BitVec 6) (s : State) : Ans := .next (s.blockOp y 1 d a b fn)

/-- BFILL (R199). -/
def execBfill (y : Syl) (d a b fn : BitVec 6) (s : State) : Ans := .next (s.blockOp y 2 d a b fn)

/-- A CMO of a code (R205, R241): d must be 0; the code stands in imm12, so that the offset is 0. -/
def State.cmoOp (s : State) (y : Syl) (code : Nat) (d base : BitVec 6) : State :=
  s.syllable y (fun r => { slot := .m, reads := [r.gdst base], legal := decide (d = 0) })
    (fun k u => u.access (.cmo code (k.arch.gval base)))

/-- CMO WBP (R241). -/
def execCmoWbp (y : Syl) (d base : BitVec 6) (s : State) : Ans := .next (s.cmoOp y 0 d base)

/-- CMO WBM (R241). -/
def execCmoWbm (y : Syl) (d base : BitVec 6) (s : State) : Ans := .next (s.cmoOp y 1 d base)

/-- CMO WBMI (R241). -/
def execCmoWbmi (y : Syl) (d base : BitVec 6) (s : State) : Ans := .next (s.cmoOp y 2 d base)

/-- CMO INVD (R241). -/
def execCmoInvd (y : Syl) (d base : BitVec 6) (s : State) : Ans := .next (s.cmoOp y 3 d base)

/-- CMO ZERO (R241). -/
def execCmoZero (y : Syl) (d base : BitVec 6) (s : State) : Ans := .next (s.cmoOp y 4 d base)

/-- PRF (R205): never faults; d must be 0. -/
def execPrf (y : Syl) (d base : BitVec 6) (imm : BitVec 12) (s : State) : Ans :=
  .next (s.syllable y (fun r => { slot := .m, reads := [r.gdst base], imm := true, legal := decide (d = 0) })
    (fun k u => u.access (.prf (memAddr k.arch y base imm 1))))

end Sys2Proof.Machine
end

