-- ==== Sys2Proof/Machine/XClass.lean ====
section
/-! DEFINITION. The X class of the Tarn instruction set: multiply, divide, accumulators, MACD and floating point
(10_tarn_isa.md R195-R197, R206; 11_tarn_pipeline.md R213-R219). -/

namespace Sys2Proof.Machine

/-- MUL, MULHU, MULHS (R206): latency 4. -/
def execMul (y : Syl) (op : MulOp) (d a b : BitVec 6) (s : State) : Ans :=
  .next (s.syllable y (fun r => { slot := .x, reads := [r.gdst a, r.gdst b], writes := [r.gdst d] })
    (fun k u => u.wr k (k.arch.gdst d) (mulVal op (k.arch.gval a) (k.arch.gval b)) 4))

/-- MULWU and MULWS (R195): d even and at most 60, both halves with latency 4. -/
def execMulWide (y : Syl) (signed : Bool) (d a b : BitVec 6) (s : State) : Ans :=
  .next (s.syllable y (fun r => { slot := .x, reads := [r.gdst a, r.gdst b], writes := [r.gdst d, r.gdst (d + 1)],
                                  legal := decide (d.toNat % 2 = 0) && decide (d.toNat ≤ 60) })
    (fun k u =>
      let p := product signed (k.arch.gval a) (k.arch.gval b)
      (u.wr k (k.arch.gdst d) (p.setWidth 64) 4).wr k (k.arch.gdst (d + 1)) ((p >>> 64).setWidth 64) 4))

/-- DIV, DIVU, REM, REMU (R206, R213): a long operation; DIVZERO where CTL.DIVTRAP is 1; DIV and REM count as writers
of FL and set OV in the overflow case. -/
def execDivide (y : Syl) (op : DivOp) (d a b : BitVec 6) (s : State) : Ans :=
  .next (s.syllable y (fun r => { slot := .x, reads := [r.gdst a, r.gdst b], writes := [r.gdst d], fl := divSigned op,
                                  unit := some .div })
    (fun k u =>
      let x := k.arch.gval a
      let z := k.arch.gval b
      if z = 0 ∧ k.arch.divTrap then u.fault (plainExc .divzero)
      else
        let u := u.long k (k.arch.gdst d) (divVal op x z) 0 .div
        if divOverflow op x z then u.flags none true else u))

/-- The accumulator as a chain reader sees it (R196). -/
def Core.accChain (k : Core) (n : Fin 4) : BitVec 128 := k.chain (.acc n) (k.arch.acc.get n)

/-- MACU (R196). -/
def execMacu (y : Syl) (n : Fin 4) (a b : BitVec 6) (s : State) : Ans :=
  .next (s.syllable y (fun r => { slot := .x, reads := [r.gdst a, r.gdst b, .acc n], writes := [.acc n] })
    (fun k u => u.wrAcc k n (k.accChain n + product false (k.arch.gval a) (k.arch.gval b)) 4))

/-- MACS (R196): the product signed and sign-extended. -/
def execMacs (y : Syl) (n : Fin 4) (a b : BitVec 6) (s : State) : Ans :=
  .next (s.syllable y (fun r => { slot := .x, reads := [r.gdst a, r.gdst b, .acc n], writes := [.acc n] })
    (fun k u => u.wrAcc k n (k.accChain n + product true (k.arch.gval a) (k.arch.gval b)) 4))

/-- ACCLR (R196). -/
def execAcclr (y : Syl) (n : Fin 4) (s : State) : Ans :=
  .next (s.syllable y (fun _ => { slot := .x, writes := [.acc n] }) (fun k u => u.wrAcc k n 0 4))

/-- ACCSHR (R196). -/
def execAccshr (y : Syl) (n : Fin 4) (s : State) : Ans :=
  .next (s.syllable y (fun _ => { slot := .x, reads := [.acc n], writes := [.acc n] })
    (fun k u => u.wrAcc k n (k.accChain n >>> 64) 4))

/-- MVACL and MVACH (R196): they read the accumulator as it stands, latency 4. -/
def execMvac (y : Syl) (high : Bool) (d : BitVec 6) (n : Fin 4) (s : State) : Ans :=
  .next (s.syllable y (fun r => { slot := .x, reads := [.acc n], writes := [r.gdst d] })
    (fun k u =>
      let v := k.arch.acc.get n
      u.wr k (k.arch.gdst d) (if high then (v >>> 64).setWidth 64 else v.setWidth 64) 4))

/-- MVTAC (R196): acc = gb ∥ ga. -/
def execMvtac (y : Syl) (n : Fin 4) (a b : BitVec 6) (s : State) : Ans :=
  .next (s.syllable y (fun r => { slot := .x, reads := [r.gdst a, r.gdst b, .acc n], writes := [.acc n] })
    (fun k u => u.wrAcc k n (k.arch.gval b ++ k.arch.gval a) 4))

/-- MACD (R197): the fields of FN, pairwise distinct registers unless g0, the two fetches, the pointer steps. -/
def execMacd (y : Syl) (c a b fn : BitVec 6) (s : State) : Ans :=
  let n : Fin 4 := Fin.ofNat 4 (fn.toNat / 16)
  let sa := fn.toNat / 4 % 4
  let sb := fn.toNat % 4
  let apart : BitVec 6 → BitVec 6 → Bool := fun p q => decide (p ≠ q) || decide (p = 0)
  .next (s.syllable y
    (fun r => { slot := .macd, reads := [r.gdst c, r.gdst a, r.gdst b, .acc n],
                writes := [r.gdst c, r.gdst a, r.gdst b, .acc n],
                legal := decide (sa ≠ 3) && decide (sb ≠ 3) && apart a b && apart a c && apart b c })
    (fun k u =>
      let r := k.arch
      let cin : Word := (k.chain (r.gdst c) ((r.gval c).setWidth 128)).setWidth 64
      let va := r.gval a
      let vb := r.gval b
      u.access (.macd n (r.gdst c) (k.accChain n) (if c = 0 then 0 else cin) va vb
        ⟨r.gdst a, (va + macdStep sa).setWidth 128, k.bn + 1, 0⟩ ⟨r.gdst b, (vb + macdStep sb).setWidth 128, k.bn + 1, 0⟩)))

/-- FADD, FSUB, FMUL (R206, R215): latency 4. -/
def execFArith (y : Syl) (op : FArithOp) (dbl : Bool) (d a b : BitVec 6) (s : State) : Ans :=
  .next (s.syllable y (fun _ => { slot := .x, reads := [fdst a, fdst b], writes := [fdst d], legal := fok d && fok a && fok b })
    (fun k u =>
      let r := k.arch
      let x := r.fop dbl a
      let z := r.fop dbl b
      u.fp k (fdst d) (match op with
        | .fadd => fpAdd (fmtOf dbl) r.rm r.ftz x z
        | .fsub => fpAdd (fmtOf dbl) r.rm r.ftz x z.neg
        | .fmul => fpMul (fmtOf dbl) r.rm r.ftz x z) 4))

/-- FDIV and FSQRT (R206, R218): long operations; b of FSQRT must be 0. -/
def execFDivSqrt (y : Syl) (sqrt : Bool) (dbl : Bool) (d a b : BitVec 6) (s : State) : Ans :=
  .next (s.syllable y
    (fun _ => { slot := .x, reads := if sqrt then [fdst a] else [fdst a, fdst b], writes := [fdst d],
                legal := fok d && fok a && fok b && (!sqrt || decide (b = 0)), unit := some .fdiv })
    (fun k u =>
      let r := k.arch
      u.fpLong k (fdst d) (if sqrt then fpSqrt (fmtOf dbl) r.rm r.ftz (r.fop dbl a)
        else fpDiv (fmtOf dbl) r.rm r.ftz (r.fop dbl a) (r.fop dbl b))))

/-- FMIN and FMAX (R206, R215): latency 2. -/
def execFMinMax (y : Syl) (max : Bool) (dbl : Bool) (d a b : BitVec 6) (s : State) : Ans :=
  .next (s.syllable y (fun _ => { slot := .x, reads := [fdst a, fdst b], writes := [fdst d], legal := fok d && fok a && fok b })
    (fun k u => u.fp k (fdst d) (fpMinMax (fmtOf dbl) max (k.arch.fop dbl a) (k.arch.fop dbl b)) 2))

/-- FCMPEQ, FCMPLT, FCMPLE (R206, R215): 1 or 0 in a g-register, latency 2. -/
def execFCmp (y : Syl) (op : FCmpOp) (dbl : Bool) (d a b : BitVec 6) (s : State) : Ans :=
  let n := match op with
    | .eq => 0
    | .lt => 1
    | .le => 2
  .next (s.syllable y (fun r => { slot := .x, reads := [fdst a, fdst b], writes := [r.gdst d], legal := fok a && fok b })
    (fun k u =>
      let q := fpCmp n (k.arch.fop dbl a) (k.arch.fop dbl b)
      u.fp k (k.arch.gdst d) (b2w q.1, q.2) 2))

/-- FCVTIF and FCVTFI (R206, R215): latency 3. -/
def execFCvtInt (y : Syl) (toInt : Bool) (dbl : Bool) (d a : BitVec 6) (s : State) : Ans :=
  .next (s.syllable y
    (fun r => { slot := .x, reads := if toInt then [fdst a] else [r.gdst a],
                writes := if toInt then [r.gdst d] else [fdst d], legal := if toInt then fok a else fok d })
    (fun k u =>
      let r := k.arch
      if toInt then u.fp k (r.gdst d) (fpToInt r.rm (r.fop dbl a)) 3
      else u.fp k (fdst d) (fpOfInt (fmtOf dbl) r.rm r.ftz (r.gval a)) 3))

/-- FMOVGF and FMOVFG (R206): a bit copy, latency 1; the .S forms copy bits [31:0] (R186). -/
def execFMov (y : Syl) (fromF : Bool) (dbl : Bool) (d a : BitVec 6) (s : State) : Ans :=
  let low : Word → Word := fun v => if dbl then v else zext 32 v
  .next (s.syllable y
    (fun r => { slot := .x, reads := if fromF then [fdst a] else [r.gdst a],
                writes := if fromF then [r.gdst d] else [fdst d], legal := if fromF then fok a else fok d })
    (fun k u => if fromF then u.wr k (k.arch.gdst d) (low (k.arch.fval a)) 1
      else u.wr k (fdst d) (low (k.arch.gval a)) 1))

/-- FNEG and FABS (R206, R215): sign bits only, no flag, latency 1. -/
def execFSign (y : Syl) (abs : Bool) (dbl : Bool) (d a : BitVec 6) (s : State) : Ans :=
  .next (s.syllable y (fun _ => { slot := .x, reads := [fdst a], writes := [fdst d], legal := fok d && fok a })
    (fun k u =>
      let sg : Word := BitVec.ofNat 64 (fmtOf dbl).signBit
      let v := if dbl then k.arch.fval a else zext 32 (k.arch.fval a)
      u.wr k (fdst d) (if abs then v &&& ~~~sg else v ^^^ sg) 1))

/-- FCVTDS and FCVTSD (R206, R215): latency 3. -/
def execFCvtPrec (y : Syl) (toDouble : Bool) (d a : BitVec 6) (s : State) : Ans :=
  .next (s.syllable y (fun _ => { slot := .x, reads := [fdst a], writes := [fdst d], legal := fok d && fok a })
    (fun k u =>
      let r := k.arch
      u.fp k (fdst d) (fpConvert (fmtOf toDouble) r.rm r.ftz (r.fop (!toDouble) a)) 3))

/-- FMA, FMS, FNMA, FNMS (R206): fd = ±(fa × fb) ± fd with one rounding, latency 4. Which sign each name takes:
notes/assumptions/21.md. -/
def execFFma (y : Syl) (op : FmaOp) (dbl : Bool) (d a b : BitVec 6) (s : State) : Ans :=
  .next (s.syllable y
    (fun _ => { slot := .x, reads := [fdst a, fdst b, fdst d], writes := [fdst d], legal := fok d && fok a && fok b })
    (fun k u =>
      let r := k.arch
      let x := r.fop dbl a
      let z := r.fop dbl b
      let w := r.fop dbl d
      u.fp k (fdst d) (match op with
        | .fma => fpFma (fmtOf dbl) r.rm r.ftz x z w
        | .fms => fpFma (fmtOf dbl) r.rm r.ftz x z w.neg
        | .fnma => fpFma (fmtOf dbl) r.rm r.ftz x.neg z w
        | .fnms => fpFma (fmtOf dbl) r.rm r.ftz x.neg z w.neg) 4))

end Sys2Proof.Machine
end

