-- ==== Sys2Proof/Machine/Branch.lean ====
section
/-! DEFINITION. The B class of the Tarn instruction set: branches, calls, loops, level changes, transactions,
synchronisation and control registers (10_tarn_isa.md R187, R188, R198, R200-R203, R207). -/

namespace Sys2Proof.Machine

/-- A B-class syllable without registers. -/
def State.bOp (s : State) (y : Syl) (legal : Bool) (o : BOp) : State :=
  s.syllable y (fun _ => { slot := .b, legal := legal }) (fun _ u => u.op o)

/-- BR (R207). -/
def execBr (y : Syl) (disp : BitVec 24) (s : State) : Ans :=
  .next (s.syllable y (fun _ => { slot := .b, imm := true })
    (fun k u => u.op (.jump (k.arch.pc + immOf y 24 disp.toNat * 4))))

/-- The stack store and the pointer step of CALL and CALLR (R200): 8 bytes at g63 − 8, aligned. -/
def Bundle.push (u : Bundle) (k : Core) : Bundle :=
  let sp := k.arch.gval 63 - 8
  let u := u.wr k (k.arch.gdst 63) sp 1
  if sp.toNat % 8 ≠ 0 then u.fault (memExc .align sp .write) else u.access (.pushRet sp)

/-- CALL (R200). -/
def execCall (y : Syl) (disp : BitVec 24) (s : State) : Ans :=
  .next (s.syllable y (fun r => { slot := .b, reads := [r.gdst 63], writes := [r.gdst 63], imm := true })
    (fun k u => (u.push k).op (.jump (k.arch.pc + immOf y 24 disp.toNat * 4))))

/-- CALLR (R200): a target with bits [1:0] set raises ALIGN. -/
def execCallr (y : Syl) (a : BitVec 6) (s : State) : Ans :=
  .next (s.syllable y (fun r => { slot := .b, reads := [r.gdst 63, r.gdst a], writes := [r.gdst 63] })
    (fun k u => ((u.push k).op (.jump (k.arch.gval a))).indirect))

/-- JMPR (R200, R207). -/
def execJmpr (y : Syl) (a : BitVec 6) (s : State) : Ans :=
  .next (s.syllable y (fun r => { slot := .b, reads := [r.gdst a] }) (fun k u => (u.op (.jump (k.arch.gval a))).indirect))

/-- RET (R200). -/
def execRet (y : Syl) (s : State) : Ans :=
  .next (s.syllable y (fun r => { slot := .b, reads := [r.gdst 63], writes := [r.gdst 63] })
    (fun k u => ((u.access (.popRet (k.arch.gval 63))).op .ret).indirect))

/-- BEQ, BNE, BLT, BGE, BLTU, BGEU (R207): not taken, the bundle falls through. -/
def execBcond (y : Syl) (op : BrCond) (a b : BitVec 6) (disp : BitVec 12) (s : State) : Ans :=
  .next (s.syllable y (fun r => { slot := .b, reads := [r.gdst a, r.gdst b], imm := true })
    (fun k u =>
      let t := brTaken op (k.arch.gval a) (k.arch.gval b)
      (if t then u.op (.jump (k.arch.pc + immOf y 12 disp.toNat * 4)) else u).cond t))

/-- The unsigned displacement of LOOP, with EXT before it (R190, R198). -/
def loopDisp (y : Syl) (disp : BitVec 12) : Nat :=
  (y.ext.foldl (fun n e => n * 2 ^ 24 + e.toNat) 0) * 2 ^ 12 + disp.toNat

/-- LOOP (R198): disp12 from 1 to 4,095. -/
def execLoop (y : Syl) (a : BitVec 6) (disp : BitVec 12) (s : State) : Ans :=
  let n := loopDisp y disp
  .next (s.syllable y (fun r => { slot := .b, reads := [r.gdst a], imm := true, legal := decide (1 ≤ n) && decide (n ≤ 4095) })
    (fun k u => u.op (.loopArm (k.arch.gval a) n)))

/-- LOOPI (R189, R198): no EXT; disp12 from 1 to 4,095. -/
def execLoopi (y : Syl) (count : BitVec 12) (disp : BitVec 12) (s : State) : Ans :=
  .next (s.bOp y (decide (disp ≠ 0)) (.loopArm (count.setWidth 64) disp.toNat))

/-- KCALL (R201): at U only. -/
def execKcall (y : Syl) (imm : BitVec 12) (s : State) : Ans := .next (s.bOp y true (.levelCall .kcall imm))

/-- HCALL (R201): at N-K only. -/
def execHcall (y : Syl) (imm : BitVec 12) (s : State) : Ans := .next (s.bOp y true (.levelCall .hcall imm))

/-- MCALL (R201): at K or H. -/
def execMcall (y : Syl) (imm : BitVec 12) (s : State) : Ans := .next (s.bOp y true (.levelCall .mcall imm))

/-- XRET (R201, R225, R283). -/
def execXret (y : Syl) (s : State) : Ans := .next (s.bOp y true .xret)

/-- TBEGIN (R202): gd = 0 with latency 1. -/
def execTbegin (y : Syl) (d : BitVec 6) (disp : BitVec 12) (s : State) : Ans :=
  .next (s.syllable y (fun r => { slot := .b, writes := [r.gdst d] })
    (fun k u => (u.wr k (k.arch.gdst d) 0 1).op (.tbegin (k.arch.gdst d) (sext 12 (disp.setWidth 64)))))

/-- TCOMMIT (R202, R257). -/
def execTcommit (y : Syl) (s : State) : Ans := .next (s.bOp y true .tcommit)

/-- TABORT (R202, R207): imm8, with bits [11:8] 0. -/
def execTabort (y : Syl) (imm : BitVec 12) (s : State) : Ans :=
  .next (s.bOp y (decide (imm.toNat < 256)) (.tabort (imm.setWidth 8)))

/-- FENCE (R203). -/
def execFence (y : Syl) (s : State) : Ans := .next (s.bOp y true .fence)

/-- DSYNC (R203). -/
def execDsync (y : Syl) (s : State) : Ans := .next (s.bOp y true .dsync)

/-- ISYNC (R203). -/
def execIsync (y : Syl) (s : State) : Ans := .next (s.bOp y true .isync)

/-- PCLR 0 (R203). -/
def execPclrOwn (y : Syl) (s : State) : Ans := .next (s.bOp y true (.pclr false))

/-- PCLR 1 (R203): at M only. -/
def execPclrAll (y : Syl) (s : State) : Ans := .next (s.bOp y true (.pclr true))

/-- An MFCR of a number (R187): SPT_CLAIM and DTBNOW act as the bundle completes. -/
def State.mfcrOp (s : State) (y : Syl) (d : BitVec 6) (num : BitVec 12) : State :=
  s.syllable y
    (fun r => { slot := .b, writes := [r.gdst d], fpSync := decide (num = 1),
                reads := if h : 0x140 ≤ num.toNat ∧ num.toNat ≤ 0x145 then [.bank ⟨num.toNat - 0x140, by omega⟩] else [] })
    (fun k u =>
      if num = 0x190 then u.op (.claim (k.arch.gdst d))
      else if num = 0x1B0 then u.op (.now (k.arch.gdst d))
      else match k.mfcr num with
        | .ok v => u.wr k (k.arch.gdst d) v 1
        | .error e => u.fault e)

/-- An MTCR of a number (R187, R188). -/
def State.mtcrOp (s : State) (y : Syl) (d : BitVec 6) (num : BitVec 12) : State :=
  s.syllable y (fun r => { slot := .b, reads := [r.gdst d], fl := decide (num = 0), fpSync := decide (num = 1) })
    (fun k u => u.op (.mtcr num (k.arch.gval d)))

/-- MFCR (R187). -/
def execMfcr (y : Syl) (d : BitVec 6) (num : BitVec 12) (s : State) : Ans := .next (s.mfcrOp y d num)

/-- MTCR (R187, R188). -/
def execMtcr (y : Syl) (d : BitVec 6) (num : BitVec 12) (s : State) : Ans := .next (s.mtcrOp y d num)

/-- MTCR to CACHECTL (R243): at M only. -/
def execCachectlWrite (y : Syl) (d : BitVec 6) (s : State) : Ans := .next (s.mtcrOp y d 0x180)

/-- An MTCR to TLBINV whose value names an operation (R288): a value that names another is not this command, and
nothing changes. -/
def State.tlbinvOp (s : State) (y : Syl) (d : BitVec 6) (op : Nat) : State :=
  if bits ((s.core y.core).arch.gval d).toNat 3 0 = op then s.mtcrOp y d 0x138 else s

/-- TLBINV OP 0 (R288). -/
def execTlbinvRegime (y : Syl) (d : BitVec 6) (s : State) : Ans := .next (s.tlbinvOp y d 0)

/-- TLBINV OP 1 (R288). -/
def execTlbinvAsid (y : Syl) (d : BitVec 6) (s : State) : Ans := .next (s.tlbinvOp y d 1)

/-- TLBINV OP 2 (R288). -/
def execTlbinvVaAsid (y : Syl) (d : BitVec 6) (s : State) : Ans := .next (s.tlbinvOp y d 2)

/-- TLBINV OP 3 (R288). -/
def execTlbinvVa (y : Syl) (d : BitVec 6) (s : State) : Ans := .next (s.tlbinvOp y d 3)

/-- TLBINV OP 4 (R288). -/
def execTlbinvVmid (y : Syl) (d : BitVec 6) (s : State) : Ans := .next (s.tlbinvOp y d 4)

/-- TLBINV OP 5 (R288). -/
def execTlbinvIpa (y : Syl) (d : BitVec 6) (s : State) : Ans := .next (s.tlbinvOp y d 5)

/-- TLBINV OP 6 (R288). -/
def execTlbinvWorld (y : Syl) (d : BitVec 6) (s : State) : Ans := .next (s.tlbinvOp y d 6)

/-- MFCR of DTBNOW (R347). -/
def execDtbNow (y : Syl) (d : BitVec 6) (s : State) : Ans := .next (s.mfcrOp y d 0x1B0)

/-- MFCR of SPT_CLAIM (R311). -/
def execSptClaim (y : Syl) (d : BitVec 6) (s : State) : Ans := .next (s.mfcrOp y d 0x190)

end Sys2Proof.Machine
end

