-- ==== Sys2Proof/Machine/ChannelRows.lean ====
section
/-! DEFINITION. The commands of channel failure, quiescing and test, and of spillway banks that fail (17_fault_tolerance.md
R322-R325, R327). -/

namespace Sys2Proof.Machine

/-- The cause code of a CHANNEL record. -/
def ChanFailCause.code : ChanFailCause → Nat
  | .parity => 1
  | .table => 2
  | .intake => 3
  | .frozenTier => 4
  | .test => 5

/-- CHANNEL_FAIL (R322); `tier` counts within the channel. A tier that is not frozen, and a test that CAS_TEST_DONE has not
ended, are no such failure. -/
def execChannelFail (ch : ChanId) (tier : Fin 8) (cause : ChanFailCause) (s : State) : Ans :=
  let t := 8 * ch.val + tier.val
  let ok := match cause with
    | .frozenTier => s.frozen (.tier (tierOf t))
    | .test => false
    | _ => true
  s.doIf ok (s.channelFail ch t (ChanFailCause.code cause))

/-- A write of CAS_CMD with an OP. -/
def State.casWrite (s : State) (ch : ChanId) (op : Nat) (w : RegW) : State :=
  s.regWriteIf (Blk.cas ch.val) Reg.CAS_CMD_OP.off w (decide (woVal Reg.CAS_CMD_OP (regMask w) (regBits w) = op))

/-- CAS_QUIESCE (R325). -/
def execCasQuiesce (ch : ChanId) (w : RegW) (s : State) : Ans := .next (s.casWrite ch 1 w)

/-- CHANNEL_QUIESCED (R325): the frames in the channel have finished. -/
def execChannelQuiesced (ch : ChanId) (s : State) : Ans :=
  let c := s.headCh ch
  s.doIf ((s.chan c).quiescing && !(s.frames.any (fun f => f.ch == c && f.inChain)))
    ((s.chSet c 3).modChan c (fun k => { k with quiescing := false }))

/-- CAS_TEST (R325). -/
def execCasTest (ch : ChanId) (w : RegW) (s : State) : Ans := .next (s.casWrite ch 2 w)

/-- CAS_TEST_DONE (R325). -/
def execCasTestDone (ch : ChanId) (pass : Bool) (s : State) : Ans :=
  let c := s.headCh ch
  s.doIf (s.chan c).testing
    (if pass then (s.chSet c 3).modChan c (fun k => { k with testing := false }) else s.channelFail c (8 * c.val) 5)

/-- CAS_RETURN (R325). -/
def execCasReturn (ch : ChanId) (w : RegW) (s : State) : Ans := .next (s.casWrite ch 3 w)

/-- A frame holds a cell of a bank. -/
def Frame.holdsIn (f : Frame) (b : Nat) : Bool := decide (0 < (f.cells[b]?).getD 0) || decide (0 < (f.outCells[b]?).getD 0)

/-- A frame that its bank lost (R327): on a wire it ends as under R39. -/
def State.loseFrame (s : State) (f : Frame) : State :=
  let t := foldL (List.finRange 34) (fun m u =>
    let k := u.mac m
    if k.tx = some f.id then
      { ((u.mbump m Ctr.MAC_TX_TRUNC).modMac m (fun k => { k with tx := none })) with out := Out.frame m f.obytes true :: u.out }
    else if k.next = some f.id then u.modMac m (fun k => { k with next := none })
    else u) s
  let t := t.dropFrame f Blk.SPL Ctr.SPL_DROP_BANKFAIL
  match f.loc with
  | .queue m q => t.queueMoved m q
  | .out m => t.txStart (macOf m)
  | _ => t

/-- SPILL_BANK_FAIL (R327). -/
def execSpillBankFail (bank : Fin 4) (s : State) : Ans :=
  let t := { s with bankFenced := setBit s.bankFenced bank.val true }.setReady (Rdy.spl bank.val) false
  let t := foldL (s.frames.filter (fun f => f.holdsIn bank.val)) (fun f u => u.loseFrame f) t
  s.doIf (!(bitAt s.bankFenced bank.val)) (t.cellEval.devError 11 7 bank.val 0 0 0)

end Sys2Proof.Machine
end

