-- ==== Sys2Proof/Machine/CoreEvents.lean ====
section
/-! DEFINITION. What happens to a core between its bundles: interrupt entry (11_tarn_pipeline.md R222, R223,
16_spout_interrupts.md R305, R309), long results landing (R192), merging-buffer drains (12_memory_system.md R234),
illegal bundles and instruction aborts (R184, R287, R328), cairn boundaries, aborts, mismatches and tests
(13_coherence_transactions.md R263, 17_fault_tolerance.md R316-R321). -/

namespace Sys2Proof.Machine

/-- A core stands between two bundles and may start the next. -/
def State.between (s : State) (c : CoreId) : Bool := s.issues c && decide ((s.core c).bundle = Bundle.empty)

/-! Interrupt entry (R222, R223, R282, R305, R309). -/

/-- Whether a core would accept a source but for its having been retargeted (R309). -/
def State.lostSource (s : State) (c : CoreId) (n : Nat) : Option (World × Level) :=
  let x := s.anySrc c n
  if decide (32 ≤ n) && s.ready Rdy.spoutHub && s.srcPending c n && x.en && decide (s.srcTarget c n ≠ c)
      && bitAt (s.core c).arch.sptIe (ieBit x.world (levelOfCode x.tlevel)) && s.vmidOk c n then
    match accept282 (s.core c).arch (s.core c).arch.world (s.core c).arch.level x.world (levelOfCode x.tlevel) with
    | some (.enter w l) => some (w, l)
    | _ => none
  else none

/-- The entry itself: an open transaction aborts with INTERRUPT and the return address is its fallback (R260). -/
def State.interruptTo (s : State) (c : CoreId) (w : World) (l : Level) (e : Exc) (act : BitVec 10) : State :=
  let s := s.txAbort c 8 0
  let src := if e.cause = .xworld then e.imm.toNat else act.toNat
  let s := s.enterBy c w l e (s.core c).arch.pc src
  (s.modCore c (fun k => k.setAct w l act)).bump (Blk.spt c.val) Ctr.SPT_ENTRIES

/-- The entry for an accepted source: to its level, or to M as XWORLD, which clears XW_EN (R282). -/
def State.interruptBy (s : State) (c : CoreId) (n : Nat) (o : Accept) : State :=
  match o with
  | .enter w l => s.interruptTo c w l (Exc.mk0 .interrupt 0 .read) (BitVec.ofNat 10 n)
  | .xworld =>
    let t := s.interruptTo c .S .M { Exc.mk0 .xworld 0 .read with imm := BitVec.ofNat 12 n } 0x3FF
    t.modArch c (fun a => { a with mctl := a.mctl &&& ~~~1 })

/-- INTERRUPT_ENTRY (R222): the lowest-numbered source the core accepts is entered; one below the source first chosen
has taken over (R223); the first one retargeted meanwhile leaves an empty entry (R309). -/
def execInterruptEntry (core : CoreId) (first : BitVec 10) (s : State) : Ans :=
  if !(s.between core) then .next s
  else
    let s := s.vmPend core
    match s.bestSource core with
    | some n =>
      (match s.accepts core n with
       | some o =>
         let took := decide (n < first.toNat) && (s.accepts core first.toNat).isSome
         let s := if took then s.bump (Blk.spt core.val) Ctr.SPT_TAKEOVERS else s
         .next ((s.interruptBy core n o).stepEnd core)
       | none => .next s)
    | none =>
      match s.lostSource core first.toNat with
      | some (w, l) =>
        .next (((s.interruptTo core w l (Exc.mk0 .interrupt 0 .read) 0x3FF).bump (Blk.spt core.val) Ctr.SPT_EMPTY).stepEnd core)
      | none => .next s

/-! Results and stores on their way. -/

/-- LONG_OP_LAND (R192): a long operation that waits for nothing lands and clears its pending mark; a poisoned one
brings its imprecise abort (R328). -/
def execLongOpLand (core : CoreId) (index : Nat) (s : State) : Ans :=
  if !(s.between core) then .next s
  else
    match (s.core core).longs[index]? with
    | none => .next s
    | some o =>
      if !o.await.isEmpty then .next s
      else
        let s := s.modCore core (fun k => { k with arch := landOp k.arch o, longs := k.longs.eraseIdx index })
        .next (match o.abort with
          | some va => s.imprecise core va
          | none => s)

/-- MB_ENTRY_DRAIN (R234). -/
def execMbEntryDrain (core : CoreId) (index : Nat) (s : State) : Ans := .next (s.drainAt core index).1

/-- ILLEGAL_BUNDLE (R184): no syllable takes effect and ILLEGAL is taken with the bundle's address. -/
def execIllegalBundle (core : CoreId) (s : State) : Ans :=
  if !(s.issues core) || s.breakHere core then .next s
  else
    let pc := (s.core core).arch.pc
    .next (((s.modCore core (fun k => { k with bundle := Bundle.empty })).raise core (illegalExc pc) pc).stepEnd core)

/-- What a fetch of the bundle at the program counter raises: a fault of translation or type, the guard's refusal, poison
(R233, R287, R328). -/
def State.fetchFault (s : State) (c : CoreId) : State × Option MemStop :=
  let a := (s.core c).arch
  let t := s.translate c a.pc .fetch
  match t.2 with
  | .error e => (t.1, some (.exc e))
  | .ok (pa, ty) =>
    if ty.isDevice || !(t.1.accessOk pa 4 ty .fetch) || decide (ridgeBase ≤ pa) then
      (t.1, some (.exc (Exc.mk0 .iabort a.pc .fetch)))
    else
      match t.1.guard (coreAcc c a) pa 4 .fetch with
      | .refuse e => (t.1.freezeCore c 1 ⟨coreAcc c a, pa, .fetch, e⟩, some .refused)
      | .ok _ _ _ =>
        if (t.1.cohRead pa 4).2.2 then (t.1.poisonRecord c pa, some (.exc (Exc.mk0 .iabort a.pc .fetch)))
        else (t.1, none)

/-- IABORT (R287, R328): the fetch of the bundle faults and the core takes the exception on that bundle. -/
def execIabort (core : CoreId) (s : State) : Ans :=
  if !(s.between core) || s.breakHere core then .next s
  else
    let r := s.fetchFault core
    .next (match r.2 with
      | some (.exc e) => (r.1.raise core e (s.core core).arch.pc).stepEnd core
      | some _ => r.1
      | none => s)

/-! Cairns (R263, R316-R321). -/

/-- CAIRN_BOUNDARY (R316): the interval has passed; an open transaction defers the boundary, or at an interval of 8 µs or
more aborts with CAIRN first (R263). -/
def execCairnBoundary (pair : Fin 16) (s : State) : Ans :=
  let c := evenCore pair
  if !(s.locked pair) || !(s.between c) || s.ridgeOpen c then .next s
  else if (s.core c).txn.isSome then
    if 8 ≤ s.fget (Blk.crn pair.val) Reg.CRN_CTRL_INTERVAL_US then .next ((s.txAbort c 5 0).boundaryNow pair false)
    else .next (s.bump (Blk.crn pair.val) Ctr.CRN_TX_DEFER)
  else .next (s.boundaryNow pair false)

/-- CAIRN_ABORT (R263): at 8 µs a transaction that defers the boundary aborts with CAIRN, and the commit follows. -/
def execCairnAbort (pair : Fin 16) (s : State) : Ans :=
  let c := evenCore pair
  if !(s.locked pair) || !(s.issues c) || s.ridgeOpen c || (s.core c).txn.isNone then .next s
  else .next ((s.txAbort c 5 0).boundaryNow pair false)

/-- LOCKSTEP_MISMATCH (R319). -/
def execLockstepMismatch (pair : Fin 16) (s : State) : Ans :=
  let st := s.crnState (evenCore pair)
  if s.locked pair && (decide (st = 1) || decide (st = 2)) then .next (s.mismatch pair) else .next s

/-- CAIRN_RESTART_DONE (R319). -/
def execCairnRestartDone (pair : Fin 16) (s : State) : Ans :=
  if s.locked pair && decide (s.crnState (evenCore pair) = 2) then .next (s.restartDone pair) else .next s

/-- R331: a COMPARATOR record of a pair. -/
def State.comparatorRecord (s : State) (p : Fin 16) : State :=
  s.devError 2 2 p.val 0 0 0

/-- A failed test of a pair or core: STATE failed, TEST_FAIL, the record (R320, R321). -/
def State.testFailed (s : State) (c : CoreId) : State :=
  let p := pairOf c
  let s := (s.setCrnState c 5).modPair p (fun x => if s.locked p then { x with phase := 0 } else x)
  ((s.fset (Blk.crn p.val) Reg.CRN_EVENT_TEST_FAIL 1).comparatorRecord p)

/-- A passed TEST command: out of service, TEST_PASS (R321). -/
def State.testPassed (s : State) (c : CoreId) : State :=
  let p := pairOf c
  let s := (s.setCrnState c 4).modPair p (fun x => if s.locked p then { x with phase := 0 } else x)
  s.fset (Blk.crn p.val) Reg.CRN_EVENT_TEST_PASS 1

/-- COMPARATOR_TEST_DONE (R320): at a start the pair becomes ready and runs, its registers the first checkpoint; after a
TEST command it is out of service again; a failure leaves it failed. -/
def execComparatorTestDone (pair : Fin 16) (pass : Bool) (s : State) : Ans :=
  let c := evenCore pair
  let ph := (s.pair pair).phase
  if !(s.locked pair) || decide (s.crnState c ≠ 3) || decide (ph < 2) then .next s
  else if !pass then .next (s.testFailed c)
  else if ph = 2 then .next (s.testPassed c)
  else
    let s := (s.fset (Blk.crn pair.val) Reg.CRN_STATUS_TEST_OK 1).setUnitReady c true
    let s := (s.setCrnState c 1).modPair pair (fun x => { x with phase := 0 })
    let a := (s.core c).arch
    .next ((s.modPair pair (fun x => { x with ckpt := some a })).traceCheck c)

/-- CRN_TEST_DONE (R321): the logic self-test ends; for a locked pair that passes, the comparator test follows. -/
def execCrnTestDone (core : CoreId) (pass : Bool) (s : State) : Ans :=
  let c := s.leadOf core
  let p := pairOf c
  if s.crnState c ≠ 3 then .next s
  else if s.locked p then
    if (s.pair p).phase ≠ 1 then .next s
    else if pass then .next (s.modPair p (fun x => { x with phase := 2 }))
    else .next (s.testFailed c)
  else if pass then .next (s.testPassed c)
  else .next (s.testFailed c)

/-- The command of CRN_CMD.OP that a write carries (R321). -/
def State.crnCommand (s : State) (pair : Fin 16) (w : RegW) (op : Nat) : State :=
  s.regWriteIf (Blk.crn pair.val) 0x010 w (decide (woVal Reg.CRN_CMD_OP (regMask w) (regBits w) = op))

/-- CRN_OUT (R321). -/
def execCrnOut (pair : Fin 16) (w : RegW) (s : State) : Ans := .next (s.crnCommand pair w 1)

/-- CRN_TEST (R321). -/
def execCrnTest (pair : Fin 16) (w : RegW) (s : State) : Ans := .next (s.crnCommand pair w 2)

/-- CRN_RETURN (R321, R336). -/
def execCrnReturn (pair : Fin 16) (w : RegW) (s : State) : Ans := .next (s.crnCommand pair w 3)

/-- CRN_INJECT_FLIP (R319): FLIP set; the pair's next register write then mismatches. -/
def execCrnInjectFlip (pair : Fin 16) (w : RegW) (s : State) : Ans :=
  .next (s.regWriteIf (Blk.crn pair.val) 0x400 w (hits Reg.CRN_INJECT_FLIP (regMask w) (regBits w)))

end Sys2Proof.Machine
end

