-- ==== Sys2Proof/Machine/Syllable.lean ====
section
/-! DEFINITION. Syllables as 32-bit words (10_tarn_isa.md R182, R183, R189, R204-R207), for the bundles that debug injects
(19_debug_trace.md R359). Elsewhere a command names its syllable itself. -/

namespace Sys2Proof.Machine

/-! Fields of a syllable (R189). -/
def sylOp (w : BitVec 32) : Nat := bits w.toNat 30 24
def sylStop (w : BitVec 32) : Bool := bitAt w 31
def sylD (w : BitVec 32) : BitVec 6 := BitVec.ofNat 6 (bits w.toNat 23 18)
def sylA (w : BitVec 32) : BitVec 6 := BitVec.ofNat 6 (bits w.toNat 17 12)
def sylB (w : BitVec 32) : BitVec 6 := BitVec.ofNat 6 (bits w.toNat 11 6)
def sylFn (w : BitVec 32) : BitVec 6 := BitVec.ofNat 6 (bits w.toNat 5 0)
def sylImm (w : BitVec 32) : BitVec 12 := BitVec.ofNat 12 (bits w.toNat 11 0)

/-- OP 0x00 (R204). -/
def decodeI (y : Syl) (w : BitVec 32) : Option Instr :=
  let d := sylD w
  let a := sylA w
  let b := sylB w
  match (sylFn w).toNat with
  | 0 => some (.aluRRR y .add d a b)
  | 1 => some (.aluRRR y .sub d a b)
  | 2 => some (.aluRRR y .and d a b)
  | 3 => some (.aluRRR y .or d a b)
  | 4 => some (.aluRRR y .xor d a b)
  | 5 => some (.aluRRR y .andn d a b)
  | 6 => some (.shiftRRR y .shl d a b)
  | 7 => some (.shiftRRR y .shr d a b)
  | 8 => some (.shiftRRR y .sar d a b)
  | 9 => some (.shiftRRR y .rol d a b)
  | 10 => some (.shiftRRR y .ror d a b)
  | 11 => some (.minMax y .min d a b)
  | 12 => some (.minMax y .max d a b)
  | 13 => some (.minMax y .minu d a b)
  | 14 => some (.minMax y .maxu d a b)
  | 15 => some (.cmpRRR y .eq d a b)
  | 16 => some (.cmpRRR y .ne d a b)
  | 17 => some (.cmpRRR y .lt d a b)
  | 18 => some (.cmpRRR y .ltu d a b)
  | 19 => some (.cmpRRR y .le d a b)
  | 20 => some (.cmpRRR y .leu d a b)
  | 21 => some (.adds y d a b)
  | 22 => some (.subs y d a b)
  | 23 => some (.addc y d a b)
  | 24 => some (.subc y d a b)
  | 25 => some (.countBits y .clz d a b)
  | 26 => some (.countBits y .ctz d a b)
  | 27 => some (.countBits y .popc d a b)
  | 28 => some (.extend y .sextb d a b)
  | 29 => some (.extend y .sexth d a b)
  | 30 => some (.extend y .sextw d a b)
  | 31 => some (.extend y .zextw d a b)
  | 32 => some (.sel y d a b)
  | 33 => some (.bswap y d a b)
  | _ => none

/-- OP 0x40 (R195, R206). -/
def decodeMul (y : Syl) (w : BitVec 32) : Option Instr :=
  let d := sylD w
  let a := sylA w
  let b := sylB w
  match (sylFn w).toNat with
  | 0 => some (.mul y .mul d a b)
  | 1 => some (.mul y .mulhu d a b)
  | 2 => some (.mul y .mulhs d a b)
  | 3 => some (.mulWide y false d a b)
  | 4 => some (.mulWide y true d a b)
  | 5 => some (.divide y .div d a b)
  | 6 => some (.divide y .divu d a b)
  | 7 => some (.divide y .rem d a b)
  | 8 => some (.divide y .remu d a b)
  | _ => none

/-- OP 0x41 (R196): FN is the operation in steps of 4 and the accumulator. -/
def decodeAcc (y : Syl) (w : BitVec 32) : Option Instr :=
  let n : Fin 4 := Fin.ofNat 4 (sylFn w).toNat
  match (sylFn w).toNat / 4 with
  | 0 => some (.macu y n (sylA w) (sylB w))
  | 1 => some (.macs y n (sylA w) (sylB w))
  | 2 => some (.acclr y n)
  | 3 => some (.accshr y n)
  | 4 => some (.mvac y false (sylD w) n)
  | 5 => some (.mvac y true (sylD w) n)
  | 6 => some (.mvtac y n (sylA w) (sylB w))
  | _ => none

/-- OP 0x48 (binary64) and 0x49 (binary32) (R206). -/
def decodeFp (y : Syl) (dbl : Bool) (w : BitVec 32) : Option Instr :=
  let d := sylD w
  let a := sylA w
  let b := sylB w
  match (sylFn w).toNat with
  | 0 => some (.fArith y .fadd dbl d a b)
  | 1 => some (.fArith y .fsub dbl d a b)
  | 2 => some (.fArith y .fmul dbl d a b)
  | 3 => some (.fDivSqrt y false dbl d a b)
  | 4 => some (.fDivSqrt y true dbl d a b)
  | 5 => some (.fMinMax y false dbl d a b)
  | 6 => some (.fMinMax y true dbl d a b)
  | 7 => some (.fCmp y .eq dbl d a b)
  | 8 => some (.fCmp y .lt dbl d a b)
  | 9 => some (.fCmp y .le dbl d a b)
  | 10 => some (.fCvtInt y false dbl d a)
  | 11 => some (.fCvtInt y true dbl d a)
  | 12 => some (.fMov y false dbl d a)
  | 13 => some (.fMov y true dbl d a)
  | 14 => some (.fSign y false dbl d a)
  | 15 => some (.fSign y true dbl d a)
  | 16 => if dbl then some (.fCvtPrec y false d a) else none
  | 17 => if dbl then some (.fCvtPrec y true d a) else none
  | _ => none

/-- OP 0x4A and 0x4B (R206). -/
def decodeFma (y : Syl) (dbl : Bool) (w : BitVec 32) : Option Instr :=
  match (sylFn w).toNat with
  | 0 => some (.fFma y .fma dbl (sylD w) (sylA w) (sylB w))
  | 1 => some (.fFma y .fms dbl (sylD w) (sylA w) (sylB w))
  | 2 => some (.fFma y .fnma dbl (sylD w) (sylA w) (sylB w))
  | 3 => some (.fFma y .fnms dbl (sylD w) (sylA w) (sylB w))
  | _ => none

/-- CMO (R205, R241): the code in imm12[3:0], the rest of imm12 0. -/
def decodeCmo (y : Syl) (w : BitVec 32) : Option Instr :=
  match (sylImm w).toNat with
  | 0 => some (.cmoWbp y (sylD w) (sylA w))
  | 1 => some (.cmoWbm y (sylD w) (sylA w))
  | 2 => some (.cmoWbmi y (sylD w) (sylA w))
  | 3 => some (.cmoInvd y (sylD w) (sylA w))
  | 4 => some (.cmoZero y (sylD w) (sylA w))
  | _ => none

/-- The syllable that a word spells; none where no table of R204 to R207 lists it. MFCR and MTCR stand for every control
register. -/
def decodeSyl (y : Syl) (w : BitVec 32) : Option Instr :=
  let d := sylD w
  let a := sylA w
  let b := sylB w
  let i := sylImm w
  let t24 : BitVec 24 := BitVec.ofNat 24 w.toNat
  match sylOp w with
  | 0x00 => decodeI y w
  | 0x01 => some (.aluImm y .addi d a i)
  | 0x02 => some (.aluImm y .andi d a i)
  | 0x03 => some (.aluImm y .ori d a i)
  | 0x04 => some (.aluImm y .xori d a i)
  | 0x05 => some (.shiftImm y .shli d a i)
  | 0x06 => some (.shiftImm y .shri d a i)
  | 0x07 => some (.shiftImm y .sari d a i)
  | 0x08 => some (.cmpImm y .eqi d a i)
  | 0x09 => some (.cmpImm y .lti d a i)
  | 0x0A => some (.cmpImm y .ltui d a i)
  | 0x0B => some (.movi y d (BitVec.ofNat 18 w.toNat))
  | 0x20 => some (.load y .ldb d a i)
  | 0x21 => some (.load y .ldbu d a i)
  | 0x22 => some (.load y .ldh d a i)
  | 0x23 => some (.load y .ldhu d a i)
  | 0x24 => some (.load y .ldw d a i)
  | 0x25 => some (.load y .ldwu d a i)
  | 0x26 => some (.load y .ldd d a i)
  | 0x28 => some (.store y .stb d a i)
  | 0x29 => some (.store y .sth d a i)
  | 0x2A => some (.store y .stw d a i)
  | 0x2B => some (.store y .std d a i)
  | 0x2C => some (.loadF y true d a i)
  | 0x2D => some (.loadF y false d a i)
  | 0x2E => some (.storeF y true d a i)
  | 0x2F => some (.storeF y false d a i)
  | 0x30 => some (.amo y d a b (sylFn w))
  | 0x31 => some (.bcopy y d a b (sylFn w))
  | 0x32 => some (.bcmp y d a b (sylFn w))
  | 0x33 => some (.bfill y d a b (sylFn w))
  | 0x34 => decodeCmo y w
  | 0x35 => some (.prf y d a i)
  | 0x40 => decodeMul y w
  | 0x41 => decodeAcc y w
  | 0x42 => some (.macd y d a b (sylFn w))
  | 0x48 => decodeFp y true w
  | 0x49 => decodeFp y false w
  | 0x4A => decodeFma y true w
  | 0x4B => decodeFma y false w
  | 0x60 => some (.br y t24)
  | 0x61 => some (.call y t24)
  | 0x62 => some (.jmpr y a)
  | 0x63 => some (.callr y a)
  | 0x64 => some (.ret y)
  | 0x68 => some (.bcond y .eq d a i)
  | 0x69 => some (.bcond y .ne d a i)
  | 0x6A => some (.bcond y .lt d a i)
  | 0x6B => some (.bcond y .ge d a i)
  | 0x6C => some (.bcond y .ltu d a i)
  | 0x6D => some (.bcond y .geu d a i)
  | 0x70 => some (.loop y d i)
  | 0x71 => some (.loopi y (BitVec.ofNat 12 (bits w.toNat 23 12)) i)
  | 0x72 => some (.kcall y i)
  | 0x73 => some (.hcall y i)
  | 0x74 => some (.mcall y i)
  | 0x75 => some (.xret y)
  | 0x76 => some (.tbegin y d i)
  | 0x77 => some (.tcommit y)
  | 0x78 => some (.tabort y i)
  | 0x79 => some (.fence y)
  | 0x7A => some (.dsync y)
  | 0x7B => some (.isync y)
  | 0x7C => if i = 0 then some (.pclrOwn y) else if i = 1 then some (.pclrAll y) else none
  | 0x7D => some (.mfcr y d i)
  | 0x7E => some (.mtcr y d i)
  | _ => none

/-- The state of an answer; every syllable answers one. -/
def Ans.orStay (a : Ans) (s : State) : State :=
  match a with
  | .next t => t
  | _ => s

/-- A syllable run; other commands are none. -/
def State.runSyl (s : State) (i : Instr) : State :=
  match i with
  | .aluRRR y op d a b => Ans.orStay (execAluRRR y op d a b s) s
  | .shiftRRR y op d a b => Ans.orStay (execShiftRRR y op d a b s) s
  | .minMax y op d a b => Ans.orStay (execMinMax y op d a b s) s
  | .cmpRRR y op d a b => Ans.orStay (execCmpRRR y op d a b s) s
  | .adds y d a b => Ans.orStay (execAdds y d a b s) s
  | .addc y d a b => Ans.orStay (execAddc y d a b s) s
  | .subs y d a b => Ans.orStay (execSubs y d a b s) s
  | .subc y d a b => Ans.orStay (execSubc y d a b s) s
  | .countBits y op d a b => Ans.orStay (execCountBits y op d a b s) s
  | .extend y op d a b => Ans.orStay (execExtend y op d a b s) s
  | .sel y d a b => Ans.orStay (execSel y d a b s) s
  | .bswap y d a b => Ans.orStay (execBswap y d a b s) s
  | .aluImm y op d a imm => Ans.orStay (execAluImm y op d a imm s) s
  | .shiftImm y op d a imm => Ans.orStay (execShiftImm y op d a imm s) s
  | .cmpImm y op d a imm => Ans.orStay (execCmpImm y op d a imm s) s
  | .movi y d imm => Ans.orStay (execMovi y d imm s) s
  | .load y op d base imm => Ans.orStay (execLoad y op d base imm s) s
  | .store y op src base imm => Ans.orStay (execStore y op src base imm s) s
  | .loadF y dbl d base imm => Ans.orStay (execLoadF y dbl d base imm s) s
  | .storeF y dbl src base imm => Ans.orStay (execStoreF y dbl src base imm s) s
  | .amo y d a b fn => Ans.orStay (execAmo y d a b fn s) s
  | .bcopy y d a b fn => Ans.orStay (execBcopy y d a b fn s) s
  | .bcmp y d a b fn => Ans.orStay (execBcmp y d a b fn s) s
  | .bfill y d a b fn => Ans.orStay (execBfill y d a b fn s) s
  | .cmoWbp y d base => Ans.orStay (execCmoWbp y d base s) s
  | .cmoWbm y d base => Ans.orStay (execCmoWbm y d base s) s
  | .cmoWbmi y d base => Ans.orStay (execCmoWbmi y d base s) s
  | .cmoInvd y d base => Ans.orStay (execCmoInvd y d base s) s
  | .cmoZero y d base => Ans.orStay (execCmoZero y d base s) s
  | .prf y d base imm => Ans.orStay (execPrf y d base imm s) s
  | .mul y op d a b => Ans.orStay (execMul y op d a b s) s
  | .mulWide y signed d a b => Ans.orStay (execMulWide y signed d a b s) s
  | .divide y op d a b => Ans.orStay (execDivide y op d a b s) s
  | .macu y n a b => Ans.orStay (execMacu y n a b s) s
  | .macs y n a b => Ans.orStay (execMacs y n a b s) s
  | .acclr y n => Ans.orStay (execAcclr y n s) s
  | .accshr y n => Ans.orStay (execAccshr y n s) s
  | .mvac y high d n => Ans.orStay (execMvac y high d n s) s
  | .mvtac y n a b => Ans.orStay (execMvtac y n a b s) s
  | .macd y c a b fn => Ans.orStay (execMacd y c a b fn s) s
  | .fArith y op dbl d a b => Ans.orStay (execFArith y op dbl d a b s) s
  | .fDivSqrt y sqrt dbl d a b => Ans.orStay (execFDivSqrt y sqrt dbl d a b s) s
  | .fMinMax y max dbl d a b => Ans.orStay (execFMinMax y max dbl d a b s) s
  | .fCmp y op dbl d a b => Ans.orStay (execFCmp y op dbl d a b s) s
  | .fCvtInt y toInt dbl d a => Ans.orStay (execFCvtInt y toInt dbl d a s) s
  | .fMov y fromF dbl d a => Ans.orStay (execFMov y fromF dbl d a s) s
  | .fSign y abs dbl d a => Ans.orStay (execFSign y abs dbl d a s) s
  | .fCvtPrec y toDouble d a => Ans.orStay (execFCvtPrec y toDouble d a s) s
  | .fFma y op dbl d a b => Ans.orStay (execFFma y op dbl d a b s) s
  | .br y disp => Ans.orStay (execBr y disp s) s
  | .call y disp => Ans.orStay (execCall y disp s) s
  | .callr y a => Ans.orStay (execCallr y a s) s
  | .jmpr y a => Ans.orStay (execJmpr y a s) s
  | .ret y => Ans.orStay (execRet y s) s
  | .bcond y op a b disp => Ans.orStay (execBcond y op a b disp s) s
  | .loop y a disp => Ans.orStay (execLoop y a disp s) s
  | .loopi y count disp => Ans.orStay (execLoopi y count disp s) s
  | .kcall y imm => Ans.orStay (execKcall y imm s) s
  | .hcall y imm => Ans.orStay (execHcall y imm s) s
  | .mcall y imm => Ans.orStay (execMcall y imm s) s
  | .xret y => Ans.orStay (execXret y s) s
  | .tbegin y d disp => Ans.orStay (execTbegin y d disp s) s
  | .tcommit y => Ans.orStay (execTcommit y s) s
  | .tabort y imm => Ans.orStay (execTabort y imm s) s
  | .fence y => Ans.orStay (execFence y s) s
  | .dsync y => Ans.orStay (execDsync y s) s
  | .isync y => Ans.orStay (execIsync y s) s
  | .pclrOwn y => Ans.orStay (execPclrOwn y s) s
  | .pclrAll y => Ans.orStay (execPclrAll y s) s
  | .mfcr y d num => Ans.orStay (execMfcr y d num s) s
  | .mtcr y d num => Ans.orStay (execMtcr y d num s) s
  | .cachectlWrite y d => Ans.orStay (execCachectlWrite y d s) s
  | .tlbinvRegime y d => Ans.orStay (execTlbinvRegime y d s) s
  | .tlbinvAsid y d => Ans.orStay (execTlbinvAsid y d s) s
  | .tlbinvVaAsid y d => Ans.orStay (execTlbinvVaAsid y d s) s
  | .tlbinvVa y d => Ans.orStay (execTlbinvVa y d s) s
  | .tlbinvVmid y d => Ans.orStay (execTlbinvVmid y d s) s
  | .tlbinvIpa y d => Ans.orStay (execTlbinvIpa y d s) s
  | .tlbinvWorld y d => Ans.orStay (execTlbinvWorld y d s) s
  | .dtbNow y d => Ans.orStay (execDtbNow y d s) s
  | .sptClaim y d => Ans.orStay (execSptClaim y d s) s
  | _ => s

end Sys2Proof.Machine
end

