-- ==== Sys2Proof/Machine/SysRows.lean ====
section
/-! DEFINITION. The commands of reset, clocks, time base and adaptive voltage (18_bringup_power.md R334-R350,
20_electrical_package.md R370-R383). -/

namespace Sys2Proof.Machine

/-! Device resets (R334, R335). -/

/-- A device that stays in reset until its supply is back (R371). -/
def State.holdReset (s : State) : State :=
  let s := (s.fset (Blk.cis 0) Reg.CIS_STATUS_TRAIN 0).fset (Blk.cis 1) Reg.CIS_STATUS_TRAIN 0
  { s with stopped := true, boot := { s.boot with phase := .inReset } }

/-- A device reset; one that meets a device held in reset leaves it held (R371). -/
def State.resetBy (s : State) (cause : Nat) : State :=
  if s.boot.phase = .inReset then (s.deviceReset cause).holdReset else s.deviceReset cause

/-- POWER_ON (R334, R370, R372): the cistern contents are lost, THERMTRIP_N is released (R383), the time starts anew. -/
def execPowerOn (s : State) : Ans :=
  .next ({ s with mem := [], poison := [], resvClean := [], cis := State.reset.cis, pins := { s.pins with thermtripLow := false },
                  tb := { now := 0, ticks := 0, adjRem := 0, step := none, stepTick := 0, ppsTick := none },
                  jtag := Jtag.reset }.deviceReset 1)

/-- RESET_N (R334). -/
def execResetN (s : State) : Ans := .next (s.resetBy 2)

/-- PWR_RESET (R334): the key 0xD1E5 from an access whose M bit is 1. -/
def execPwrReset (w : RegW) (s : State) : Ans :=
  .next (s.regWriteIf Blk.PWR 0x070 w (decide (woVal Reg.PWR_RESET_KEY (regMask w) (regBits w) = 0xD1E5)))

/-- MESH_UE (R329, R334); with the islands stopped nothing can be detected (R371, R377). -/
def execMeshUe (s : State) : Ans := .next (if s.stopped then s else s.deviceReset 5)

/-- CONTROL_PARITY (R329, R334); with the islands stopped nothing can be detected (R371, R377). -/
def execControlParity (s : State) : Ans := .next (if s.stopped then s else s.deviceReset 6)

/-- SUPPLY (R371): the device resets and stays in reset. -/
def execSupply (s : State) : Ans := .next (s.deviceReset 9).holdReset

/-- SUPPLY_RESTORED (R371): the device leaves reset and boots from step 2. -/
def execSupplyRestored (s : State) : Ans :=
  if s.boot.phase = .inReset then
    let s := (s.fset (Blk.cis 0) Reg.CIS_STATUS_TRAIN 1).fset (Blk.cis 1) Reg.CIS_STATUS_TRAIN 1
    .next { s with stopped := false, boot := { s.boot with phase := .waitCistern } }
  else .next s

/-- REFCLK_SYS_STOP (R377): nothing further happens until RESET_N. -/
def execRefclkSysStop (s : State) : Ans := .next { s with stopped := true }

/-- THERMTRIP (R383): THERMTRIP_N goes low; nothing else happens. -/
def execThermtrip (s : State) : Ans := .next { s with pins := { s.pins with thermtripLow := true } }

/-! Registers of the PWR block. -/

/-- PWR_START (R336). -/
def execPwrStart (w : RegW) (s : State) : Ans := .next (s.regWrite Blk.PWR 0x010 w)

/-- PWR_BASINRST (R337). -/
def execPwrBasinrst (w : RegW) (s : State) : Ans := .next (s.regWrite Blk.PWR 0x048 w)

/-- KEY_REVOKE (R342). -/
def execKeyRevoke (w : RegW) (s : State) : Ans :=
  .next (s.regWriteIf Blk.PWR 0x058 w (decide (4 ≤ woVal Reg.PWR_KEYS_REVOKE (regMask w) (regBits w))))

/-- PWR_REQ (R343). -/
def execPwrReq (w : RegW) (s : State) : Ans := .next (s.regWrite Blk.PWR 0x018 w)

/-! Clocks (R346, R374). -/

/-- CLK_FREQ_WRITE (R346). -/
def execClkFreqWrite (pair : Fin 16) (w : RegW) (s : State) : Ans := .next (s.regWrite Blk.CLK (8 * pair.val) w)

/-- R374: the highest code up to the requested one whose target lies at or below VMAX; 4 where none does. -/
def State.runCode (s : State) (code : Nat) : Nat :=
  let vmax := s.fget Blk.PWR Reg.PWR_AVS_VMAX
  (((List.range (code + 1)).filter (fun c => decide (4 ≤ c) && decide (min (Config.codeTarget c) 880 ≤ vmax))).getLast?).getD 4

/-- CLK_FREQ_APPLY (R346): a lower code at once, a higher one when the rail has its target voltage; a pair that sleeps
takes it at its wake. -/
def execClkFreqApply (pair : Fin 16) (s : State) : Ans :=
  let f := Reg.CLK_FREQ_CUR.nth pair.val
  let cur := s.fget Blk.CLK f
  let code := s.runCode (s.fget Blk.CLK (Reg.CLK_FREQ_CODE.nth pair.val))
  let asleep := !(decide (s.pwr (2 * pair.val) = 0) || decide (s.pwr (2 * pair.val + 1) = 0))
  if asleep || s.stopped then .next s
  else if code ≤ cur ∨ min (Config.codeTarget code) 880 ≤ s.fget Blk.PWR Reg.PWR_AVS_VOUT then .next (s.fset Blk.CLK f code)
  else .next s

/-! Device time base (R348, R349). -/

/-- DTB_SET (R348). -/
def execDtbSet (w : RegW) (s : State) : Ans := .next (s.regWrite Blk.DTB 0x000 w)

/-- DTB_ADJ (R348). -/
def execDtbAdj (w : RegW) (s : State) : Ans := .next (s.regWrite Blk.DTB 0x010 w)

/-- PPS_EDGE (R349): an edge within 100 ms of the previous one is ignored. -/
def execPpsEdge (s : State) : Ans :=
  let near : Bool := match s.tb.ppsTick with
    | some t => decide (s.tb.ticks < t + 100000000)
    | none => false
  let s := { s with tb := { s.tb with ppsTick := some s.tb.ticks } }
  if near then .next (s.fset Blk.DTB Reg.DTB_EVENT_PPS_GLITCH 1)
  else
    let s := (s.fset Blk.DTB Reg.DTB_PPS0_NS s.ns).fset Blk.DTB Reg.DTB_PPS0_FRAC s.frac
    .next ((s.fset Blk.DTB Reg.DTB_PPS1_SECONDS s.sec).fset Blk.DTB Reg.DTB_EVENT_PPS 1)

/-! Adaptive voltage (R350). -/

/-- AVS fails: AVS_FAIL, no further command, every code above 16 lowered to 16. -/
def State.avsFail (s : State) : State :=
  let s := { (s.fset Blk.PWR Reg.PWR_EVENT_AVS_FAIL 1) with avs := { s.avs with failed := true } }
  foldN 16 (fun n t =>
    let t := if 16 < t.fget Blk.CLK (Reg.CLK_FREQ_CODE.nth n) then t.fset Blk.CLK (Reg.CLK_FREQ_CODE.nth n) 16 else t
    if 16 < t.fget Blk.CLK (Reg.CLK_FREQ_CUR.nth n) then t.fset Blk.CLK (Reg.CLK_FREQ_CUR.nth n) 16 else t) s

/-- A transaction without acknowledgement or with a PEC error: the third in a row fails AVS. -/
def State.avsMiss (s : State) : State :=
  let s := { s with avs := { s.avs with fails := s.avs.fails + 1 } }
  if 3 ≤ s.avs.fails then s.avsFail else s

/-- AVS_POLL (R350): VOUT read, the target recomputed as the higher of the clamped core target and the floor. -/
def execAvsPoll (reading : AvsReading) (s : State) : Ans :=
  if s.avs.failed then .next s
  else if !reading.ok then .next s.avsMiss
  else
    let s := { (s.fset Blk.PWR Reg.PWR_AVS_VOUT reading.vout.toNat) with avs := { s.avs with fails := 0 } }
    let core := min (max reading.coreTarget.toNat (s.fget Blk.PWR Reg.PWR_AVS_VMIN)) (s.fget Blk.PWR Reg.PWR_AVS_VMAX)
    let s := s.fset Blk.PWR Reg.PWR_AVS_TARGET (max core reading.floorTarget.toNat)
    .next (if reading.statusFault then s.avsFail else s)

/-- VOUT_COMMAND (R350): the rail is moved by at most 10 mV towards the target. -/
def execVoutCommand (acked : Bool) (s : State) : Ans :=
  let t := s.fget Blk.PWR Reg.PWR_AVS_TARGET
  let v := s.avs.cmd
  if s.avs.failed || decide (t = 0) || decide (t = v) then .next s
  else
    let s := s.bump Blk.PWR Ctr.PWR_AVS_CMDS
    if !acked then .next s.avsMiss
    else
      let v' := if v < t then min t (v + 10) else max t (v - 10)
      .next { s with avs := { s.avs with cmd := v', fails := 0, lastCmdTick := s.tb.ticks } }

/-- PMB_ALERT (R350). -/
def execPmbAlert (s : State) : Ans := .next s.avsFail

end Sys2Proof.Machine
end

