-- ==== Sys2Proof/Machine/DebugRows.lean ====
section
/-! DEFINITION. The commands of JTAG, debug and trace (19_debug_trace.md R352-R366). -/

namespace Sys2Proof.Machine

/-! The TAP (R356). It runs on its own clock, whatever the device does. -/

/-- An instruction shifted in; the instruction register captures 0b0000_0001. -/
def State.tap (s : State) (code : BitVec 8) (driven highz : Bool) : State :=
  { s with jtag := { s.jtag with ir := code, driven := driven, highz := highz },
           out := Out.jtag [true, false, false, false, false, false, false, false] :: s.out }

/-- What a data register shows as it is shifted out, first bit first. -/
def State.tdo (s : State) (l : List Bool) : State := { s with out := Out.jtag l :: s.out }

/-- The low-speed outputs, as the boundary scan register drives them. -/
def State.drive (s : State) (l : List Bool) : State := { s with out := Out.pins l :: s.out }

/-- A number's bits, least significant first. -/
def lsbBits (n v : Nat) : List Bool := (List.range n).map (fun i => v.testBit i)

/-- The 1-bit bypass register: it captures 0 and delays the bits shifted through it by one. -/
def bypassOut (tdi : List Bool) : List Bool := (false :: tdi).take tdi.length

/-- A boundary scan that captures `pins` and loads `load`. -/
def State.scan (s : State) (code : BitVec 8) (driven : Bool) (pins load : List Bool) : State :=
  let s := (s.tap code driven false).tdo pins
  { s with jtag := { s.jtag with bscan := load } }

/-- BYPASS (R356). -/
def execBypass (tdi : List Bool) (s : State) : Ans := .next ((s.tap 0xFF false false).tdo (bypassOut tdi))

/-- IDCODE (R356). -/
def execIdcode (s : State) : Ans := .next ((s.tap 0x01 false false).tdo (lsbBits 32 0x13216001))

/-- SAMPLE/PRELOAD (R356): `pins` are the levels of the low-speed pins. -/
def execSamplePreload (pins load : List Bool) (s : State) : Ans := .next (s.scan 0x02 false pins load)

/-- EXTEST (R356). -/
def execExtest (pins load : List Bool) (s : State) : Ans := .next ((s.scan 0x03 true pins load).drive load)

/-- CLAMP (R356): the boundary scan register holds the outputs. -/
def execClamp (tdi : List Bool) (s : State) : Ans := .next (((s.tap 0x04 true false).drive s.jtag.bscan).tdo (bypassOut tdi))

/-- HIGHZ (R356). -/
def execHighz (tdi : List Bool) (s : State) : Ans := .next ((s.tap 0x05 false true).tdo (bypassOut tdi))

/-- EXTEST_PULSE (R356): on the serial lanes; `pins` are what their test receivers captured. -/
def execExtestPulse (pins load : List Bool) (s : State) : Ans := .next ((s.scan 0x08 true pins load).drive load)

/-- EXTEST_TRAIN (R356). -/
def execExtestTrain (pins load : List Bool) (s : State) : Ans := .next ((s.scan 0x09 true pins load).drive load)

/-! Injected bundles (R359). -/

/-- The words of a bundle written to DBG_ITR: SYL0, and SYL1 where SYL0 does not end the bundle. -/
def itrWords (v : Word) : List (BitVec 32) :=
  let w0 : BitVec 32 := BitVec.ofNat 32 v.toNat
  let w1 : BitVec 32 := BitVec.ofNat 32 (v.toNat / 2 ^ 32)
  if sylStop w0 || decide (w1 = 0) then [w0] else [w0, w1]

/-- ERRCODE 1: another B-class syllable than MFCR and MTCR, or a bundle that is not ended. -/
def itrRefused (l : List (BitVec 32)) : Bool :=
  l.any (fun w => decide (0x60 ≤ sylOp w) && decide (sylOp w ≤ 0x7C)) || !((l.getLast?.map sylStop).getD false)

/-- The syllables of an injected bundle, EXT collected for the one after it (R190); a word that no table lists makes the
bundle illegal (R184). -/
def State.itrRun (s : State) (c : CoreId) : List (BitVec 24) → List (BitVec 32) → State
  | _, [] => s
  | ext, w :: rest =>
    if sylOp w = 0x7F ∧ !(sylStop w) ∧ ext.length < 2 then s.itrRun c (ext ++ [BitVec.ofNat 24 w.toNat]) rest
    else
      match decodeSyl ⟨c, sylStop w, ext⟩ w with
      | some i => (s.runSyl i).itrRun c [] rest
      | none => s.raise c (illegalExc (s.core c).arch.pc) (s.core c).arch.pc

/-- R359: the word latched in DBG_ITR runs on a halted core, which stays halted. A bundle that waits for a ridge answer, and
a block instruction that is not done, stay latched. -/
def State.itrDo (s : State) (c : CoreId) : State :=
  let k := s.core c
  match k.dbg.itr with
  | none => s
  | some v =>
    if !k.dbg.halted || s.stopped || k.undo.isSome then s
    else if itrRefused (itrWords v) then s.modDbg c (fun d => { d with itr := none, errcode := 1 })
    else
      let t := (s.modDbg c (fun d => { d with halted := false, inject := true, errcode := 0 })).itrRun c [] (itrWords v)
      let n := t.core c
      if !n.dbg.inject then t
      else
        let done := decide (n.bn ≠ k.bn) || decide (n.dbg.errcode ≠ 0) || t.frozen (.core c) || (k.txn.isSome && n.txn.isNone)
        (t.modCore c (fun x =>
          { x with bundle := Bundle.empty, waiting := none, dbg := { x.dbg with
              halted := true, inject := false, itr := if done then none else some v } })).authCheck

/-! Access through the TAP (R354, R356, R357). -/

/-- DAP (R357): the access is performed at Update-DR; a DBG_ITR write runs its bundle. What the register captured, data and
status of the access before, is shifted out. -/
def execDap (write trc : Bool) (offset : BitVec 12) (data : Word) (s : State) : Ans :=
  let a : Access := { src := .dap, world := .N, basin := 0, mbit := false }
  let b := if trc then Blk.TRC else Blk.DBG
  let off := offset.toNat
  let s := (s.tap 0x20 false false).tdo (lsbBits 64 s.jtag.dapData.toNat ++ lsbBits 2 s.jtag.dapStatus.toNat)
  if s.stopped || off % 8 ≠ 0 || !(s.devOk b off 8) then .next { s with jtag := { s.jtag with dapStatus := 2 } }
  else if write then
    let t := (s.busWrite a b off 8 data).itrDo (s.dbgCore .dap)
    .next { t with jtag := { t.jtag with dapStatus := 0 } }
  else
    let r := s.busRead a b off 8
    .next { r.1 with jtag := { r.1.jtag with dapStatus := 0, dapData := r.2 } }

/-- NONCE (R356). -/
def execNonce (s : State) : Ans :=
  .next ((s.tap 0x21 false false).tdo (lsbBits 64 (s.rget Blk.DBG 0x010).toNat ++ lsbBits 64 (s.rget Blk.DBG 0x018).toNat))

/-- R354: the result code of a certificate. -/
def State.certCheck (s : State) (b : List Byte) : Nat :=
  let nonce := leBytes 8 (s.rget Blk.DBG 0x010).toNat ++ leBytes 8 (s.rget Blk.DBG 0x018).toNat
  let form := part b 0 4 == [0x53, 0x4E, 0x42, 0x43] && leAt b 4 8 == s.sppId && leAt b 4 8 != 0 && leAt b 12 2 / 2 ^ 13 == 0
    && allZero (part b 15 1) && allZero (part b 32 32) && part b 16 16 == nonce
  if !form then 0x01
  else if !(sigPad b 64 && s.fuses.slotOk (beAt b 14 1) (keyDigest b 64)) then 0x06
  else
    match sigChecks b 64 with
    | some e => e.1
    | none => 0

/-- AUTH (R353, R354): the code of the last check is what the register captured; every check renews the nonce. -/
def execAuth (cert : List Byte) (s : State) : Ans :=
  let s := (s.tap 0x22 false false).tdo (lsbBits 8 s.jtag.authCode.toNat)
  if cert.length ≠ 7488 ∨ s.pwr 95 ≠ 0 then .next s
  else
    let r := s.certCheck cert
    let g := s.fget Blk.DBG Reg.DBG_AUTH_GRANT
    let t := (s.rput Blk.DBG 0x010 (Config.rng s.free)).rput Blk.DBG 0x018 (Config.rng (s.free + 1))
    let t := if r = 0 then t.fset Blk.DBG Reg.DBG_AUTH_GRANT (g ||| leAt cert 12 2) else t
    .next { t with free := s.free + 2, jtag := { t.jtag with authCode := BitVec.ofNat 8 r } }.authCheck

/-- LOAD (R340, R356): acted on only while the device waits for it. -/
def execJtagLoad (image : List Byte) (s : State) : Ans :=
  let s := s.tap 0x23 false false
  s.doIf (decide (s.boot.phase = .waitJtag)) (s.imageJtag image)

/-- A fuse word blown: no bit returns to 0, and a minimum only rises. -/
def Fuses.blow (f : Fuses) : FuseWord → Fuses
  | .digest k v => { f with digests := f.digests.set k.val (f.digests.get k ||| v) k.isLt, programmed := setBit f.programmed k.val true }
  | .deny b => { f with deny := f.deny ||| b }
  | .bitSvn n => { f with bitSvnMin := if f.bitSvnMin < n then n else f.bitSvnMin }
  | .bootSvn n => { f with bootSvnMin := if f.bootSvnMin < n then n else f.bootSvnMin }

/-- FUSE (R342, R356): with GRANT bit 12, or while no key slot is programmed. -/
def execFuse (word : FuseWord) (s : State) : Ans :=
  let s := s.tap 0x24 false false
  let ok := decide (s.fget Blk.DBG Reg.DBG_AUTH_GRANT / 2 ^ 12 = 1) || decide (s.fuses.programmed = 0)
  .next (if ok then { s with fuses := s.fuses.blow word }.authCheck else s)

/-- RESET (R334, R356). -/
def execJtagReset (s : State) : Ans := .next ((s.tap 0x25 false false).resetBy 8)

/-! Registers (R353, R358). -/

/-- DBG_AUTH_WRITE (R353, R355). -/
def execDbgAuthWrite (w : RegW) (s : State) : Ans := .next (s.regWrite Blk.DBG 0x008 w)

/-- A write of DBG_CTRL with an OP. -/
def State.dbgCtrlWrite (s : State) (op : Nat) (w : RegW) : State :=
  s.regWriteIf Blk.DBG 0x028 w (decide (woVal Reg.DBG_CTRL_OP (regMask w) (regBits w) = op))

/-- HALT (R358). -/
def execHalt (w : RegW) (s : State) : Ans := .next (s.dbgCtrlWrite 1 w)

/-- HALT_ACCEPT (R358, R360). -/
def execHaltAccept (core : CoreId) (s : State) : Ans := .next (s.haltTry (s.leadOf core))

/-- RESUME (R358). -/
def execResume (w : RegW) (s : State) : Ans := .next (s.dbgCtrlWrite 2 w)

/-- STEP (R358). -/
def execDebugStep (w : RegW) (s : State) : Ans := .next (s.dbgCtrlWrite 3 w)

/-- ITR_INJECT (R359, R360): a write of DBG_ITR and its bundle, or the bundle that a core's own store has latched. -/
def execItrInject (core : CoreId) (w : Option RegW) (s : State) : Ans :=
  let c := s.leadOf core
  match w with
  | none => .next (s.itrDo c)
  | some x => if s.dbgCore x.acc.src = c then .next ((s.regWrite Blk.DBG 0x038 x).itrDo c) else .next s

/-- A core that a match has found halts, at once where it may (R358). -/
def State.matchHalt (s : State) (c : CoreId) : State :=
  (s.modDbg c (fun d => { d with halt := true, watched := 0 })).haltTry c

/-- BREAKPOINT_HIT (R358): the next bundle stands at the address of a bundle-address entry. -/
def execBreakpointHit (core : CoreId) (s : State) : Ans :=
  let c := s.leadOf core
  .next (if s.issues c && s.breakHere c then s.matchHalt c else s)

/-- WATCHPOINT_HIT (R358): the bundle before made an access that an entry matches. -/
def execWatchpointHit (core : CoreId) (entry : Fin 6) (s : State) : Ans :=
  let c := s.leadOf core
  .next (if bitAt (s.core c).dbg.watched entry.val && s.coreRuns c then s.matchHalt c else s)

/-! Trace (R362, R363, R366). -/

/-- TRACE_OVERFLOW (R363): 1 KiB is free again. Atoms that came while packets were discarded are lost with them. -/
def execTraceOverflow (core : CoreId) (s : State) : Ans :=
  let u := s.trace.get core
  let t := s.modTrace core (fun u => { u with discarding := false, atoms := [] }.packet [0x70])
  let t := if t.tracing core then t.traceSync core else t
  .next (if u.discarding && decide (u.buf.length ≤ 3072) && decide (s.pwr 95 = 0) then
      (t.bump Blk.TRC Ctr.TRC_LOST).fset Blk.TRC Reg.TRC_STATUS_OVERFLOW 1
    else s)

/-- TRACE_SYNC_TIMER (R362). -/
def execTraceSyncTimer (core : CoreId) (s : State) : Ans := .next (if s.tracing core && !s.stopped then s.traceSync core else s)

/-- TRACE_DMA_WRITE (R366): the next frame of a core's bytes. -/
def execTraceDmaWrite (core : CoreId) (s : State) : Ans :=
  s.doIf (decide (s.fget Blk.TRC Reg.TRC_CTRL_OUT = 3) && decide (s.pwr 95 = 0)) (s.traceStep core)

end Sys2Proof.Machine
end

