-- ==== Sys2Proof/Machine/FrameRows.lean ====
section
/-! DEFINITION. The commands of frames in the cascade (05_cascade_fabric.md R87-R102, 06_jets_and_macsec.md R108, R119, R124,
R127, 07_weirs.md R137, R142, 02_ports_and_lanes.md R39). -/

namespace Sys2Proof.Machine

/-- INTAKE (R87, R88). -/
def execIntake (ch : ChanId) (s : State) : Ans := s.doIf true (s.takeIn ch)

/-- A tier acts on the frame that stands at it, if its function there is `fn`. -/
def State.tierDo (s : State) (t : TierId) (fn : Nat) (f : State → Frame → TierId → State) : State :=
  match s.frameAt t fn with
  | some x => f s x t
  | none => s

/-- P_TIER (R91, R92). -/
def execPTier (tier : TierId) (s : State) : Ans := s.doIf true (s.tierDo tier fnP State.parse)

/-- K_TIER (R90, R93, R94). -/
def execKTier (tier : TierId) (s : State) : Ans := s.doIf true (s.tierDo tier fnK State.classify)

/-- A_TIER (R118 to R122). -/
def execATier (tier : TierId) (s : State) : Ans := s.doIf true (s.tierDo tier fnA State.aTier)

/-- The A tier goes on with a frame whose SA has been fetched (R89); an SA that went while it was fetched is no SA. -/
def State.fetched (s : State) (f : Frame) (t : TierId) (victim : Nat) : State :=
  match s.saFor f with
  | .sa c a =>
    let s := s.cacheSa t a.uid victim
    if s.frames.any (fun g => g.ch == f.ch && g.loc == .cross) then
      s.modFrame f.id (fun g => { g with loc := .tier t, req := none })
    else s.saUse f t c a
  | .noSa => s.dropNosa f
  | .wrong => s.chDrop f Ctr.CAS_DROP_ACTION

/-- SA_FETCH_DONE (R89): the oldest fetch of the tier; `ue` an uncorrectable error in what it read (R328), `victim` the cached
SA that makes room. -/
def execSaFetchDone (tier : TierId) (ue : Bool) (victim : Nat) (s : State) : Ans :=
  match s.frames.find? (fun f => f.loc == .fetch tier) with
  | none => .next s
  | some f =>
    s.doIf true (if ue then (s.dropNosa f).devError 16 5 tier.val f.d.basin 0 0 else s.fetched f tier victim)

/-- JET_DISPATCH (R108): the crossbar's choice for the frame that waits longest in the channel; `soonest` names the jets that
can start it soonest, `bank` is where its output cells are looked for. -/
def execJetDispatch (ch : ChanId) (soonest : BitVec 10) (bank : Fin 4) (s : State) : Ans :=
  match s.frames.find? (fun f => f.ch == ch && f.loc == .cross) with
  | none => .next s
  | some f => s.doIf true (s.dispatchJet f soonest bank.val)

/-- JET_OUTPUT_CHECKED (R127): a parity error injected (JET_INJECT) is found here and fences the jet (R128). -/
def execJetOutputChecked (jet : JetId) (s : State) : Ans :=
  match s.jetFirst jet with
  | none => .next s
  | some f => s.doIf true (if f.flip then s.jetFault jet else s.jetChecked f jet)

/-- REJOIN (R102). -/
def execRejoin (ch : ChanId) (s : State) : Ans := s.doIf true (s.rejoin ch)

/-- V_TIER (R124). -/
def execVTier (tier : TierId) (s : State) : Ans := s.doIf true (s.tierDo tier fnV State.vTier)

/-- E_TIER (R95). -/
def execETier (tier : TierId) (s : State) : Ans := s.doIf true (s.tierDo tier fnE State.editAt)

/-- M_TIER (R96, R97). -/
def execMTier (tier : TierId) (s : State) : Ans := s.doIf true (s.tierDo tier fnM State.mTier)

/-- DEEP_WRITE (R98, R142): the request that the mover's round robin gives, if it is a write. -/
def execDeepWrite (s : State) : Ans :=
  let r := s.moverPick
  match r.1 with
  | some q =>
    match s.frame q.1.frame with
    | some f => s.doIf (!q.1.read) ((s.moverServe q.1 q.2 r.2).deepWrite f)
    | none => s.doIf true (s.moverServe q.1 q.2 r.2)
  | none => .next s

/-- DEEP_STAGE_READ (R98, R142): the request that the mover's round robin gives, if it is a read; its cells are looked for from
bank `bank` on. -/
def execDeepStageRead (bank : Fin 4) (s : State) : Ans :=
  let r := s.moverPick
  match r.1 with
  | some q =>
    match s.frame q.1.frame with
    | some f =>
      match s.pickCells (cellsFor f.obytes.length) bank.val with
      | some l => s.doIf q.1.read ((s.moverServe q.1 q.2 r.2).deepStage f l)
      | none => .next s
    | none => s.doIf true (s.moverServe q.1 q.2 r.2)
  | none => .next s

/-- INJECT_DESC (R97). -/
def execInjectDesc (basin : BasinId) (bank : Fin 4) (s : State) : Ans := s.doIf true (s.inject basin bank.val)

/-- WEIR_PICK (R136, R137); `room` says which priorities the carrier of a borrowed MAC has room for (R177). -/
def execWeirPick (mac : PortId) (room : BitVec 8) (s : State) : Ans := s.doIf true (s.weirPick mac room)

/-- The frame that a management DMA has on the wire is complete (R39, R47, R50). -/
def State.mgTxEnd (s : State) (i : Fin 2) (age : Nat) : State :=
  let m := mgMac i
  match (s.mac m).mgTx with
  | none => s
  | some f =>
    let b := Blk.mac m.val
    let on := s.flag b Reg.MAC_PTP_EN
    let ts := to96 (adjTs (s.tb.now - age) (s.mf m Reg.MAC_TS_ADJ_TX_ADJ))
    let t := s.modMac m (fun k => { k with mgTx := none })
    let t := { t with out := Out.frame m f.bytes false :: t.out }
    let t := (t.mbump m Ctr.MAC_TX_FRAMES).addCtr b Ctr.MAC_TX_BYTES f.bytes.length
    let t := if on && t.flag b Reg.MAC_PTP_TWOSTEP && f.tsReq then t.txtsPut m f.bytes ts else t
    t.mgTxBack i false f.tsReq (if on then ts else 0)

/-- TX_FRAME_END (R39, R46 to R48): the frame that the MAC has on its wire; `age` is the time since its timestamp point. -/
def execTxFrameEnd (mac : MacId) (age : Nat) (s : State) : Ans :=
  s.doIf true (if mac.val < 32 then s.txEnd mac age else s.mgTxEnd (Fin.ofNat 2 (mac.val - 32)) age)

end Sys2Proof.Machine
end

