-- ==== Sys2Proof/Machine/JetRows.lean ====
section
/-! DEFINITION. The commands of the jets (06_jets_and_macsec.md R127-R130). -/

namespace Sys2Proof.Machine

/-- JET_FAULT (R128): a check of R127 fails on a jet in traffic. -/
def execJetFault (jet : JetId) (s : State) : Ans := s.doIf (decide (s.jst jet = 1 ∨ s.jst jet = 4)) (s.jetFault jet)

/-- JET_ROTATION (R129). -/
def execJetRotation (s : State) : Ans := s.doIf true s.rotateJet

/-- JET_DRAIN_END (R129, R130). -/
def execJetDrainEnd (jet : JetId) (s : State) : Ans := s.doIf true (s.jetDrained jet)

/-- JET_SELF_TEST_DONE (R129, R130). -/
def execJetSelfTestDone (jet : JetId) (pass : Bool) (s : State) : Ans := s.doIf true (s.jetTested jet pass)

/-- JET_TEST (R130): a write of JET_CMD with OP 1. -/
def execJetTest (jet : JetId) (w : RegW) (s : State) : Ans :=
  .next (s.regWriteIf (Blk.jet jet.val) Reg.JET_CMD_OP.off w (decide (woVal Reg.JET_CMD_OP (regMask w) (regBits w) = 1)))

/-- JET_FENCE (R130): a write of JET_CMD with OP 2. -/
def execJetFence (jet : JetId) (w : RegW) (s : State) : Ans :=
  .next (s.regWriteIf (Blk.jet jet.val) Reg.JET_CMD_OP.off w (decide (woVal Reg.JET_CMD_OP (regMask w) (regBits w) = 2)))

/-- JET_INJECT_PARITY (R128): a write of JET_INJECT with PARITY = 1. -/
def execJetInjectParity (jet : JetId) (w : RegW) (s : State) : Ans :=
  .next (s.regWriteIf (Blk.jet jet.val) Reg.JET_INJECT_PARITY.off w (hits Reg.JET_INJECT_PARITY (regMask w) (regBits w)))

end Sys2Proof.Machine
end

