-- ==== Sys2Proof/Machine/MemRows.lean ====
section
/-! DEFINITION. The commands of the memory system: requests, snoops and orders at the home nodes
(13_coherence_transactions.md R248-R262), walks and conversions (12_memory_system.md R244, R245), the cistern's
controllers (14_cistern.md R265-R275) and the fencing of Pool slices (17_fault_tolerance.md R326). -/

namespace Sys2Proof.Machine

/-- Whether a core's request for a line can reach a home node: the core runs with its L2 on and the line is served. -/
def State.mayRequest (s : State) (c : CoreId) (line : Nat) : Bool :=
  s.coreRuns c && decide (s.leadOf c = c) && (s.core c).l2En && s.served (line * 64)
    && (decide (line * 64 < cisTop) || (inSram line && decide (line * 64 < sramBase + 0x4000000)))

/-- RD_S (R251): a load or fetch miss; a fetched line whose record holds X goes into the L1I as well (R294). -/
def execRdS (core : CoreId) (line : BitVec 40) (fetch : Bool) (s : State) : Ans :=
  let n := line.toNat
  if !(s.mayRequest core n) then .next s
  else
    let r := s.fillLine core n (if fetch then .fetch else .read)
    match r.2 with
    | .error (.abort k) => .next (r.1.txAbort core k 0)
    | .error _ => .next r.1
    | .ok _ =>
      if fetch && (r.1.core core).l1iEn then .next (r.1.l1iAlloc core n (BitVec.ofNat 64 (n * 64))) else .next r.1

/-- The guard's answer for a line a core wants to write, and the request served (R251, R294). -/
def State.ownLine (s : State) (c : CoreId) (line : Nat) : State :=
  match s.guard (coreAcc c (s.core c).arch) (line * 64) 64 .write with
  | .refuse e => s.freezeCore c 1 ⟨coreAcc c (s.core c).arch, line * 64, .write, e⟩
  | .ok r w x => (s.serveU c line ⟨r, w, x⟩ State.forceCommit).1

/-- RD_U (R251): a store miss; afterwards the core alone holds the line, in M. -/
def execRdU (core : CoreId) (line : BitVec 40) (s : State) : Ans :=
  if s.mayRequest core line.toNat && (s.l2Find core line.toNat).isNone then .next (s.ownLine core line.toNat) else .next s

/-- UPGRADE (R251): a line held in S becomes M; a core that has lost it asks with RD_U. -/
def execUpgrade (core : CoreId) (line : BitVec 40) (s : State) : Ans :=
  match s.l2Find core line.toNat with
  | some l => if s.mayRequest core line.toNat && decide (l.st = .S) then .next (s.ownLine core line.toNat) else .next s
  | none => if s.mayRequest core line.toNat then .next (s.ownLine core line.toNat) else .next s

/-- The cairn commit that a held line asks for before it leaves the L2 (R317). -/
def State.commitLine (s : State) (c : CoreId) (l : L2Line) : State :=
  if l.held then (State.forceCommit (pairOf c) s).bump (Blk.crn (pairOf c).val) Ctr.CRN_FORCED else s

/-- A WB or EVICT of a core that the home node does not record for the line (R251, R254). -/
def State.staleAt (s : State) (c : CoreId) (line : Nat) : State :=
  if (s.dirFind (s.homeOf line) line).any (fun e => e.records c) then s else s.bump (Blk.pol (s.homeOf line).val) Ctr.POL_STALE

/-- WB (R251): a line in M without a transaction's mark leaves the L2 for its home slice; one the core does not hold any
more is stale, and nothing is written (R254). -/
def execWb (core : CoreId) (line : BitVec 40) (s : State) : Ans :=
  match s.l2Find core line.toNat with
  | some l => if decide (l.st = .M) && !l.rmark && !l.wmark then .next ((s.commitLine core l).l2Leave core l) else .next s
  | none => .next (s.staleAt core line.toNat)

/-- WBK (R251): the data go to the home slice while the core keeps the line in M. -/
def execWbk (core : CoreId) (line : BitVec 40) (s : State) : Ans :=
  match s.l2Find core line.toNat with
  | some l =>
    if decide (l.st = .M) && !l.wmark && !l.held then .next (s.poolWrite (s.homeOf l.line) l.line l.data l.poison) else .next s
  | none => .next s

/-- EVICT (R251): a line in E or S leaves and the directory forgets the core. -/
def execEvict (core : CoreId) (line : BitVec 40) (s : State) : Ans :=
  match s.l2Find core line.toNat with
  | some l => if decide (l.st ≠ .M) && !l.rmark && !l.wmark then .next (s.l2Leave core l) else .next s
  | none => .next (s.staleAt core line.toNat)

/-- RD_NC (R233): the low 8 bytes of the line go to `rdata`. -/
def execRdNc (line : BitVec 40) (s : State) : Ans :=
  if !(s.served (line.toNat * 64)) || decide (sramBase + 0x4000000 ≤ line.toNat * 64) then .next s
  else
    let r := s.ncRead line.toNat
    .next { r.1 with rdata := r.2.1.setWidth 64 }

/-- WR_NC (R233). -/
def execWrNc (line : BitVec 40) (mask : BitVec 64) (data : LineData) (s : State) : Ans :=
  if !(s.served (line.toNat * 64)) || decide (sramBase + 0x4000000 ≤ line.toNat * 64) then .next s
  else .next (s.ncWrite line.toNat mask data)

/-- AMO_AT_HOME (R255, R256): the old value goes to `rdata`. -/
def execAmoAtHome (nc : Bool) (addr : BitVec 46) (fn : BitVec 6) (opnd cmp : Word) (s : State) : Ans :=
  let pa := addr.toNat
  if !(amoLegal fn) || decide (pa % amoSize fn ≠ 0) || !(s.served pa) || decide (sramBase + 0x4000000 ≤ pa) then .next s
  else
    let r := s.amoHome nc pa fn opnd cmp
    .next { r.1 with rdata := if r.2.2 then 0 else r.2.1 }

/-- SNP_SHARE (R251): the copy moves to S and dirty data go to the Pool. -/
def execSnpShare (core : CoreId) (line : BitVec 40) (s : State) : Ans :=
  let n := line.toNat
  match s.l2Find core n with
  | none => .next s
  | some l =>
    let h := s.homeOf n
    let r := (s.commitLine core l).snoopShare core n
    let s := match r.2 with
      | some d => r.1.poolWrite h n d.1 d.2
      | none => r.1
    .next (if (s.l2Find core n).isSome then s.dirMod h n (fun e => { e with em := false, sharers := setBit e.sharers core.val true })
           else s)

/-- SNP_INV (R258): the copy goes, a transaction that marks it aborts, dirty data go to the Pool. -/
def execSnpInv (core : CoreId) (line : BitVec 40) (s : State) : Ans :=
  let n := line.toNat
  match s.l2Find core n with
  | none => .next s
  | some l =>
    let h := s.homeOf n
    let r := (s.commitLine core l).snoopInv core n
    let s := match r.2 with
      | some d => r.1.poolWrite h n d.1 d.2
      | none => r.1
    .next (s.dirDrop h n core)

/-- UNPIN (R262): a slice drops the pins of a transaction sequence that is over. -/
def execUnpin (slice : SliceId) (core : CoreId) (seq : BitVec 4) (s : State) : Ans :=
  if (s.core core).txn.isSome && decide ((s.core core).txSeq = seq) then .next s
  else
    .next (s.modSlice slice (fun x => { x with dir := (x.dir.map (fun e =>
      { e with pins := e.pins.filter (fun p => !(decide (p.core = core) && decide (p.seq = seq))) })).filter DirEnt.live }))

/-- ABORT_ORDER (R262): with all 16 ways of a directory set pinned, the youngest transaction among them and the
requester's aborts with DIR_PRESSURE. -/
def execAbortOrder (slice : SliceId) (set : BitVec 11) (requester : Option CoreId) (s : State) : Ans :=
  let es := (s.slice slice).dir.filter (fun e => e.line % 2048 == set.toNat)
  let req : List (CoreId × BitVec 32) := match requester with
    | some c => (match (s.core c).txn with
      | some t => [(c, t.stamp)]
      | none => [])
    | none => []
  if decide (es.length < 16) || es.any (fun e => e.pins.isEmpty) then .next s
  else
    match youngest ((es.map (·.pins)).flatten.map (fun p => (p.core, p.stamp)) ++ req) with
    | some y => .next ((s.bump (Blk.pol slice.val) Ctr.POL_DIR_PRESSURE).txAbort y 4 0)
    | none => .next s

/-- A write of TRN_L2OP that carries an OP (R245). -/
def State.l2opCommand (s : State) (core : CoreId) (w : RegW) (op : Nat) : State :=
  s.regWriteIf (Blk.trn core.val) 0x080 w (decide (woVal Reg.TRN_L2OP_OP (regMask w) (regBits w) = op))

/-- L2OP_CLEAN (R245). -/
def execL2opClean (core : CoreId) (w : RegW) (s : State) : Ans := .next (s.l2opCommand core w 1)

/-- L2OP_CLEAN_INVALIDATE (R245). -/
def execL2opCleanInvalidate (core : CoreId) (w : RegW) (s : State) : Ans := .next (s.l2opCommand core w 2)

/-- L2_WALK_DONE (R245). -/
def execL2WalkDone (core : CoreId) (s : State) : Ans := .next (s.fset (Blk.trn core.val) Reg.TRN_L2OP_BUSY 0)

/-- POL_SRAM_WRITE (R244). -/
def execPolSramWrite (slice : SliceId) (w : RegW) (s : State) : Ans := .next (s.regWrite (Blk.pol slice.val) 0x000 w)

/-- SRAM_CONVERSION_DONE (R244). -/
def execSramConversionDone (slice : SliceId) (s : State) : Ans := .next (s.fset (Blk.pol slice.val) Reg.POL_SRAM_BUSY 0)

/-- POOL_SLICE_UE (R326). -/
def execPoolSliceUe (slice : SliceId) (s : State) : Ans := .next (s.fenceStart slice)

/-- POOL_FENCE_CMD (R326). -/
def execPoolFenceCmd (slice : SliceId) (w : RegW) (s : State) : Ans :=
  .next (s.regWriteIf (Blk.pol slice.val) 0x018 w (hits Reg.POL_FENCE_FENCE (regMask w) (regBits w)))

/-- POOL_FENCE_DONE (R326). -/
def execPoolFenceDone (slice : SliceId) (s : State) : Ans :=
  if s.fget (Blk.pol slice.val) Reg.POL_FENCE_STATE = 1 then .next (s.fenceEnd slice) else .next s

/-! The cistern's controllers. -/

/-- CIS_TRAIN_DONE (R266): the pseudo-channels of `failed` are mapped out; the stack is ready if any is left. -/
def execCisTrainDone (stack : Fin 2) (failed : BitVec 32) (s : State) : Ans :=
  let b := Blk.cis stack.val
  if s.fget b Reg.CIS_STATUS_TRAIN ≠ 1 then .next s
  else
    let s := foldL (bitList failed) (fun j t => t.mapOut (32 * stack.val + j)) s
    let n := s.inService stack.val
    let s := (s.fset b Reg.CIS_STATUS_IN_SERVICE n).fset b Reg.CIS_STATUS_TRAIN (if n = 0 then 3 else 2)
    .next (if n = 0 then s else s.setReady (Rdy.cis stack.val) true)

/-- R266: the stack of a location has reported ready; before that an access waits. -/
def State.stackReady (s : State) (loc : Nat) : Bool := s.ready (Rdy.cis (pcOfLoc loc / 32))

/-- CIS_READ (R268): the outcome by the number of errors in the 80-bit word; the word, or 0 for a poisoned one, goes to
`rdata`. Four errors or more are detected as three are: DESIGN CHOICE, notes/assumptions/28.md. -/
def execCisRead (addr : BitVec 35) (errors : Nat) (s : State) : Ans :=
  match s.resolve addr.toNat with
  | .at_ loc =>
    if !(s.stackReady loc) then .next s
    else if s.wordPoison loc then .next { s with rdata := 0 }
    else if errors = 0 then .next { s with rdata := s.locWord loc }
    else if errors ≤ 2 then .next { (s.countCe (pcOfLoc loc)) with rdata := s.locWord loc }
    else .next { (s.countUe (pcOfLoc loc) addr.toNat) with rdata := 0 }
  | _ => .next s

/-- CIS_WRITE (R269, R274): a full word stores a clean codeword; a partial one merges, or stores poison where the word
read is poisoned or uncorrectable; a lost place discards the write. -/
def execCisWrite (addr : BitVec 35) (mask : BitVec 8) (data : Word) (errors : Nat) (s : State) : Ans :=
  match s.resolve addr.toNat with
  | .at_ loc =>
    if mask = 0 ∨ s.stackReady loc = false then .next s
    else if mask = 0xFF then .next ((s.setLocWord loc data).setWordPoison loc false)
    else if s.wordPoison loc ∨ 3 ≤ errors then .next ((s.setWordPoison loc true).countUe (pcOfLoc loc) addr.toNat)
    else
      let t := if errors = 0 then s else s.countCe (pcOfLoc loc)
      .next (foldL (bitList mask) (fun i u => u.setLocByte (loc / 8 * 8 + i) (BitVec.ofNat 8 (data.toNat >>> (8 * i)))) t)
  | .lost =>
    let s := s.bump Blk.CIS0 Ctr.CIS0_LOST_WB
    .next (s.devError 15 8 (pcOf addr.toNat) 0 addr.toNat 0)
  | .reserved => .next s

/-- SCRUB_READ (R271): corrections count, an uncorrectable word is rewritten as poison, counted and recorded; the last
line of all advances SCRUB_PASSES. -/
def execScrubRead (addr : BitVec 35) (errors : Nat) (lastOfPass : Bool) (s : State) : Ans :=
  let pc := pcOf addr.toNat
  let loc := locOf pc (pageOf addr.toNat) (bits addr.toNat 11 0)
  if s.fget Blk.CIS0 Reg.CIS_SCRUB_PERIOD_H = 0 ∨ s.mapped pc = true ∨ s.stackReady loc = false then .next s
  else
    let t := if s.wordPoison loc || decide (errors = 0) then s
      else if errors ≤ 2 then s.countCe pc
      else (s.setWordPoison loc true).countUe pc addr.toNat
    .next (if lastOfPass then t.bump Blk.CIS0 Ctr.CIS0_SCRUB_PASSES else t)

/-- MAPOUT (R274). -/
def execMapout (stack : Fin 2) (w : RegW) (s : State) : Ans :=
  .next (s.regWriteIf (Blk.cis stack.val) 0x020 w (decide (woVal Reg.CIS_CMD_OP (regMask w) (regBits w) = 1)))

/-- RESERVE_SET (R273): a write that sets RESERVE. -/
def execReserveSet (w : RegW) (s : State) : Ans :=
  .next (s.regWriteIf Blk.CIS0 0x000 w (!s.reserve && hits Reg.CIS_CTRL_RESERVE (regMask w) (regBits w)))

/-- RESERVE_FILL_DONE (R273). -/
def execReserveFillDone (s : State) : Ans := .next (s.fset Blk.CIS0 Reg.CIS_CAP_FILLING 0)

end Sys2Proof.Machine
end

