-- ==== Sys2Proof/Machine/PowerRows.lean ====
section
/-! DEFINITION. The commands that bring changes of power to an end, wakes, steps of the time, a lost reference clock,
thaws and readiness (18_bringup_power.md R343-R348, 20_electrical_package.md R377, 15_worlds_basins.md R297,
16_spout_interrupts.md R310, 01_device_organisation.md R27). -/

namespace Sys2Proof.Machine

/-- REG_WRITE (R8): a write by any master of any register, by its address. -/
def execRegWrite (acc : Access) (addr : BitVec 46) (size : Nat) (val : Word) (s : State) : Ans :=
  let a := addr.toNat
  if regBase ≤ a ∧ a < regBase + 0x400000 then .next (s.busWrite acc ((a - regBase) / 0x1000) (a % 0x1000) size val) else .next s

/-! Power domains (R343-R345). -/

/-- R344: what a core does on its way to sleep: DSYNC, a cairn commit of a locked pair (R316), SLEEP and the drain of its
trace, for DORMANT the save. -/
def State.coreSleep (s : State) (c : CoreId) (st : Nat) : State :=
  let s := if s.locked (pairOf c) && decide (s.crnState c = 1) then s.boundaryNow (pairOf c) true else s
  let s := (s.drainAll c).1.modCore c Core.landLongs
  let s := s.traceSleepDrain c st
  if st = 2 then s.dormantEnter c else s

/-- R343: what a domain outside the cores loses when it goes off. -/
def State.domainOff (s : State) (pd : Nat) : State :=
  if h : 64 ≤ pd ∧ pd < 72 then s.chSet ⟨pd - 64, by omega⟩ 0
  else if 86 ≤ pd ∧ pd < 90 then foldN 8 (fun i t => t.laneOff (8 * (pd - 86) + i)) s
  else if pd = 95 then
    let n := s.free
    let s := ((s.dbgReset.blockReset Blk.TRC).blockReset Blk.DBG).setReady Rdy.trace false
    ((s.rput Blk.DBG 0x010 (Config.rng n)).rput Blk.DBG 0x018 (Config.rng (n + 1))).draw 2
  else s

/-- A MAC of a group that has been off: registers at their reset values; its negotiation restarts. The key slots and the
session belong to the SPP engine. -/
def State.macCold (s : State) (m : MacId) : State :=
  let s := (s.blockReset (Blk.mac m.val)).modMac m (fun k => { Mac.reset with keys := k.keys })
  s.macStart m

/-- R343, last column: a domain that was off is back in RUN. -/
def State.domainBack (s : State) (pd : Nat) : State :=
  if h : 72 ≤ pd ∧ pd < 82 then s.setJst ⟨pd - 72, by omega⟩ 5
  else if 86 ≤ pd ∧ pd < 90 then
    let s := foldN 8 (fun i t => t.blockReset (Blk.prt (8 * (pd - 86) + i))) s
    foldN 8 (fun i t => t.macCold (Fin.ofNat 34 (8 * (pd - 86) + i))) s
  else if pd = 90 then (s.macCold 32).macCold 33
  else if pd = 91 then foldL (List.finRange 4) (fun l t => t.rlStart l) s
  else if pd = 95 then s.traceCheckAll
  else s

/-- The change of a domain under way, with its target; `was` tells that it was off. -/
def State.domainDone (s : State) (pd st : Nat) : State :=
  let units := s.pdUnit pd
  if h : pd < 32 then
    let c : CoreId := ⟨pd, h⟩
    if st = 0 then
      let s := foldL units (fun d t => t.setPwr d 0) s
      if (s.core c).deep then s.dormantExit c else s.traceCheck c
    else
      let st := if st = 2 ∧ !(s.flag Blk.PWR Reg.PWR_SAVE_VALID) then 1 else st
      let s := foldL units (fun d t => t.setPwr d 0) s
      let s := s.coreSleep c st
      foldL units (fun d t => t.setPwr d st) s
  else
    let off := bitAt s.offPds pd
    let s := { (s.setPwr pd st) with offPds := setBit s.offPds pd (decide (st = 2) || (off && decide (st = 1))) }
    if st = 2 then s.domainOff pd else if (off ∨ pd = 95) ∧ st = 0 then s.domainBack pd else s

/-- The request that waited for the end of a change is acted on (R343). -/
def State.pwrNext (s : State) (p : Nat) : State :=
  match s.pwrWait.find? (fun x => x.1 == p) with
  | none => s
  | some x => { s with pwrWait := s.pwrWait.erase x }.pwrAct none p x.2

/-- DOMAIN_CHANGE_DONE (R343, R344): a core's entry waits for its ridge accesses; then a request that waited is acted on. -/
def execDomainChangeDone (pd : Fin 96) (s : State) : Ans :=
  let p := (s.pdUnit pd.val).headD pd.val
  match s.pwrWait.find? (fun e => e.1 == p) with
  | none => .next s
  | some e =>
    let s := s.goOnAll
    let waits : Bool := if h : p < 32 then decide (e.2 ≠ 0) && (s.ridgeOpen ⟨p, h⟩ || (s.core ⟨p, h⟩).waiting.isSome) else false
    if s.pwr p ≠ 3 ∨ waits then .next s
    else
      .next (({ s with pwrWait := s.pwrWait.erase e }.domainDone p e.2).pwrNext p)

/-- R310: a pending source with EN = 1 whose target is this core. -/
def State.wakeSource (s : State) (c : CoreId) : Bool :=
  s.srcNumbers.any (fun n => s.srcPending c n && (s.anySrc c n).en && decide (s.srcTarget c n = c)
    && (decide (n < 32) || s.ready Rdy.spoutHub))

/-- CORE_WAKE (R310, R344, R345): on a source, or at the end of a change to RUN that another master asked for. -/
def execCoreWake (core : CoreId) (s : State) : Ans :=
  let c := s.leadOf core
  let asked := decide (s.pwr c.val = 3) && decide ((s.pwrWait.find? (fun e => e.1 == c.val)).map (·.2) = some 0)
  if asked then
    .next (({ s with pwrWait := s.pwrWait.erase (c.val, 0) }.domainDone c.val 0).pwrNext c.val)
  else if decide (s.pwr c.val = 1 ∨ s.pwr c.val = 2) && s.wakeSource c then
    .next ((s.bump (Blk.spt c.val) Ctr.SPT_WAKES).domainDone c.val 0)
  else .next s

/-! Time base and clocks. -/

/-- DTB_STEP_APPLY (R348): the scheduled step is applied, 1 µs after the write. -/
def execDtbStepApply (s : State) : Ans :=
  match s.tb.step with
  | none => .next s
  | some t =>
    .next (({ s with tb := { s.tb with now := t, ticks := max s.tb.ticks s.tb.stepTick, step := none } }.fset
      Blk.DTB Reg.DTB_EVENT_STEP_DONE 1).bump Blk.DTB Ctr.DTB_STEPS)

/-- REFCLK_SRD_STOP (R377): every lane loses lock; MACs and ridge links leave service under R37 and R168. -/
def execRefclkSrdStop (s : State) : Ans :=
  let s := foldN 32 (fun k t => t.laneOff k) s
  let s := foldL (List.finRange 34) (fun m t => if t.macHeld m then t else t.macRestart m) s
  .next (foldL (List.finRange 4) (fun l t => t.rlStart l) s).goOnAll

/-! Thaws (R297). -/

/-- A GRD_THAW command with an OP. -/
def State.thawCmd (s : State) (g : Fin 113) (w : RegW) (op : Nat) : State :=
  s.regWriteIf (Blk.grd g.val) 0x018 w (decide (woVal Reg.GRD_THAW_OP (regMask w) (regBits w) = op))

/-- THAW_RESUME (R296, R297). -/
def execThawResume (guard : Fin 113) (w : RegW) (s : State) : Ans := .next (s.thawCmd guard w 1)

/-- THAW_RESET (R296, R297). -/
def execThawReset (guard : Fin 113) (w : RegW) (s : State) : Ans := .next (s.thawCmd guard w 2)

/-! Readiness (R27). -/

/-- The readiness bit of a function and whether the function can come into service by itself. -/
def State.fnBit (s : State) : FnUnit → Nat × Bool
  | .sluice => (Rdy.sluice, true)
  | .spp => (Rdy.spp, true)
  | .spoutHub => (Rdy.spoutHub, true)
  | .dtb => (Rdy.dtb, true)
  | .trace => (Rdy.trace, decide (s.pwr 95 = 0))
  | .pool h => (Rdy.pool h.val, decide (s.fget (Blk.pol h.val) Reg.POL_FENCE_STATE = 0) && decide (s.pwr (32 + h.val) = 0))
  | .bank b => (Rdy.spl b.val, !(bitAt s.bankFenced b.val))
  | .jet j => (Rdy.jet j.val, decide (1 ≤ s.jst j) && decide (s.jst j ≤ 4))
  | .core c => (Rdy.core c.val, !(s.locked (pairOf c)) && decide (s.crnState c ≤ 1))

/-- FUNCTION_READY (R27): a function that is fenced, failed or off does not come into service. -/
def execFunctionReady (unit : FnUnit) (s : State) : Ans :=
  let r := s.fnBit unit
  if r.2 && !s.stopped then .next (s.setReady r.1 true) else .next s

end Sys2Proof.Machine
end

