-- ==== Sys2Proof/Machine/RidgeRows.lean ====
section
/-! DEFINITION. The commands of the ridge links (09_ridge_links.md R168-R179). -/

namespace Sys2Proof.Machine

/-! Training (R168). -/

/-- RDG_LCTRL_WRITE (R168). -/
def execRdgLctrlWrite (link : LinkId) (w : RegW) (s : State) : Ans := .next (s.regWrite (Blk.rdg link.val) 0x040 w).goOnAll

/-- RL_DETECT (R168, step 1): `lanes` are those that detect the neighbour. -/
def execRlDetect (link : LinkId) (lanes : BitVec 4) (s : State) : Ans :=
  s.doIf (decide (s.rls link = rlDETECT ∧ lanes ≠ 0)) ((s.setRls link rlEXCHANGE).modLink link (fun k => { k with lanes := lanes }))

/-- TRAIN_FLIT (R168, step 2): what the neighbour says of itself. -/
def execTrainFlit (link : LinkId) (ident : Word) (index : BitVec 3) (tag : BitVec 32) (ability : BitVec 6) (lanes : BitVec 4)
    (s : State) : Ans :=
  let t := s.modLink link (fun k =>
    { k with gotTrain := true, peerTag := tag, peerIndex := index, peerAbility := ability, peerLanes := lanes })
  let t := (t.rput (Blk.rdg link.val) Reg.RDG_LPEER_PEER.off ident).bump (Blk.rdg link.val) Ctr.RDG_FLITS_RX
  s.doIf (decide (s.rls link = rlEXCHANGE)) (t.setRls link rlEQUALISE)

/-- RL_EQUALISE_DONE (R168, steps 3 and 4); `floor` is the neighbour's. -/
def execRlEqualiseDone (link : LinkId) (floor : BitVec 3) (s : State) : Ans :=
  s.doIf (decide (s.rls link = rlEQUALISE)) (s.rlCheck link floor.toNat)

/-- RL_TRAIN_TIMEOUT (R168). -/
def execRlTrainTimeout (link : LinkId) (s : State) : Ans :=
  s.doIf (decide (rlDETECT ≤ s.rls link ∧ s.rls link < rlUP)) (s.setRls link rlDETECT)

/-- RL_RETRY_TIMER (R168). -/
def execRlRetryTimer (link : LinkId) (s : State) : Ans :=
  s.doIf (decide (s.rls link = rlMISMATCH ∨ s.rls link = rlFLOOR)) (s.rlStart link)

/-- RL_NO_FLIT_TIMEOUT (R170, R179). -/
def execRlNoFlitTimeout (link : LinkId) (s : State) : Ans := s.doIf true (s.rlDown link).goOnAll

/-- RL_RETRAIN_TIMER (R179, step 4). -/
def execRlRetrainTimer (link : LinkId) (s : State) : Ans := s.doIf (decide (s.rls link = rlOFF)) (s.rlStart link)

/-! Flits that arrive (R169-R178). -/

/-- A flit of a type and with a LEN that its payload has (R169). -/
def flitOk (f : Flit) (ty : Nat) : Bool := decide (f.ty = ty) && decide (f.len = f.payload.length) && decide (f.len ≤ 240)

/-- FRAME_FLIT (R173, R177); `bank` is where a whole frame's cells are looked for. -/
def execFrameFlit (link : LinkId) (f : Flit) (bank : Fin 4) (s : State) : Ans :=
  s.doIf (flitOk f 1) (s.flitIn link f (fun t => t.frameFlit f bank.val))

/-- REQ_FLIT (R174). -/
def execReqFlit (link : LinkId) (f : Flit) (s : State) : Ans := s.doIf (flitOk f 2) (s.flitIn link f (fun t => t.reqFlit link f))

/-- RSP_FLIT (R174). -/
def execRspFlit (link : LinkId) (f : Flit) (s : State) : Ans := s.doIf (flitOk f 3) (s.flitIn link f (fun t => t.rspFlit f)).goOnAll

/-- SLUICE_FLIT (R175). -/
def execSluiceFlit (link : LinkId) (f : Flit) (s : State) : Ans :=
  s.doIf (flitOk f 4 && decide (beAt f.payload 0 1 ≠ 0)) (s.flitIn link f (fun t => t.sluiceFlit link f))

/-- LENT_XOFF_FLIT (R178): the CTRL flit whose first byte is no message type (notes/assumptions/29.md). -/
def execLentXoffFlit (link : LinkId) (f : Flit) (s : State) : Ans :=
  s.doIf (flitOk f 4 && decide (beAt f.payload 0 1 = 0)) (s.flitIn link f (fun t => t.lentXoff f))

/-- DOORBELL_FLIT (R176). -/
def execDoorbellFlit (link : LinkId) (f : Flit) (s : State) : Ans :=
  s.doIf (flitOk f 5) (s.flitIn link f (fun t => t.doorbellFlit f))

/-- LINK_FLIT (R170). -/
def execLinkFlit (link : LinkId) (f : Flit) (s : State) : Ans := s.doIf (flitOk f 6) (s.linkFlit link f).goOnAll

/-- FLIT_CRC_ERROR (R169, R170). -/
def execFlitCrcError (link : LinkId) (s : State) : Ans := s.doIf true (s.badFlit link)

/-- STREAM_ROUTE_MOVE (R173). -/
def execStreamRouteMove (src dst : Fin 8) (cls : Fin 4) (tag : BitVec 16) (s : State) : Ans :=
  s.doIf true (s.streamMove src.val dst.val cls.val tag)

/-! Doorbells (R176). -/

/-- DOORBELL_SEND (R176). -/
def execDoorbellSend (w : RegW) (s : State) : Ans := .next (s.regWrite Blk.RDG0 Reg.RDG_DB_SEND_VALUE.off w)

/-- DOORBELL_READ (R176). -/
def execDoorbellRead (core : CoreId) (r : RegR) (s : State) : Ans := .next (s.regReadCmd Blk.RDG0 (0x200 + 8 * core.val) r)

end Sys2Proof.Machine
end

