-- ==== Sys2Proof/Machine/SaRows.lean ====
section
/-! DEFINITION. The commands of the SA block and of the SA event queues (06_jets_and_macsec.md R111, R113-R116, R125, R132). -/

namespace Sys2Proof.Machine

/-- SC_CREATE (R115, OP 1): the SA block takes its oldest command. -/
def execScCreate (s : State) : Ans := s.doIf true (s.saTake 1)

/-- SA_INSTALL (R115, OP 2). -/
def execSaInstall (s : State) : Ans := s.doIf true (s.saTake 2)

/-- TX_SWITCH (R115, OP 3). -/
def execTxSwitch (s : State) : Ans := s.doIf true (s.saTake 3)

/-- SA_RETIRE (R115, OP 4). -/
def execSaRetire (s : State) : Ans := s.doIf true (s.saTake 4)

/-- SA_REMOVE (R115, OP 5). -/
def execSaRemove (s : State) : Ans := s.doIf true (s.saTake 5)

/-- SC_DELETE (R115, OP 6). -/
def execScDelete (s : State) : Ans := s.doIf true (s.saTake 6)

/-- SLOT_INSTALL (R115, OP 7). -/
def execSlotInstall (s : State) : Ans := s.doIf true (s.saTake 7)

/-- SLOT_REMOVE (R115, OP 8). -/
def execSlotRemove (s : State) : Ans := s.doIf true (s.saTake 8)

/-- QUERY (R115, OP 9). -/
def execQuery (s : State) : Ans := s.doIf true (s.saTake 9)

/-- SA_BAD_OP (R113, R116). -/
def execSaBadOp (s : State) : Ans := s.doIf true s.saTakeBad

/-- SA_NOT_AFTER (R125): the time reaches the NOT_AFTER of an SA, and the RETIRED event is posted once. -/
def execSaNotAfter (sc : Nat) (an : BitVec 2) (s : State) : Ans :=
  match (s.scNow.find? (fun c => c.sc == sc)).bind (fun c => (c.sa an.toNat).map (fun a => (c, a))) with
  | none => .next s
  | some x =>
    match x.2.notAfter, s.run x.2.uid with
    | some t, some r =>
      let u := (s.reach t).modRun x.2.uid (fun k => { k with retired := true })
      s.doIf (!r.retired) (u.saPost x.1.basin 3 sc an)
    | _, _ => .next s

/-- SA_EVT_READ (R132). -/
def execSaEvtRead (basin : BasinId) (r : RegR) (s : State) : Ans := .next (s.regReadCmd (Blk.bw basin.val) 0x3B0 r)

/-- SA_REGION_INVALIDATE (R111): a write of SA_REGION with VALID = 0. -/
def execSaRegionInvalidate (w : RegW) (s : State) : Ans :=
  .next (s.regWriteIf Blk.SA 0x008 w
    (covers Reg.SA_REGION_VALID (regMask w) && !(hits Reg.SA_REGION_VALID (regMask w) (regBits w))))

end Sys2Proof.Machine
end

