-- ==== Sys2Proof/Machine/SluiceRows.lean ====
section
/-! DEFINITION. The commands of the Sluice (08_sluice_commit.md R146-R162). -/

namespace Sys2Proof.Machine

/-- SLU_OPEN_READ (R146). -/
def execSluOpenRead (r : RegR) (s : State) : Ans := .next (s.regReadCmd Blk.SLU 0x000 r)

/-- WRITE (R149): the Sluice takes its oldest command; before it is ready the command is held (R24). -/
def execWrite (s : State) : Ans := s.doIf (s.ready Rdy.sluice) (s.sluTake 1 State.runWrite)

/-- RELEASE (R151). -/
def execRelease (s : State) : Ans := s.doIf (s.ready Rdy.sluice) (s.sluTake 2 State.runSeal)

/-- ARM (R156). -/
def execArm (s : State) : Ans := s.doIf (s.ready Rdy.sluice) (s.sluTake 3 State.runSeal)

/-- DISCARD (R157). -/
def execDiscard (s : State) : Ans := s.doIf (s.ready Rdy.sluice) (s.sluTake 4 (fun t q _ => t.runDiscard q))

/-- SLU_BAD_OP (R150). -/
def execSluBadOp (s : State) : Ans := s.doIf (s.ready Rdy.sluice) s.sluTakeBad

/-- SEAL_COMPLETE (R151, R158). -/
def execSealComplete (slot : StageId) (s : State) : Ans := s.doIf true (s.sealDone slot)

/-- EPOCH_SWITCH (R152, R153): at the next instant R. -/
def execEpochSwitch (s : State) : Ans := s.doIf true s.epochSwitch

/-- DRAIN_END (R153). -/
def execDrainEnd (s : State) : Ans := s.doIf true s.drainEnd

/-- ARM_TIMEOUT (R156). -/
def execArmTimeout (slot : StageId) (s : State) : Ans := s.doIf true (s.armTimeout slot)

/-- PREPARE (R160). -/
def execPrepareMsg (s : State) : Ans := s.doIf true (s.sluNext 6 State.onPrepare)

/-- VOTE (R159, R160). -/
def execVoteMsg (s : State) : Ans := s.doIf true (s.sluNext 7 State.onVote)

/-- DECIDE (R160). -/
def execDecideMsg (s : State) : Ans := s.doIf true (s.sluNext 8 State.onDecide)

/-- ABORT (R160, R161). -/
def execAbortMsg (s : State) : Ans := s.doIf true (s.sluNext 9 State.onAbort)

/-- VOTE_DEADLINE (R159). -/
def execVoteDeadline (slot : StageId) (s : State) : Ans := s.doIf true (s.voteDeadline slot)

/-- PREPARE_VOTE_SEND (R160): of the transaction that its origin and number name. -/
def execPrepareVoteSend (origin txn : Word) (s : State) : Ans := s.doIf true (s.sendVote origin.toNat txn.toNat)

/-- PRESUME_TIMER (R160). -/
def execPresumeTimer (slot : StageId) (s : State) : Ans := s.doIf true (s.presume slot)

/-- TXN_RECORD_EXPIRE (R160). -/
def execTxnRecordExpire (origin txn : Word) (s : State) : Ans := s.doIf true (s.txnExpire origin.toNat txn.toNat)

end Sys2Proof.Machine
end

