-- ==== Sys2Proof/Machine/SpoutRows.lean ====
section
/-! DEFINITION. The commands of the Spout (16_spout_interrupts.md R303-R309) and of the error record queue
(17_fault_tolerance.md R330). -/

namespace Sys2Proof.Machine

/-- A source's input sampled: an active transition since the last sample counts one event (R303). -/
def State.sample (s : State) (c : CoreId) (n : Nat) : State :=
  let x := s.anySrc c n
  let i := if n < 32 then s.privInput c n else s.srcInput n
  let s := if edgeActive x.sense x.seen i then s.countEvent c n else s
  let y := { s.anySrc c n with seen := i }
  if n < 32 then s.setPriv c n y else s.setSrc n y

/-- SOURCE_EVENT (R303): the input of a source, a private one of `core` or a global one, is sampled, and its target's
SPT_VMPEND follows (R305). -/
def execSourceEvent (core : Option CoreId) (source : BitVec 10) (s : State) : Ans :=
  let n := source.toNat
  match core with
  | some c =>
    if decide (n < 32) && privateSrc n then .next ((s.sample c n).vmPend (s.leadOf c)) else .next s
  | none =>
    if globalSrc n then
      let s := s.sample 0 n
      .next (s.vmPend (s.leadOf (s.src n).target))
    else .next s

/-- TIMER_COMPARE (R307): the time is past an enabled timer's compare value, whose source is then raised. -/
def execTimerCompare (core : CoreId) (secure : Bool) (s : State) : Ans :=
  let n := if secure then 1 else 2
  if s.privInput core n then .next ((s.sample core n).vmPend (s.leadOf core)) else .next s

/-- SPT_RAISE (R308). -/
def execSptRaise (w : RegW) (s : State) : Ans := .next (s.regWrite Blk.HUB 0x010 w)

/-- SPT_IPI (R308). -/
def execSptIpi (w : RegW) (s : State) : Ans := .next (s.regWrite Blk.HUB 0x018 w)

/-- SPT_CLR (R303): a write with CLR = 1, of a private source or of the global source that SPT_SEL names. -/
def execSptClr (core : Option CoreId) (source : BitVec 5) (w : RegW) (s : State) : Ans :=
  let b := match core with
    | some c => Blk.spt c.val
    | none => Blk.HUB
  let off := if core.isSome then 0x100 + 8 * source.toNat else 0x008
  .next (s.regWriteIf b off w (hits Reg.SPT_SRC_CLR (regMask w) (regBits w)))

/-- The field a write of SPT_SRC would give the source that the writer's SPT_SEL names. -/
def State.srcFieldAfter (s : State) (w : RegW) (f : Fld) : Nat :=
  fieldAfter (s.sptSrcWord (s.sptSel w.acc.src)) (regMask w) (regBits w) f

/-- SPT_SENSE_CHANGE (R303): a write of SPT_SRC that changes SENSE. -/
def execSptSenseChange (w : RegW) (s : State) : Ans :=
  .next (s.regWriteIf Blk.HUB 0x008 w
    (decide (s.srcFieldAfter w Reg.SPT_SRC_SENSE ≠ (s.src (s.sptSel w.acc.src)).sense)))

/-- SPT_RETARGET (R309): a write of SPT_SRC that changes TARGET. -/
def execSptRetarget (w : RegW) (s : State) : Ans :=
  .next (s.regWriteIf Blk.HUB 0x008 w
    (decide (s.srcFieldAfter w Reg.SPT_SRC_TARGET ≠ (s.src (s.sptSel w.acc.src)).target.val)))

/-- ERR_REC3_READ (R330): the value goes to `rdata`. -/
def execErrRec3Read (r : RegR) (s : State) : Ans :=
  let w : RegW := ⟨r.acc, r.wide, r.high, 0⟩
  let q := s.busRead r.acc Blk.ERR (regOff w 0x028) (regSize w)
  .next { q.1 with rdata := q.2 }

/-- ERR_DONE (R330). -/
def execErrDone (w : RegW) (s : State) : Ans := .next (s.regWrite Blk.ERR 0x030 w)

end Sys2Proof.Machine
end

