-- ==== Sys2Proof/Machine/SppRows.lean ====
section
/-! DEFINITION. The commands of SPP sessions (03_peer_negotiation.md R53, R61, R63 to R66). -/

namespace Sys2Proof.Machine

/-- The session of a line MAC acts on the oldest accepted message, if it is of a type; it was accepted when it came (R59). -/
def State.sppAct (s : State) (p : PortId) (ty : Nat) (f : State → PortId → SppMsg → State) : Ans :=
  match s.sppTake p ty with
  | some r => s.doIf true (f r.2 p r.1)
  | none => .next s

/-- HELLO (R63). -/
def execHello (mac : PortId) (s : State) : Ans := s.sppAct mac 1 State.onHello

/-- OFFER (R61, R63). -/
def execOffer (mac : PortId) (s : State) : Ans := s.sppAct mac 2 State.onOffer

/-- SELECT (R61, R63). -/
def execSelect (mac : PortId) (s : State) : Ans := s.sppAct mac 3 State.onSelect

/-- CONFIRM (R63). -/
def execConfirm (mac : PortId) (s : State) : Ans := s.sppAct mac 4 State.onConfirm

/-- BEAT (R63 to R65). -/
def execBeat (mac : PortId) (s : State) : Ans := s.sppAct mac 5 State.onBeat

/-- SPP_HELLO_TIMER (R63). -/
def execSppHelloTimer (mac : PortId) (s : State) : Ans :=
  s.doIf (decide (s.sst mac = sDISCOVER)) (s.sendHello mac (s.sess mac).heard)

/-- The last message of a session that waits for an answer, sent again: HELLO, SELECT or OFFER (R63). -/
def State.stepResend (s : State) (p : PortId) : State :=
  let st := s.sst p
  if st = sIOFFER then s.sendHello p (s.peer p)
  else if st = sICONFIRM then s.sendPeer p 3 (s.sess p).select
  else s.sendPeer p 2 (s.sess p).offerBody

/-- SPP_STEP_TIMER (R63): the third expiry starts a new attempt. -/
def execSppStepTimer (mac : PortId) (s : State) : Ans :=
  let st := s.sst mac
  s.doIf (decide (sIOFFER ≤ st ∧ st ≤ sRSELECT))
    (if (s.sess mac).steps < 2 then (s.modSess mac (fun k => { k with steps := k.steps + 1 })).stepResend mac else s.discover mac)

/-- SPP_BEAT_TIMER (R64). -/
def execSppBeatTimer (mac : PortId) (s : State) : Ans := s.doIf (decide (s.sst mac = sUP)) (s.sendBeat mac)

/-- SPP_BEAT_MISS (R64): the third miss in a row ends the session. -/
def execSppBeatMiss (mac : PortId) (s : State) : Ans :=
  let t := s.bump (Blk.mac mac.val) Ctr.MACSPP_BEAT_MISS
  s.doIf (decide (s.sst mac = sUP))
    (if (s.sess mac).missed < 2 then t.modSess mac (fun k => { k with missed := k.missed + 1 }) else t.discover mac)

/-- SPP_RETRY_TIMER (R63). -/
def execSppRetryTimer (mac : PortId) (s : State) : Ans :=
  s.doIf (decide (s.sst mac = sNOMODE ∨ s.sst mac = sCLASH)) (s.discover mac)

/-- RENEG (R63): a write of SPP_SESS_CTRL with RENEG = 1. -/
def execReneg (mac : PortId) (w : RegW) (s : State) : Ans :=
  .next (s.regWriteIf (Blk.mac mac.val) 0x300 w (hits Reg.SPP_SESS_CTRL_RENEG (regMask w) (regBits w)))

/-- DOWN_ACT_CHANGE (R66): a write of SPP_SESS_CTRL that changes DOWN_ACT. -/
def execDownActChange (mac : PortId) (w : RegW) (s : State) : Ans :=
  let b := Blk.mac mac.val
  let v := hits Reg.SPP_SESS_CTRL_DOWN_ACT (regMask w) (regBits w)
  .next (s.regWriteIf b 0x300 w (covers Reg.SPP_SESS_CTRL_DOWN_ACT (regMask w) && v != s.flag b Reg.SPP_SESS_CTRL_DOWN_ACT))

/-- SPP_SLOT_TX (R53): the oldest frame of the SPP transmit slot; one of a borrowed MAC leaves by the ridge (R177). One
that finds only keyed frames allowed and no slot valid is dropped (R58). DESIGN CHOICE, notes/assumptions/41.md. -/
def execSppSlotTx (mac : PortId) (s : State) : Ans :=
  let m := macOf mac
  let k := s.mac m
  match k.slot with
  | [] => .next s
  | msg :: rest =>
    let fr := s.sppFrame mac msg
    let u := s.modMac m (fun k => { k with slot := rest })
    let t := ((u.sppSent mac).bump (Blk.mac m.val) Ctr.MACSPP_SPP_TX).mbump m Ctr.MAC_TX_FRAMES
    let t := t.addCtr (Blk.mac m.val) Ctr.MAC_TX_BYTES fr.length
    let t := if s.borrows mac.val then
        t.sendFlits (t.lentFlits (s.lending mac.val).2.1 mac.val (s.fget Blk.SPP Reg.SPP_CTRL_PRIO) true 0 fr)
      else { t with out := Out.frame m fr false :: t.out }
    s.doIf (s.macUp m && s.slotReady m && k.tx.isNone && !k.fcDue)
      ((if s.needKey mac && !(s.keyed mac) then u else t).txStart m)

end Sys2Proof.Machine
end

