-- ==== Sys2Proof/Machine/Dispatch.lean ====
section
/-! DEFINITION. The one dispatch: each command of Instr calls its meaning. -/

namespace Sys2Proof.Machine

/-- The effect of a command on everything but the queue. -/
def exec (i : Instr) (s : State) : Host.Outcome State Fault Refusal :=
  match i with
  | .regWrite acc addr size val => Sys2Proof.Machine.execRegWrite acc addr size val s
  | .laneReady lane => Sys2Proof.Machine.execLaneReady lane s
  | .laneLoss lane => Sys2Proof.Machine.execLaneLoss lane s
  | .laneWithhold lane test w => Sys2Proof.Machine.execLaneWithhold lane test w s
  | .anResolved mac partner rs br => Sys2Proof.Machine.execAnResolved mac partner rs br s
  | .anRestartTimer mac => Sys2Proof.Machine.execAnRestartTimer mac s
  | .linkTrainingDone mac taps => Sys2Proof.Machine.execLinkTrainingDone mac taps s
  | .trainTimeout mac => Sys2Proof.Machine.execTrainTimeout mac s
  | .floorFailRetry mac => Sys2Proof.Machine.execFloorFailRetry mac s
  | .floorFailRestore mac => Sys2Proof.Machine.execFloorFailRestore mac s
  | .macLinkUp mac fault => Sys2Proof.Machine.execMacLinkUp mac fault s
  | .macLinkDown mac hiber => Sys2Proof.Machine.execMacLinkDown mac hiber s
  | .restart mac w => Sys2Proof.Machine.execRestart mac w s
  | .rxFrameEnd mac bytes pcsErr age bank => Sys2Proof.Machine.execRxFrameEnd mac bytes pcsErr age bank s
  | .rxCellExhausted mac got => Sys2Proof.Machine.execRxCellExhausted mac got s
  | .rxFlowControlFrame mac bytes => Sys2Proof.Machine.execRxFlowControlFrame mac bytes s
  | .pauseTimerExpire mac prio => Sys2Proof.Machine.execPauseTimerExpire mac prio s
  | .pfcThresholdRecheck mac => Sys2Proof.Machine.execPfcThresholdRecheck mac s
  | .flowControlFrameTx mac => Sys2Proof.Machine.execFlowControlFrameTx mac s
  | .fcRefresh mac => Sys2Proof.Machine.execFcRefresh mac s
  | .intake ch => Sys2Proof.Machine.execIntake ch s
  | .pTier tier => Sys2Proof.Machine.execPTier tier s
  | .kTier tier => Sys2Proof.Machine.execKTier tier s
  | .aTier tier => Sys2Proof.Machine.execATier tier s
  | .saFetchDone tier ue victim => Sys2Proof.Machine.execSaFetchDone tier ue victim s
  | .jetDispatch ch soonest bank => Sys2Proof.Machine.execJetDispatch ch soonest bank s
  | .jetOutputChecked jet => Sys2Proof.Machine.execJetOutputChecked jet s
  | .rejoin ch => Sys2Proof.Machine.execRejoin ch s
  | .vTier tier => Sys2Proof.Machine.execVTier tier s
  | .eTier tier => Sys2Proof.Machine.execETier tier s
  | .mTier tier => Sys2Proof.Machine.execMTier tier s
  | .deepWrite => Sys2Proof.Machine.execDeepWrite s
  | .deepStageRead bank => Sys2Proof.Machine.execDeepStageRead bank s
  | .injectDesc basin bank => Sys2Proof.Machine.execInjectDesc basin bank s
  | .weirPick mac room => Sys2Proof.Machine.execWeirPick mac room s
  | .txFrameEnd mac age => Sys2Proof.Machine.execTxFrameEnd mac age s
  | .txtsRead mac r => Sys2Proof.Machine.execTxtsRead mac r s
  | .mgdmaRxFrame mg => Sys2Proof.Machine.execMgdmaRxFrame mg s
  | .mgdmaTxDesc mg => Sys2Proof.Machine.execMgdmaTxDesc mg s
  | .mgdmaResume mg tx => Sys2Proof.Machine.execMgdmaResume mg tx s
  | .hello mac => Sys2Proof.Machine.execHello mac s
  | .offer mac => Sys2Proof.Machine.execOffer mac s
  | .select mac => Sys2Proof.Machine.execSelect mac s
  | .confirm mac => Sys2Proof.Machine.execConfirm mac s
  | .beat mac => Sys2Proof.Machine.execBeat mac s
  | .sppHelloTimer mac => Sys2Proof.Machine.execSppHelloTimer mac s
  | .sppStepTimer mac => Sys2Proof.Machine.execSppStepTimer mac s
  | .sppBeatTimer mac => Sys2Proof.Machine.execSppBeatTimer mac s
  | .sppBeatMiss mac => Sys2Proof.Machine.execSppBeatMiss mac s
  | .sppRetryTimer mac => Sys2Proof.Machine.execSppRetryTimer mac s
  | .reneg mac w => Sys2Proof.Machine.execReneg mac w s
  | .downActChange mac w => Sys2Proof.Machine.execDownActChange mac w s
  | .sppSlotTx mac => Sys2Proof.Machine.execSppSlotTx mac s
  | .bitStage w => Sys2Proof.Machine.execBitStage w s
  | .bitAbort w => Sys2Proof.Machine.execBitAbort w s
  | .bitLoadEnd => Sys2Proof.Machine.execBitLoadEnd s
  | .bootBitstreamLoad file => Sys2Proof.Machine.execBootBitstreamLoad file s
  | .scCreate => Sys2Proof.Machine.execScCreate s
  | .saInstall => Sys2Proof.Machine.execSaInstall s
  | .txSwitch => Sys2Proof.Machine.execTxSwitch s
  | .saRetire => Sys2Proof.Machine.execSaRetire s
  | .saRemove => Sys2Proof.Machine.execSaRemove s
  | .scDelete => Sys2Proof.Machine.execScDelete s
  | .slotInstall => Sys2Proof.Machine.execSlotInstall s
  | .slotRemove => Sys2Proof.Machine.execSlotRemove s
  | .query => Sys2Proof.Machine.execQuery s
  | .saNotAfter sc an => Sys2Proof.Machine.execSaNotAfter sc an s
  | .saEvtRead basin r => Sys2Proof.Machine.execSaEvtRead basin r s
  | .saRegionInvalidate w => Sys2Proof.Machine.execSaRegionInvalidate w s
  | .jetFault jet => Sys2Proof.Machine.execJetFault jet s
  | .jetRotation => Sys2Proof.Machine.execJetRotation s
  | .jetDrainEnd jet => Sys2Proof.Machine.execJetDrainEnd jet s
  | .jetSelfTestDone jet pass => Sys2Proof.Machine.execJetSelfTestDone jet pass s
  | .jetTest jet w => Sys2Proof.Machine.execJetTest jet w s
  | .jetFence jet w => Sys2Proof.Machine.execJetFence jet w s
  | .jetInjectParity jet w => Sys2Proof.Machine.execJetInjectParity jet w s
  | .sluOpenRead r => Sys2Proof.Machine.execSluOpenRead r s
  | .write => Sys2Proof.Machine.execWrite s
  | .release => Sys2Proof.Machine.execRelease s
  | .arm => Sys2Proof.Machine.execArm s
  | .discard => Sys2Proof.Machine.execDiscard s
  | .sealComplete slot => Sys2Proof.Machine.execSealComplete slot s
  | .epochSwitch => Sys2Proof.Machine.execEpochSwitch s
  | .drainEnd => Sys2Proof.Machine.execDrainEnd s
  | .armTimeout slot => Sys2Proof.Machine.execArmTimeout slot s
  | .prepareMsg => Sys2Proof.Machine.execPrepareMsg s
  | .voteMsg => Sys2Proof.Machine.execVoteMsg s
  | .decideMsg => Sys2Proof.Machine.execDecideMsg s
  | .abortMsg => Sys2Proof.Machine.execAbortMsg s
  | .voteDeadline slot => Sys2Proof.Machine.execVoteDeadline slot s
  | .prepareVoteSend origin txn => Sys2Proof.Machine.execPrepareVoteSend origin txn s
  | .presumeTimer slot => Sys2Proof.Machine.execPresumeTimer slot s
  | .txnRecordExpire origin txn => Sys2Proof.Machine.execTxnRecordExpire origin txn s
  | .rdgLctrlWrite link w => Sys2Proof.Machine.execRdgLctrlWrite link w s
  | .trainFlit link ident index tag ability lanes => Sys2Proof.Machine.execTrainFlit link ident index tag ability lanes s
  | .rlEqualiseDone link floor => Sys2Proof.Machine.execRlEqualiseDone link floor s
  | .rlTrainTimeout link => Sys2Proof.Machine.execRlTrainTimeout link s
  | .rlRetryTimer link => Sys2Proof.Machine.execRlRetryTimer link s
  | .frameFlit link f bank => Sys2Proof.Machine.execFrameFlit link f bank s
  | .reqFlit link f => Sys2Proof.Machine.execReqFlit link f s
  | .rspFlit link f => Sys2Proof.Machine.execRspFlit link f s
  | .sluiceFlit link f => Sys2Proof.Machine.execSluiceFlit link f s
  | .doorbellFlit link f => Sys2Proof.Machine.execDoorbellFlit link f s
  | .linkFlit link f => Sys2Proof.Machine.execLinkFlit link f s
  | .rlNoFlitTimeout link => Sys2Proof.Machine.execRlNoFlitTimeout link s
  | .rlRetrainTimer link => Sys2Proof.Machine.execRlRetrainTimer link s
  | .streamRouteMove src dst cls tag => Sys2Proof.Machine.execStreamRouteMove src dst cls tag s
  | .doorbellSend w => Sys2Proof.Machine.execDoorbellSend w s
  | .doorbellRead core r => Sys2Proof.Machine.execDoorbellRead core r s
  | .aluRRR y op d a b => Sys2Proof.Machine.execAluRRR y op d a b s
  | .shiftRRR y op d a b => Sys2Proof.Machine.execShiftRRR y op d a b s
  | .minMax y op d a b => Sys2Proof.Machine.execMinMax y op d a b s
  | .cmpRRR y op d a b => Sys2Proof.Machine.execCmpRRR y op d a b s
  | .adds y d a b => Sys2Proof.Machine.execAdds y d a b s
  | .addc y d a b => Sys2Proof.Machine.execAddc y d a b s
  | .subs y d a b => Sys2Proof.Machine.execSubs y d a b s
  | .subc y d a b => Sys2Proof.Machine.execSubc y d a b s
  | .countBits y op d a b => Sys2Proof.Machine.execCountBits y op d a b s
  | .extend y op d a b => Sys2Proof.Machine.execExtend y op d a b s
  | .sel y d a b => Sys2Proof.Machine.execSel y d a b s
  | .bswap y d a b => Sys2Proof.Machine.execBswap y d a b s
  | .aluImm y op d a imm => Sys2Proof.Machine.execAluImm y op d a imm s
  | .shiftImm y op d a imm => Sys2Proof.Machine.execShiftImm y op d a imm s
  | .cmpImm y op d a imm => Sys2Proof.Machine.execCmpImm y op d a imm s
  | .movi y d imm => Sys2Proof.Machine.execMovi y d imm s
  | .load y op d base imm => Sys2Proof.Machine.execLoad y op d base imm s
  | .store y op src base imm => Sys2Proof.Machine.execStore y op src base imm s
  | .loadF y dbl d base imm => Sys2Proof.Machine.execLoadF y dbl d base imm s
  | .storeF y dbl src base imm => Sys2Proof.Machine.execStoreF y dbl src base imm s
  | .amo y d a b fn => Sys2Proof.Machine.execAmo y d a b fn s
  | .bcopy y d a b fn => Sys2Proof.Machine.execBcopy y d a b fn s
  | .bcmp y d a b fn => Sys2Proof.Machine.execBcmp y d a b fn s
  | .bfill y d a b fn => Sys2Proof.Machine.execBfill y d a b fn s
  | .cmoWbp y d base => Sys2Proof.Machine.execCmoWbp y d base s
  | .cmoWbm y d base => Sys2Proof.Machine.execCmoWbm y d base s
  | .cmoWbmi y d base => Sys2Proof.Machine.execCmoWbmi y d base s
  | .cmoInvd y d base => Sys2Proof.Machine.execCmoInvd y d base s
  | .cmoZero y d base => Sys2Proof.Machine.execCmoZero y d base s
  | .prf y d base imm => Sys2Proof.Machine.execPrf y d base imm s
  | .mul y op d a b => Sys2Proof.Machine.execMul y op d a b s
  | .mulWide y signed d a b => Sys2Proof.Machine.execMulWide y signed d a b s
  | .divide y op d a b => Sys2Proof.Machine.execDivide y op d a b s
  | .macu y n a b => Sys2Proof.Machine.execMacu y n a b s
  | .macs y n a b => Sys2Proof.Machine.execMacs y n a b s
  | .acclr y n => Sys2Proof.Machine.execAcclr y n s
  | .accshr y n => Sys2Proof.Machine.execAccshr y n s
  | .mvac y high d n => Sys2Proof.Machine.execMvac y high d n s
  | .mvtac y n a b => Sys2Proof.Machine.execMvtac y n a b s
  | .macd y c a b fn => Sys2Proof.Machine.execMacd y c a b fn s
  | .fArith y op dbl d a b => Sys2Proof.Machine.execFArith y op dbl d a b s
  | .fDivSqrt y sqrt dbl d a b => Sys2Proof.Machine.execFDivSqrt y sqrt dbl d a b s
  | .fMinMax y max dbl d a b => Sys2Proof.Machine.execFMinMax y max dbl d a b s
  | .fCmp y op dbl d a b => Sys2Proof.Machine.execFCmp y op dbl d a b s
  | .fCvtInt y toInt dbl d a => Sys2Proof.Machine.execFCvtInt y toInt dbl d a s
  | .fMov y fromF dbl d a => Sys2Proof.Machine.execFMov y fromF dbl d a s
  | .fSign y abs dbl d a => Sys2Proof.Machine.execFSign y abs dbl d a s
  | .fCvtPrec y toDouble d a => Sys2Proof.Machine.execFCvtPrec y toDouble d a s
  | .fFma y op dbl d a b => Sys2Proof.Machine.execFFma y op dbl d a b s
  | .br y disp => Sys2Proof.Machine.execBr y disp s
  | .call y disp => Sys2Proof.Machine.execCall y disp s
  | .callr y a => Sys2Proof.Machine.execCallr y a s
  | .jmpr y a => Sys2Proof.Machine.execJmpr y a s
  | .ret y => Sys2Proof.Machine.execRet y s
  | .bcond y op a b disp => Sys2Proof.Machine.execBcond y op a b disp s
  | .loop y a disp => Sys2Proof.Machine.execLoop y a disp s
  | .loopi y count disp => Sys2Proof.Machine.execLoopi y count disp s
  | .kcall y imm => Sys2Proof.Machine.execKcall y imm s
  | .hcall y imm => Sys2Proof.Machine.execHcall y imm s
  | .mcall y imm => Sys2Proof.Machine.execMcall y imm s
  | .xret y => Sys2Proof.Machine.execXret y s
  | .tbegin y d disp => Sys2Proof.Machine.execTbegin y d disp s
  | .tcommit y => Sys2Proof.Machine.execTcommit y s
  | .tabort y imm => Sys2Proof.Machine.execTabort y imm s
  | .fence y => Sys2Proof.Machine.execFence y s
  | .dsync y => Sys2Proof.Machine.execDsync y s
  | .isync y => Sys2Proof.Machine.execIsync y s
  | .pclrOwn y => Sys2Proof.Machine.execPclrOwn y s
  | .pclrAll y => Sys2Proof.Machine.execPclrAll y s
  | .mfcr y d num => Sys2Proof.Machine.execMfcr y d num s
  | .mtcr y d num => Sys2Proof.Machine.execMtcr y d num s
  | .cachectlWrite y d => Sys2Proof.Machine.execCachectlWrite y d s
  | .tlbinvRegime y d => Sys2Proof.Machine.execTlbinvRegime y d s
  | .tlbinvAsid y d => Sys2Proof.Machine.execTlbinvAsid y d s
  | .tlbinvVaAsid y d => Sys2Proof.Machine.execTlbinvVaAsid y d s
  | .tlbinvVa y d => Sys2Proof.Machine.execTlbinvVa y d s
  | .tlbinvVmid y d => Sys2Proof.Machine.execTlbinvVmid y d s
  | .tlbinvIpa y d => Sys2Proof.Machine.execTlbinvIpa y d s
  | .tlbinvWorld y d => Sys2Proof.Machine.execTlbinvWorld y d s
  | .dtbNow y d => Sys2Proof.Machine.execDtbNow y d s
  | .sptClaim y d => Sys2Proof.Machine.execSptClaim y d s
  | .interruptEntry core first => Sys2Proof.Machine.execInterruptEntry core first s
  | .longOpLand core index => Sys2Proof.Machine.execLongOpLand core index s
  | .mbEntryDrain core index => Sys2Proof.Machine.execMbEntryDrain core index s
  | .rdS core line fetch => Sys2Proof.Machine.execRdS core line fetch s
  | .rdU core line => Sys2Proof.Machine.execRdU core line s
  | .upgrade core line => Sys2Proof.Machine.execUpgrade core line s
  | .wb core line => Sys2Proof.Machine.execWb core line s
  | .wbk core line => Sys2Proof.Machine.execWbk core line s
  | .evict core line => Sys2Proof.Machine.execEvict core line s
  | .rdNc line => Sys2Proof.Machine.execRdNc line s
  | .wrNc line mask data => Sys2Proof.Machine.execWrNc line mask data s
  | .amoAtHome nc addr fn opnd cmp => Sys2Proof.Machine.execAmoAtHome nc addr fn opnd cmp s
  | .snpShare core line => Sys2Proof.Machine.execSnpShare core line s
  | .snpInv core line => Sys2Proof.Machine.execSnpInv core line s
  | .unpin slice core seq => Sys2Proof.Machine.execUnpin slice core seq s
  | .abortOrder slice set requester => Sys2Proof.Machine.execAbortOrder slice set requester s
  | .l2opClean core w => Sys2Proof.Machine.execL2opClean core w s
  | .l2opCleanInvalidate core w => Sys2Proof.Machine.execL2opCleanInvalidate core w s
  | .l2WalkDone core => Sys2Proof.Machine.execL2WalkDone core s
  | .polSramWrite slice w => Sys2Proof.Machine.execPolSramWrite slice w s
  | .sramConversionDone slice => Sys2Proof.Machine.execSramConversionDone slice s
  | .cisTrainDone stack failed => Sys2Proof.Machine.execCisTrainDone stack failed s
  | .cisRead addr errors => Sys2Proof.Machine.execCisRead addr errors s
  | .cisWrite addr mask data errors => Sys2Proof.Machine.execCisWrite addr mask data errors s
  | .scrubRead addr errors lastOfPass => Sys2Proof.Machine.execScrubRead addr errors lastOfPass s
  | .mapout stack w => Sys2Proof.Machine.execMapout stack w s
  | .reserveSet w => Sys2Proof.Machine.execReserveSet w s
  | .reserveFillDone => Sys2Proof.Machine.execReserveFillDone s
  | .cairnBoundary pair => Sys2Proof.Machine.execCairnBoundary pair s
  | .lockstepMismatch pair => Sys2Proof.Machine.execLockstepMismatch pair s
  | .cairnRestartDone pair => Sys2Proof.Machine.execCairnRestartDone pair s
  | .comparatorTestDone pair pass => Sys2Proof.Machine.execComparatorTestDone pair pass s
  | .crnOut pair w => Sys2Proof.Machine.execCrnOut pair w s
  | .crnTest pair w => Sys2Proof.Machine.execCrnTest pair w s
  | .crnTestDone core pass => Sys2Proof.Machine.execCrnTestDone core pass s
  | .crnReturn pair w => Sys2Proof.Machine.execCrnReturn pair w s
  | .crnInjectFlip pair w => Sys2Proof.Machine.execCrnInjectFlip pair w s
  | .channelFail ch tier cause => Sys2Proof.Machine.execChannelFail ch tier cause s
  | .casQuiesce ch w => Sys2Proof.Machine.execCasQuiesce ch w s
  | .channelQuiesced ch => Sys2Proof.Machine.execChannelQuiesced ch s
  | .casTest ch w => Sys2Proof.Machine.execCasTest ch w s
  | .casTestDone ch pass => Sys2Proof.Machine.execCasTestDone ch pass s
  | .casReturn ch w => Sys2Proof.Machine.execCasReturn ch w s
  | .poolSliceUe slice => Sys2Proof.Machine.execPoolSliceUe slice s
  | .poolFenceCmd slice w => Sys2Proof.Machine.execPoolFenceCmd slice w s
  | .poolFenceDone slice => Sys2Proof.Machine.execPoolFenceDone slice s
  | .spillBankFail bank => Sys2Proof.Machine.execSpillBankFail bank s
  | .errRec3Read r => Sys2Proof.Machine.execErrRec3Read r s
  | .errDone w => Sys2Proof.Machine.execErrDone w s
  | .sourceEvent core source => Sys2Proof.Machine.execSourceEvent core source s
  | .timerCompare core secure => Sys2Proof.Machine.execTimerCompare core secure s
  | .sptRaise w => Sys2Proof.Machine.execSptRaise w s
  | .sptIpi w => Sys2Proof.Machine.execSptIpi w s
  | .sptClr core source w => Sys2Proof.Machine.execSptClr core source w s
  | .sptSenseChange w => Sys2Proof.Machine.execSptSenseChange w s
  | .sptRetarget w => Sys2Proof.Machine.execSptRetarget w s
  | .thawResume guard w => Sys2Proof.Machine.execThawResume guard w s
  | .thawReset guard w => Sys2Proof.Machine.execThawReset guard w s
  | .powerOn => Sys2Proof.Machine.execPowerOn s
  | .resetN => Sys2Proof.Machine.execResetN s
  | .pwrReset w => Sys2Proof.Machine.execPwrReset w s
  | .meshUe => Sys2Proof.Machine.execMeshUe s
  | .controlParity => Sys2Proof.Machine.execControlParity s
  | .supply => Sys2Proof.Machine.execSupply s
  | .imageStreamStart dir image => Sys2Proof.Machine.execImageStreamStart dir image s
  | .imageVerifyDone secondary => Sys2Proof.Machine.execImageVerifyDone secondary s
  | .pwrStart w => Sys2Proof.Machine.execPwrStart w s
  | .pwrBasinrst w => Sys2Proof.Machine.execPwrBasinrst w s
  | .keyRevoke w => Sys2Proof.Machine.execKeyRevoke w s
  | .pwrReq w => Sys2Proof.Machine.execPwrReq w s
  | .domainChangeDone pd => Sys2Proof.Machine.execDomainChangeDone pd s
  | .coreWake core => Sys2Proof.Machine.execCoreWake core s
  | .clkFreqWrite pair w => Sys2Proof.Machine.execClkFreqWrite pair w s
  | .clkFreqApply pair => Sys2Proof.Machine.execClkFreqApply pair s
  | .dtbSet w => Sys2Proof.Machine.execDtbSet w s
  | .dtbStepApply => Sys2Proof.Machine.execDtbStepApply s
  | .dtbAdj w => Sys2Proof.Machine.execDtbAdj w s
  | .ppsEdge => Sys2Proof.Machine.execPpsEdge s
  | .avsPoll reading => Sys2Proof.Machine.execAvsPoll reading s
  | .voutCommand acked => Sys2Proof.Machine.execVoutCommand acked s
  | .refclkSysStop => Sys2Proof.Machine.execRefclkSysStop s
  | .refclkSrdStop => Sys2Proof.Machine.execRefclkSrdStop s
  | .thermtrip => Sys2Proof.Machine.execThermtrip s
  | .bypass tdi => Sys2Proof.Machine.execBypass tdi s
  | .idcode => Sys2Proof.Machine.execIdcode s
  | .samplePreload pins load => Sys2Proof.Machine.execSamplePreload pins load s
  | .extest pins load => Sys2Proof.Machine.execExtest pins load s
  | .clamp tdi => Sys2Proof.Machine.execClamp tdi s
  | .highz tdi => Sys2Proof.Machine.execHighz tdi s
  | .extestPulse pins load => Sys2Proof.Machine.execExtestPulse pins load s
  | .extestTrain pins load => Sys2Proof.Machine.execExtestTrain pins load s
  | .dap write trc offset data => Sys2Proof.Machine.execDap write trc offset data s
  | .nonce => Sys2Proof.Machine.execNonce s
  | .auth cert => Sys2Proof.Machine.execAuth cert s
  | .jtagLoad image => Sys2Proof.Machine.execJtagLoad image s
  | .fuse word => Sys2Proof.Machine.execFuse word s
  | .jtagReset => Sys2Proof.Machine.execJtagReset s
  | .dbgAuthWrite w => Sys2Proof.Machine.execDbgAuthWrite w s
  | .halt w => Sys2Proof.Machine.execHalt w s
  | .haltAccept core => Sys2Proof.Machine.execHaltAccept core s
  | .resume w => Sys2Proof.Machine.execResume w s
  | .debugStep w => Sys2Proof.Machine.execDebugStep w s
  | .itrInject core w => Sys2Proof.Machine.execItrInject core w s
  | .breakpointHit core => Sys2Proof.Machine.execBreakpointHit core s
  | .watchpointHit core entry => Sys2Proof.Machine.execWatchpointHit core entry s
  | .traceOverflow core => Sys2Proof.Machine.execTraceOverflow core s
  | .traceSyncTimer core => Sys2Proof.Machine.execTraceSyncTimer core s
  | .traceDmaWrite core => Sys2Proof.Machine.execTraceDmaWrite core s
  | .functionReady unit => Sys2Proof.Machine.execFunctionReady unit s
  | .illegalBundle core => Sys2Proof.Machine.execIllegalBundle core s
  | .iabort core => Sys2Proof.Machine.execIabort core s
  | .saBadOp => Sys2Proof.Machine.execSaBadOp s
  | .sluBadOp => Sys2Proof.Machine.execSluBadOp s
  | .flitCrcError link => Sys2Proof.Machine.execFlitCrcError link s
  | .rlDetect link lanes => Sys2Proof.Machine.execRlDetect link lanes s
  | .lentXoffFlit link f => Sys2Proof.Machine.execLentXoffFlit link f s
  | .cairnAbort pair => Sys2Proof.Machine.execCairnAbort pair s
  | .supplyRestored => Sys2Proof.Machine.execSupplyRestored s
  | .pmbAlert => Sys2Proof.Machine.execPmbAlert s

end Sys2Proof.Machine
end

