-- ==== Sys2Proof/Machine/Tick.lean ====
section
/-! DEFINITION. The tick: what a step does when no command waits. DESIGN CHOICE, notes/assumptions/1.md. -/

namespace Sys2Proof.Machine

/-- ADJ of DTB_ADJ as a signed number of parts per 10^12 (R348). -/
def State.adjNow (s : State) : Int := (BitVec.ofNat 32 (s.fget Blk.DTB Reg.DTB_ADJ_ADJ)).toInt

/-- One nanosecond of the master's own clock: the time base advances by 1 ns × (1 + ADJ / 10^12), what a unit of
2^-16 ns does not hold being kept for the next nanosecond (R347, R348). -/
def State.dtbTick (s : State) : State :=
  let r := s.tb.adjRem + 65536 * s.adjNow
  { s with tb := { s.tb with now := s.tb.now + (65536 + r / 1000000000000).toNat, ticks := s.tb.ticks + 1,
                             adjRem := r % 1000000000000 } }

/-- A tick: the time base counts, and the trace formatter sends (R347, R363); no formatter while the islands other than
the AON's are stopped (R377). -/
def State.tick (s : State) : State := if s.stopped then s.dtbTick else s.dtbTick.traceTick

end Sys2Proof.Machine
end

