-- ==== Sys2Proof/Machine/SylWord.lean ====
section
/-! DEFINITION. The word of each syllable (10_tarn_isa.md R183, R189, R196, R204-R207): the tables read the other way. -/

namespace Sys2Proof

/-! FN and OP of each member of a group, in the order of the tables. -/
def AluOp.code : AluOp → BitVec 6
  | .add => 0
  | .sub => 1
  | .and => 2
  | .or => 3
  | .xor => 4
  | .andn => 5
def ShiftOp.code : ShiftOp → BitVec 6
  | .shl => 6
  | .shr => 7
  | .sar => 8
  | .rol => 9
  | .ror => 10
def MinMaxOp.code : MinMaxOp → BitVec 6
  | .min => 11
  | .max => 12
  | .minu => 13
  | .maxu => 14
def CmpOp.code : CmpOp → BitVec 6
  | .eq => 15
  | .ne => 16
  | .lt => 17
  | .ltu => 18
  | .le => 19
  | .leu => 20
def CountOp.code : CountOp → BitVec 6
  | .clz => 25
  | .ctz => 26
  | .popc => 27
def ExtendOp.code : ExtendOp → BitVec 6
  | .sextb => 28
  | .sexth => 29
  | .sextw => 30
  | .zextw => 31
def AluImmOp.code : AluImmOp → BitVec 7
  | .addi => 1
  | .andi => 2
  | .ori => 3
  | .xori => 4
def ShiftImmOp.code : ShiftImmOp → BitVec 7
  | .shli => 5
  | .shri => 6
  | .sari => 7
def CmpImmOp.code : CmpImmOp → BitVec 7
  | .eqi => 8
  | .lti => 9
  | .ltui => 10
def LoadOp.code : LoadOp → BitVec 7
  | .ldb => 0x20
  | .ldbu => 0x21
  | .ldh => 0x22
  | .ldhu => 0x23
  | .ldw => 0x24
  | .ldwu => 0x25
  | .ldd => 0x26
def StoreOp.code : StoreOp → BitVec 7
  | .stb => 0x28
  | .sth => 0x29
  | .stw => 0x2A
  | .std => 0x2B
def MulOp.code : MulOp → BitVec 6
  | .mul => 0
  | .mulhu => 1
  | .mulhs => 2
def DivOp.code : DivOp → BitVec 6
  | .div => 5
  | .divu => 6
  | .rem => 7
  | .remu => 8
def FArithOp.code : FArithOp → BitVec 6
  | .fadd => 0
  | .fsub => 1
  | .fmul => 2
def FCmpOp.code : FCmpOp → BitVec 6
  | .eq => 7
  | .lt => 8
  | .le => 9
def FmaOp.code : FmaOp → BitVec 6
  | .fma => 0
  | .fms => 1
  | .fnma => 2
  | .fnms => 3
def BrCond.code : BrCond → BitVec 7
  | .eq => 0x68
  | .ne => 0x69
  | .lt => 0x6A
  | .ge => 0x6B
  | .ltu => 0x6C
  | .geu => 0x6D

namespace Machine

/-- The formats of R189 that name up to three registers and a function, or a register and an immediate. -/
def wordRRR (stop : Bool) (op : BitVec 7) (d a b fn : BitVec 6) : BitVec 32 := BitVec.ofBool stop ++ op ++ d ++ a ++ b ++ fn
def wordRRI (stop : Bool) (op : BitVec 7) (d a : BitVec 6) (i : BitVec 12) : BitVec 32 := BitVec.ofBool stop ++ op ++ d ++ a ++ i

/-- OP of the floating-point formats: 0x48 and 0x4A of binary64, 0x49 and 0x4B of binary32. -/
def fpOp (dbl : Bool) : BitVec 7 := if dbl then 0x48 else 0x49
def fmaOp (dbl : Bool) : BitVec 7 := if dbl then 0x4A else 0x4B

/-- A flag added to a code. -/
def plusIf (n : BitVec 6) (b : Bool) : BitVec 6 := if b then n + 1 else n

/-- The word of a syllable, with its stop bit; none of what is no syllable. A control register that has a row of its own
is reached by the words of MFCR and MTCR. -/
def encodeSyl (i : Instr) : Option (BitVec 32) :=
  match i with
  | .aluRRR y op d a b => some (wordRRR y.stop 0x00 d a b op.code)
  | .shiftRRR y op d a b => some (wordRRR y.stop 0x00 d a b op.code)
  | .minMax y op d a b => some (wordRRR y.stop 0x00 d a b op.code)
  | .cmpRRR y op d a b => some (wordRRR y.stop 0x00 d a b op.code)
  | .adds y d a b => some (wordRRR y.stop 0x00 d a b 21)
  | .subs y d a b => some (wordRRR y.stop 0x00 d a b 22)
  | .addc y d a b => some (wordRRR y.stop 0x00 d a b 23)
  | .subc y d a b => some (wordRRR y.stop 0x00 d a b 24)
  | .countBits y op d a b => some (wordRRR y.stop 0x00 d a b op.code)
  | .extend y op d a b => some (wordRRR y.stop 0x00 d a b op.code)
  | .sel y d a b => some (wordRRR y.stop 0x00 d a b 32)
  | .bswap y d a b => some (wordRRR y.stop 0x00 d a b 33)
  | .aluImm y op d a i => some (wordRRI y.stop op.code d a i)
  | .shiftImm y op d a i => some (wordRRI y.stop op.code d a i)
  | .cmpImm y op d a i => some (wordRRI y.stop op.code d a i)
  | .movi y d i => some (BitVec.ofBool y.stop ++ (0x0B : BitVec 7) ++ d ++ i)
  | .load y op d a i => some (wordRRI y.stop op.code d a i)
  | .store y op d a i => some (wordRRI y.stop op.code d a i)
  | .loadF y dbl d a i => some (wordRRI y.stop (if dbl then 0x2C else 0x2D) d a i)
  | .storeF y dbl d a i => some (wordRRI y.stop (if dbl then 0x2E else 0x2F) d a i)
  | .amo y d a b fn => some (wordRRR y.stop 0x30 d a b fn)
  | .bcopy y d a b fn => some (wordRRR y.stop 0x31 d a b fn)
  | .bcmp y d a b fn => some (wordRRR y.stop 0x32 d a b fn)
  | .bfill y d a b fn => some (wordRRR y.stop 0x33 d a b fn)
  | .cmoWbp y d a => some (wordRRI y.stop 0x34 d a 0)
  | .cmoWbm y d a => some (wordRRI y.stop 0x34 d a 1)
  | .cmoWbmi y d a => some (wordRRI y.stop 0x34 d a 2)
  | .cmoInvd y d a => some (wordRRI y.stop 0x34 d a 3)
  | .cmoZero y d a => some (wordRRI y.stop 0x34 d a 4)
  | .prf y d a i => some (wordRRI y.stop 0x35 d a i)
  | .mul y op d a b => some (wordRRR y.stop 0x40 d a b op.code)
  | .mulWide y sg d a b => some (wordRRR y.stop 0x40 d a b (plusIf 3 sg))
  | .divide y op d a b => some (wordRRR y.stop 0x40 d a b op.code)
  | .macu y n a b => some (wordRRR y.stop 0x41 0 a b (BitVec.ofNat 6 n.val))
  | .macs y n a b => some (wordRRR y.stop 0x41 0 a b (BitVec.ofNat 6 (4 + n.val)))
  | .acclr y n => some (wordRRR y.stop 0x41 0 0 0 (BitVec.ofNat 6 (8 + n.val)))
  | .accshr y n => some (wordRRR y.stop 0x41 0 0 0 (BitVec.ofNat 6 (12 + n.val)))
  | .mvac y high d n => some (wordRRR y.stop 0x41 d 0 0 (BitVec.ofNat 6 ((if high then 20 else 16) + n.val)))
  | .mvtac y n a b => some (wordRRR y.stop 0x41 0 a b (BitVec.ofNat 6 (24 + n.val)))
  | .macd y c a b fn => some (wordRRR y.stop 0x42 c a b fn)
  | .fArith y op dbl d a b => some (wordRRR y.stop (fpOp dbl) d a b op.code)
  | .fDivSqrt y sqrt dbl d a b => some (wordRRR y.stop (fpOp dbl) d a b (plusIf 3 sqrt))
  | .fMinMax y max dbl d a b => some (wordRRR y.stop (fpOp dbl) d a b (plusIf 5 max))
  | .fCmp y op dbl d a b => some (wordRRR y.stop (fpOp dbl) d a b op.code)
  | .fCvtInt y toInt dbl d a => some (wordRRR y.stop (fpOp dbl) d a 0 (plusIf 10 toInt))
  | .fMov y fromF dbl d a => some (wordRRR y.stop (fpOp dbl) d a 0 (plusIf 12 fromF))
  | .fSign y abs dbl d a => some (wordRRR y.stop (fpOp dbl) d a 0 (plusIf 14 abs))
  | .fCvtPrec y toDouble d a => some (wordRRR y.stop 0x48 d a 0 (plusIf 16 toDouble))
  | .fFma y op dbl d a b => some (wordRRR y.stop (fmaOp dbl) d a b op.code)
  | .br y disp => some (BitVec.ofBool y.stop ++ (0x60 : BitVec 7) ++ disp)
  | .call y disp => some (BitVec.ofBool y.stop ++ (0x61 : BitVec 7) ++ disp)
  | .jmpr y a => some (wordRRR y.stop 0x62 0 a 0 0)
  | .callr y a => some (wordRRR y.stop 0x63 0 a 0 0)
  | .ret y => some (wordRRR y.stop 0x64 0 0 0 0)
  | .bcond y op a b disp => some (wordRRI y.stop op.code a b disp)
  | .loop y a disp => some (wordRRI y.stop 0x70 a 0 disp)
  | .loopi y count disp => some (BitVec.ofBool y.stop ++ (0x71 : BitVec 7) ++ count ++ disp)
  | .kcall y i => some (wordRRI y.stop 0x72 0 0 i)
  | .hcall y i => some (wordRRI y.stop 0x73 0 0 i)
  | .mcall y i => some (wordRRI y.stop 0x74 0 0 i)
  | .xret y => some (wordRRI y.stop 0x75 0 0 0)
  | .tbegin y d disp => some (wordRRI y.stop 0x76 d 0 disp)
  | .tcommit y => some (wordRRI y.stop 0x77 0 0 0)
  | .tabort y i => some (wordRRI y.stop 0x78 0 0 i)
  | .fence y => some (wordRRI y.stop 0x79 0 0 0)
  | .dsync y => some (wordRRI y.stop 0x7A 0 0 0)
  | .isync y => some (wordRRI y.stop 0x7B 0 0 0)
  | .pclrOwn y => some (wordRRI y.stop 0x7C 0 0 0)
  | .pclrAll y => some (wordRRI y.stop 0x7C 0 0 1)
  | .mfcr y d num => some (wordRRI y.stop 0x7D d 0 num)
  | .mtcr y d num => some (wordRRI y.stop 0x7E d 0 num)
  | _ => none

/-- The core, stop bit and EXT syllables that a syllable's command carries. -/
def sylOf (i : Instr) : Option Syl :=
  match i with
  | .aluRRR y _ _ _ _ => some y
  | .shiftRRR y _ _ _ _ => some y
  | .minMax y _ _ _ _ => some y
  | .cmpRRR y _ _ _ _ => some y
  | .adds y _ _ _ => some y
  | .subs y _ _ _ => some y
  | .addc y _ _ _ => some y
  | .subc y _ _ _ => some y
  | .countBits y _ _ _ _ => some y
  | .extend y _ _ _ _ => some y
  | .sel y _ _ _ => some y
  | .bswap y _ _ _ => some y
  | .aluImm y _ _ _ _ => some y
  | .shiftImm y _ _ _ _ => some y
  | .cmpImm y _ _ _ _ => some y
  | .movi y _ _ => some y
  | .load y _ _ _ _ => some y
  | .store y _ _ _ _ => some y
  | .loadF y _ _ _ _ => some y
  | .storeF y _ _ _ _ => some y
  | .amo y _ _ _ _ => some y
  | .bcopy y _ _ _ _ => some y
  | .bcmp y _ _ _ _ => some y
  | .bfill y _ _ _ _ => some y
  | .cmoWbp y _ _ => some y
  | .cmoWbm y _ _ => some y
  | .cmoWbmi y _ _ => some y
  | .cmoInvd y _ _ => some y
  | .cmoZero y _ _ => some y
  | .prf y _ _ _ => some y
  | .mul y _ _ _ _ => some y
  | .mulWide y _ _ _ _ => some y
  | .divide y _ _ _ _ => some y
  | .macu y _ _ _ => some y
  | .macs y _ _ _ => some y
  | .acclr y _ => some y
  | .accshr y _ => some y
  | .mvac y _ _ _ => some y
  | .mvtac y _ _ _ => some y
  | .macd y _ _ _ _ => some y
  | .fArith y _ _ _ _ _ => some y
  | .fDivSqrt y _ _ _ _ _ => some y
  | .fMinMax y _ _ _ _ _ => some y
  | .fCmp y _ _ _ _ _ => some y
  | .fCvtInt y _ _ _ _ => some y
  | .fMov y _ _ _ _ => some y
  | .fSign y _ _ _ _ => some y
  | .fCvtPrec y _ _ _ => some y
  | .fFma y _ _ _ _ _ => some y
  | .br y _ => some y
  | .call y _ => some y
  | .jmpr y _ => some y
  | .callr y _ => some y
  | .ret y => some y
  | .bcond y _ _ _ _ => some y
  | .loop y _ _ => some y
  | .loopi y _ _ => some y
  | .kcall y _ => some y
  | .hcall y _ => some y
  | .mcall y _ => some y
  | .xret y => some y
  | .tbegin y _ _ => some y
  | .tcommit y => some y
  | .tabort y _ => some y
  | .fence y => some y
  | .dsync y => some y
  | .isync y => some y
  | .pclrOwn y => some y
  | .pclrAll y => some y
  | .mfcr y _ _ => some y
  | .mtcr y _ _ => some y
  | _ => none

end Machine
end Sys2Proof
end

