-- ==== Sys2Proof/WellFormed.lean ====
section
/-! DEFINITION. Which commands are well formed: what their operand types alone do not say. A meaning does not ask for
it; statements and senders do. -/

namespace Sys2Proof

/-- An access of 8 bytes names no half, and one of 4 bytes carries 32 bits of data (R7). -/
def RegW.wf (w : RegW) : Bool := if w.wide then !w.high else decide (w.val.toNat < 2 ^ 32)

/-- A read of 8 bytes names no half (R7). -/
def RegR.wf (r : RegR) : Bool := !(r.wide && r.high)

/-- At most two EXT syllables stand before a syllable (R182); a third makes the bundle illegal (R184). -/
def Syl.wf (y : Syl) : Bool := decide (y.ext.length ≤ 2)

/-- A flit carries at most 240 bytes (R169). -/
def Flit.wf (f : Flit) : Bool := decide (f.payload.length ≤ 240)

/-- A register access of the REG_WRITE row: 4 or 8 aligned bytes (R7). -/
def regWriteWf (addr : BitVec 46) (size : Nat) (val : Word) : Bool :=
  (decide (size = 8) || (decide (size = 4) && decide (val.toNat < 2 ^ 32))) && decide (addr.toNat % size = 0)

/-- The form of a command: its syllable, register access or flit is well formed. -/
def Instr.wf (i : Instr) : Bool :=
  match i with
  | .regWrite _ addr size val => regWriteWf addr size val
  | .laneReady _ => true
  | .laneLoss _ => true
  | .laneWithhold _ _ w => w.wf
  | .anResolved _ _ _ _ => true
  | .anRestartTimer _ => true
  | .linkTrainingDone _ _ => true
  | .trainTimeout _ => true
  | .floorFailRetry _ => true
  | .floorFailRestore _ => true
  | .macLinkUp _ _ => true
  | .macLinkDown _ _ => true
  | .restart _ w => w.wf
  | .rxFrameEnd _ _ _ _ _ => true
  | .rxCellExhausted _ _ => true
  | .rxFlowControlFrame _ _ => true
  | .pauseTimerExpire _ _ => true
  | .pfcThresholdRecheck _ => true
  | .flowControlFrameTx _ => true
  | .fcRefresh _ => true
  | .intake _ => true
  | .pTier _ => true
  | .kTier _ => true
  | .aTier _ => true
  | .saFetchDone _ _ _ => true
  | .jetDispatch _ _ _ => true
  | .jetOutputChecked _ => true
  | .rejoin _ => true
  | .vTier _ => true
  | .eTier _ => true
  | .mTier _ => true
  | .deepWrite => true
  | .deepStageRead _ => true
  | .injectDesc _ _ => true
  | .weirPick _ _ => true
  | .txFrameEnd _ _ => true
  | .txtsRead _ r => r.wf
  | .mgdmaRxFrame _ => true
  | .mgdmaTxDesc _ => true
  | .mgdmaResume _ _ => true
  | .hello _ => true
  | .offer _ => true
  | .select _ => true
  | .confirm _ => true
  | .beat _ => true
  | .sppHelloTimer _ => true
  | .sppStepTimer _ => true
  | .sppBeatTimer _ => true
  | .sppBeatMiss _ => true
  | .sppRetryTimer _ => true
  | .reneg _ w => w.wf
  | .downActChange _ w => w.wf
  | .sppSlotTx _ => true
  | .bitStage w => w.wf
  | .bitAbort w => w.wf
  | .bitLoadEnd => true
  | .bootBitstreamLoad _ => true
  | .scCreate => true
  | .saInstall => true
  | .txSwitch => true
  | .saRetire => true
  | .saRemove => true
  | .scDelete => true
  | .slotInstall => true
  | .slotRemove => true
  | .query => true
  | .saNotAfter _ _ => true
  | .saEvtRead _ r => r.wf
  | .saRegionInvalidate w => w.wf
  | .jetFault _ => true
  | .jetRotation => true
  | .jetDrainEnd _ => true
  | .jetSelfTestDone _ _ => true
  | .jetTest _ w => w.wf
  | .jetFence _ w => w.wf
  | .jetInjectParity _ w => w.wf
  | .sluOpenRead r => r.wf
  | .write => true
  | .release => true
  | .arm => true
  | .discard => true
  | .sealComplete _ => true
  | .epochSwitch => true
  | .drainEnd => true
  | .armTimeout _ => true
  | .prepareMsg => true
  | .voteMsg => true
  | .decideMsg => true
  | .abortMsg => true
  | .voteDeadline _ => true
  | .prepareVoteSend _ _ => true
  | .presumeTimer _ => true
  | .txnRecordExpire _ _ => true
  | .rdgLctrlWrite _ w => w.wf
  | .trainFlit _ _ _ _ _ _ => true
  | .rlEqualiseDone _ _ => true
  | .rlTrainTimeout _ => true
  | .rlRetryTimer _ => true
  | .frameFlit _ f _ => f.wf
  | .reqFlit _ f => f.wf
  | .rspFlit _ f => f.wf
  | .sluiceFlit _ f => f.wf
  | .doorbellFlit _ f => f.wf
  | .linkFlit _ f => f.wf
  | .rlNoFlitTimeout _ => true
  | .rlRetrainTimer _ => true
  | .streamRouteMove _ _ _ _ => true
  | .doorbellSend w => w.wf
  | .doorbellRead _ r => r.wf
  | .aluRRR y _ _ _ _ => y.wf
  | .shiftRRR y _ _ _ _ => y.wf
  | .minMax y _ _ _ _ => y.wf
  | .cmpRRR y _ _ _ _ => y.wf
  | .adds y _ _ _ => y.wf
  | .addc y _ _ _ => y.wf
  | .subs y _ _ _ => y.wf
  | .subc y _ _ _ => y.wf
  | .countBits y _ _ _ _ => y.wf
  | .extend y _ _ _ _ => y.wf
  | .sel y _ _ _ => y.wf
  | .bswap y _ _ _ => y.wf
  | .aluImm y _ _ _ _ => y.wf
  | .shiftImm y _ _ _ _ => y.wf
  | .cmpImm y _ _ _ _ => y.wf
  | .movi y _ _ => y.wf
  | .load y _ _ _ _ => y.wf
  | .store y _ _ _ _ => y.wf
  | .loadF y _ _ _ _ => y.wf
  | .storeF y _ _ _ _ => y.wf
  | .amo y _ _ _ _ => y.wf
  | .bcopy y _ _ _ _ => y.wf
  | .bcmp y _ _ _ _ => y.wf
  | .bfill y _ _ _ _ => y.wf
  | .cmoWbp y _ _ => y.wf
  | .cmoWbm y _ _ => y.wf
  | .cmoWbmi y _ _ => y.wf
  | .cmoInvd y _ _ => y.wf
  | .cmoZero y _ _ => y.wf
  | .prf y _ _ _ => y.wf
  | .mul y _ _ _ _ => y.wf
  | .mulWide y _ _ _ _ => y.wf
  | .divide y _ _ _ _ => y.wf
  | .macu y _ _ _ => y.wf
  | .macs y _ _ _ => y.wf
  | .acclr y _ => y.wf
  | .accshr y _ => y.wf
  | .mvac y _ _ _ => y.wf
  | .mvtac y _ _ _ => y.wf
  | .macd y _ _ _ _ => y.wf
  | .fArith y _ _ _ _ _ => y.wf
  | .fDivSqrt y _ _ _ _ _ => y.wf
  | .fMinMax y _ _ _ _ _ => y.wf
  | .fCmp y _ _ _ _ _ => y.wf
  | .fCvtInt y _ _ _ _ => y.wf
  | .fMov y _ _ _ _ => y.wf
  | .fSign y _ _ _ _ => y.wf
  | .fCvtPrec y _ _ _ => y.wf
  | .fFma y _ _ _ _ _ => y.wf
  | .br y _ => y.wf
  | .call y _ => y.wf
  | .callr y _ => y.wf
  | .jmpr y _ => y.wf
  | .ret y => y.wf
  | .bcond y _ _ _ _ => y.wf
  | .loop y _ _ => y.wf
  | .loopi y _ _ => y.wf
  | .kcall y _ => y.wf
  | .hcall y _ => y.wf
  | .mcall y _ => y.wf
  | .xret y => y.wf
  | .tbegin y _ _ => y.wf
  | .tcommit y => y.wf
  | .tabort y _ => y.wf
  | .fence y => y.wf
  | .dsync y => y.wf
  | .isync y => y.wf
  | .pclrOwn y => y.wf
  | .pclrAll y => y.wf
  | .mfcr y _ _ => y.wf
  | .mtcr y _ _ => y.wf
  | .cachectlWrite y _ => y.wf
  | .tlbinvRegime y _ => y.wf
  | .tlbinvAsid y _ => y.wf
  | .tlbinvVaAsid y _ => y.wf
  | .tlbinvVa y _ => y.wf
  | .tlbinvVmid y _ => y.wf
  | .tlbinvIpa y _ => y.wf
  | .tlbinvWorld y _ => y.wf
  | .dtbNow y _ => y.wf
  | .sptClaim y _ => y.wf
  | .interruptEntry _ _ => true
  | .longOpLand _ _ => true
  | .mbEntryDrain _ _ => true
  | .rdS _ _ _ => true
  | .rdU _ _ => true
  | .upgrade _ _ => true
  | .wb _ _ => true
  | .wbk _ _ => true
  | .evict _ _ => true
  | .rdNc _ => true
  | .wrNc _ _ _ => true
  | .amoAtHome _ _ _ _ _ => true
  | .snpShare _ _ => true
  | .snpInv _ _ => true
  | .unpin _ _ _ => true
  | .abortOrder _ _ _ => true
  | .l2opClean _ w => w.wf
  | .l2opCleanInvalidate _ w => w.wf
  | .l2WalkDone _ => true
  | .polSramWrite _ w => w.wf
  | .sramConversionDone _ => true
  | .cisTrainDone _ _ => true
  | .cisRead _ _ => true
  | .cisWrite _ _ _ _ => true
  | .scrubRead _ _ _ => true
  | .mapout _ w => w.wf
  | .reserveSet w => w.wf
  | .reserveFillDone => true
  | .cairnBoundary _ => true
  | .lockstepMismatch _ => true
  | .cairnRestartDone _ => true
  | .comparatorTestDone _ _ => true
  | .crnOut _ w => w.wf
  | .crnTest _ w => w.wf
  | .crnTestDone _ _ => true
  | .crnReturn _ w => w.wf
  | .crnInjectFlip _ w => w.wf
  | .channelFail _ _ _ => true
  | .casQuiesce _ w => w.wf
  | .channelQuiesced _ => true
  | .casTest _ w => w.wf
  | .casTestDone _ _ => true
  | .casReturn _ w => w.wf
  | .poolSliceUe _ => true
  | .poolFenceCmd _ w => w.wf
  | .poolFenceDone _ => true
  | .spillBankFail _ => true
  | .errRec3Read r => r.wf
  | .errDone w => w.wf
  | .sourceEvent _ _ => true
  | .timerCompare _ _ => true
  | .sptRaise w => w.wf
  | .sptIpi w => w.wf
  | .sptClr _ _ w => w.wf
  | .sptSenseChange w => w.wf
  | .sptRetarget w => w.wf
  | .thawResume _ w => w.wf
  | .thawReset _ w => w.wf
  | .powerOn => true
  | .resetN => true
  | .pwrReset w => w.wf
  | .meshUe => true
  | .controlParity => true
  | .supply => true
  | .imageStreamStart _ _ => true
  | .imageVerifyDone _ => true
  | .pwrStart w => w.wf
  | .pwrBasinrst w => w.wf
  | .keyRevoke w => w.wf
  | .pwrReq w => w.wf
  | .domainChangeDone _ => true
  | .coreWake _ => true
  | .clkFreqWrite _ w => w.wf
  | .clkFreqApply _ => true
  | .dtbSet w => w.wf
  | .dtbStepApply => true
  | .dtbAdj w => w.wf
  | .ppsEdge => true
  | .avsPoll _ => true
  | .voutCommand _ => true
  | .refclkSysStop => true
  | .refclkSrdStop => true
  | .thermtrip => true
  | .bypass _ => true
  | .idcode => true
  | .samplePreload _ _ => true
  | .extest _ _ => true
  | .clamp _ => true
  | .highz _ => true
  | .extestPulse _ _ => true
  | .extestTrain _ _ => true
  | .dap _ _ _ _ => true
  | .nonce => true
  | .auth _ => true
  | .jtagLoad _ => true
  | .fuse _ => true
  | .jtagReset => true
  | .dbgAuthWrite w => w.wf
  | .halt w => w.wf
  | .haltAccept _ => true
  | .resume w => w.wf
  | .debugStep w => w.wf
  | .itrInject _ w => w.all RegW.wf
  | .breakpointHit _ => true
  | .watchpointHit _ _ => true
  | .traceOverflow _ => true
  | .traceSyncTimer _ => true
  | .traceDmaWrite _ => true
  | .functionReady _ => true
  | .illegalBundle _ => true
  | .iabort _ => true
  | .saBadOp => true
  | .sluBadOp => true
  | .flitCrcError _ => true
  | .rlDetect _ _ => true
  | .lentXoffFlit _ f => f.wf
  | .cairnAbort _ => true
  | .supplyRestored => true
  | .pmbAlert => true

end Sys2Proof
end

