-- ==== Sys2Proof/Safety.lean ====
section
/-! DEFINITION. What a safe run of the block is: the sparse stores keep their one form, and the permanent records (revoked
key slots, DENY bits, minimum versions) never go back. -/

namespace Sys2Proof.Machine

/-- The cistern's bytes are in their one form: addresses strictly rising, no byte 0 listed. -/
def State.memWf (s : State) : Bool := sparseWf (fun _ => (0 : Byte)) s.mem

/-- The registers are in their one form: keys strictly rising, none listed at its reset value. -/
def State.regsWf (s : State) : Bool := sparseWf regDefault s.regs

/-- The global sources are in their one form: numbers strictly rising, none listed as it is before the platform section. -/
def State.srcsWf (s : State) : Bool := sparseWf Source.dfltGlobal s.srcs

/-- The sparse stores of the state are in their one form: equal contents are equal data. -/
def State.wf (s : State) : Bool := s.memWf && s.regsWf && s.srcsWf

/-- The fuses of `b` keep what those of `a` record for good (R342, R356): revoked slots, DENY bits, minimum versions. -/
def Fuses.keeps (a b : Fuses) : Prop :=
  a.revoked &&& b.revoked = a.revoked ∧ a.deny &&& b.deny = a.deny
    ∧ a.bitSvnMin ≤ b.bitSvnMin ∧ a.bootSvnMin ≤ b.bootSvnMin

/-! The vocabulary of statements about cores. -/

/-- A core of a split pair that stands between two bundles with nothing in flight: it runs, no result or control write is
on its way, no loop is armed, and neither debug nor trace looks at it. -/
structure State.Still (s : State) (c : CoreId) : Prop where
  runs : s.coreRuns c = true
  split : s.locked (pairOf c) = false
  bundle : (s.core c).bundle = Bundle.empty
  pend : (s.core c).pend = []
  ctl : (s.core c).ctl = []
  longs : (s.core c).longs = []
  undo : (s.core c).undo = none
  fetched : (s.core c).fetched = []
  waiting : (s.core c).waiting = none
  loop : (s.core c).arch.lpc = 0
  inject : (s.core c).dbg.inject = false
  step : (s.core c).dbg.stepping = false
  watched : (s.core c).dbg.watched = 0
  debug : s.invasive c = false
  trace : s.traceOn c = false
  stream : (s.trace.get c).live = false

/-- A still core outside any transaction. -/
structure State.Quiet (s : State) (c : CoreId) : Prop extends s.Still c where
  txn : (s.core c).txn = none

/-- A syllable that is the whole bundle of its core, with its EXT syllables before it: it carries the stop bit, and the
bundle crosses no 64-byte boundary (R182, R184). -/
structure WholeSyl (y : Syl) (s : State) : Prop where
  stop : y.stop = true
  ext : y.ext.length ≤ 2
  fits : (s.core y.core).arch.pc.toNat % 64 / 4 + (1 + y.ext.length) ≤ 16

/-- A core after a bundle of `n` syllables that only changes registers: `a` the registers with what has landed, `p` the
results of fixed latency still on their way, `l` the long operations begun. -/
def State.retired (s : State) (c : CoreId) (n : Nat) (a : CoreArch) (p : List PendWrite) (l : List LongOp) : State :=
  s.modCore c (fun k => { k with bn := k.bn + 1, arch := { a with pc := k.arch.pc + BitVec.ofNat 64 (4 * n) },
                                 pend := p, longs := l })

/-- A core after a bundle whose accesses have left the device in state `t`: it stands at `pc`, with results of fixed
latency and long operations on their way. -/
def State.accessed (t : State) (c : CoreId) (pc : Word) (p : List PendWrite) (l : List LongOp) : State :=
  t.modCore c (fun k => { k with bn := k.bn + 1, arch := { k.arch with pc := pc }, pend := p, longs := l })

/-- A write of a named register arrives at its block: the master is not frozen, the device runs, the guard grants the
access and the block is served (R7, R22, R24, R292). -/
structure State.Takes (s : State) (w : RegW) (b off : Nat) : Prop where
  thawed : s.frozen w.acc.src = false
  going : s.stopped = false
  granted : ∃ r wr x, s.guard w.acc (regAddr b (regOff w off)) (regSize w) .write = .ok r wr x
  served : s.devOk b (regOff w off) (regSize w) = true
  form : off % 8 = 0 ∧ w.wf = true

/-- Nothing that a read at a VA would find lies in a ridge window. -/
def State.readsHere (s : State) (c : CoreId) (va : Word) (n : Nat) : Bool :=
  match (s.xlate c va n .read).2 with
  | .ok (l, _) => l.all (fun p => decide (p.1 < ridgeBase))
  | .error _ => true

/-- A VA does not lead into a ridge window. -/
def State.leadsHere (s : State) (c : CoreId) (va : Word) : Bool :=
  match (s.translate c va .read).2 with
  | .ok (pa, _) => decide (pa < ridgeBase)
  | .error _ => true

/-- The registers of a core. -/
def State.arch (s : State) (c : CoreId) : CoreArch := (s.core c).arch

/-- A g-register written: g0 discards, g63 is the bank of the own state (R186). -/
def CoreArch.gput (a : CoreArch) (d : BitVec 6) (v : Word) : CoreArch := a.put (a.gdst d) (v.setWidth 128)

end Sys2Proof.Machine
end

