-- ==== Sys2Proof/Certificates/Slice0/Obligations.lean ====
section
/-! DEFINITION. The statements for the provers. -/

open Sys2Proof Sys2Proof.Machine

/-- Step runs the command at the front of the queue on the state with the queue's rest. -/
def Obligations.StepRunsFront : Prop :=
  ∀ (c : Instr) (rest : List Instr) (s : State),
    Machine.step { s with pending := c :: rest } = Machine.exec c { s with pending := rest }

/-- Whole I-class syllables of R204 on a quiet core: each answers the next state in which its result is in gd (g0 discards),
FL is as R194 says, the pc stands after the bundle, and nothing else has changed. Whole immediate syllables of R204 on a
quiet core, with none, one or two EXT before them (R190): the immediate is the sign-extended concatenation, and the pc moves
past the EXT syllables too. -/
def Obligations.IntegerResults : Prop :=
  (∀ (s : State) (y : Syl) (d a b : BitVec 6), s.Quiet y.core → WholeSyl y s → y.ext = [] →
    let r := s.arch y.core
    let x := r.gval a
    let z := r.gval b
    let done (v : Word) := (Host.Outcome.next (s.retired y.core 1 (r.gput d v) [] []) : Host.Outcome State Fault Refusal)
    let doneFl (v : Word) (c ov : Bool) := (Host.Outcome.next
      (s.retired y.core 1 (CoreArch.gput { r with flC := c, flOV := r.flOV || ov } d v) [] []) : Host.Outcome State Fault Refusal)
    (exec (.aluRRR y .add d a b) s = done (x + z)
      ∧ exec (.aluRRR y .sub d a b) s = done (x - z)
      ∧ exec (.aluRRR y .and d a b) s = done (x &&& z)
      ∧ exec (.aluRRR y .or d a b) s = done (x ||| z)
      ∧ exec (.aluRRR y .xor d a b) s = done (x ^^^ z)
      ∧ exec (.aluRRR y .andn d a b) s = done (x &&& ~~~z))
    ∧ (exec (.shiftRRR y .shl d a b) s = done (x <<< (z.toNat % 64))
      ∧ exec (.shiftRRR y .shr d a b) s = done (x >>> (z.toNat % 64))
      ∧ exec (.shiftRRR y .sar d a b) s = done (x.sshiftRight (z.toNat % 64))
      ∧ exec (.shiftRRR y .rol d a b) s = done (x.rotateLeft (z.toNat % 64))
      ∧ exec (.shiftRRR y .ror d a b) s = done (x.rotateRight (z.toNat % 64)))
    ∧ (exec (.minMax y .min d a b) s = done (if x.slt z then x else z)
      ∧ exec (.minMax y .max d a b) s = done (if x.slt z then z else x)
      ∧ exec (.minMax y .minu d a b) s = done (if x.toNat < z.toNat then x else z)
      ∧ exec (.minMax y .maxu d a b) s = done (if x.toNat < z.toNat then z else x))
    ∧ (exec (.cmpRRR y .eq d a b) s = done (if x = z then 1 else 0)
      ∧ exec (.cmpRRR y .ne d a b) s = done (if x = z then 0 else 1)
      ∧ exec (.cmpRRR y .lt d a b) s = done (if x.toInt < z.toInt then 1 else 0)
      ∧ exec (.cmpRRR y .ltu d a b) s = done (if x.toNat < z.toNat then 1 else 0)
      ∧ exec (.cmpRRR y .le d a b) s = done (if x.toInt ≤ z.toInt then 1 else 0)
      ∧ exec (.cmpRRR y .leu d a b) s = done (if x.toNat ≤ z.toNat then 1 else 0))
    ∧ exec (.sel y d a b) s = done (if r.gval d ≠ 0 then x else z)
    ∧ exec (.adds y d a b) s = doneFl (x + z) (decide (2 ^ 64 ≤ x.toNat + z.toNat)) (outOfRange (x.toInt + z.toInt))
    ∧ exec (.addc y d a b) s = doneFl (x + z + b2w r.flC) (decide (2 ^ 64 ≤ x.toNat + z.toNat + r.carry))
        (outOfRange (x.toInt + z.toInt + (r.carry : Int)))
    ∧ exec (.subs y d a b) s = doneFl (x - z) (decide (x.toNat < z.toNat)) (outOfRange (x.toInt - z.toInt))
    ∧ exec (.subc y d a b) s = doneFl (x - z - b2w r.flC) (decide (x.toNat < z.toNat + r.carry))
        (outOfRange (x.toInt - z.toInt - (r.carry : Int)))
    ∧ (b = 0 → exec (.countBits y .clz d a b) s = done (if x = 0 then 64 else BitVec.ofNat 64 (63 - x.toNat.log2))
      ∧ exec (.countBits y .popc d a b) s = done (BitVec.ofNat 64 ((List.range 64).filter (fun i => x.getLsbD i)).length)
      ∧ (x = 0 → exec (.countBits y .ctz d a b) s = done 64)
      ∧ (∀ n < 64, x.getLsbD n = true → (∀ m < n, x.getLsbD m = false) →
          exec (.countBits y .ctz d a b) s = done (BitVec.ofNat 64 n)))
    ∧ (b = 0 → exec (.extend y .sextb d a b) s = done ((x.setWidth 8).signExtend 64)
      ∧ exec (.extend y .sexth d a b) s = done ((x.setWidth 16).signExtend 64)
      ∧ exec (.extend y .sextw d a b) s = done ((x.setWidth 32).signExtend 64)
      ∧ exec (.extend y .zextw d a b) s = done ((x.setWidth 32).setWidth 64))
    ∧ (b = 0 → exec (.bswap y d a b) s = done (BitVec.ofNat 64 (leNat (leBytes 8 x.toNat).reverse)))
    ∧ (∀ (op : ShiftImmOp) (n : BitVec 12), n.toNat < 64 → exec (.shiftImm y op d a n) s = done (match op with
        | .shli => x <<< n.toNat
        | .shri => x >>> n.toNat
        | .sari => x.sshiftRight n.toNat)))
  ∧ (∀ (s : State) (y : Syl) (d a : BitVec 6) (i : BitVec 12) (j : BitVec 18), s.Quiet y.core → WholeSyl y s →
    let r := s.arch y.core
    let x := r.gval a
    let n := 1 + y.ext.length
    let done (v : Word) := (Host.Outcome.next (s.retired y.core n (r.gput d v) [] []) : Host.Outcome State Fault Refusal)
    let m : Word := match y.ext with
      | [] => i.signExtend 64
      | [e] => (e ++ i).signExtend 64
      | e :: f :: _ => (e ++ f ++ i).signExtend 64
    let q : Word := match y.ext with
      | [] => j.signExtend 64
      | [e] => (e ++ j).signExtend 64
      | e :: f :: _ => (e ++ f ++ j).setWidth 64
    exec (.aluImm y .addi d a i) s = done (x + m)
    ∧ exec (.aluImm y .andi d a i) s = done (x &&& m)
    ∧ exec (.aluImm y .ori d a i) s = done (x ||| m)
    ∧ exec (.aluImm y .xori d a i) s = done (x ^^^ m)
    ∧ exec (.cmpImm y .eqi d a i) s = done (if x = m then 1 else 0)
    ∧ exec (.cmpImm y .lti d a i) s = done (if x.toInt < m.toInt then 1 else 0)
    ∧ exec (.cmpImm y .ltui d a i) s = done (if x.toNat < m.toNat then 1 else 0)
    ∧ exec (.movi y d j) s = done q)

/-- R195, with the latency 4 of R206: a whole MULWU or MULWS puts the low half of the 128-bit product on its way to gd and
the high half to g(d + 1), both for the 4th bundle after; with d = 0 the low half goes to g0, which discards it; with d odd
or above 60 the bundle takes ILLEGAL. -/
def Obligations.WideProducts : Prop :=
  ∀ (s : State) (y : Syl) (d a b : BitVec 6) (signed : Bool), s.Quiet y.core → WholeSyl y s → y.ext = [] →
    let r := s.arch y.core
    let x := r.gval a
    let z := r.gval b
    let p : BitVec 128 := if signed then BitVec.ofInt 128 (x.toInt * z.toInt) else BitVec.ofNat 128 (x.toNat * z.toNat)
    let due := (s.core y.core).bn + 4
    (d.toNat % 2 = 0 → d.toNat ≤ 60 → exec (.mulWide y signed d a b) s = .next (s.retired y.core 1 r
      [⟨r.gdst d, (p.extractLsb' 0 64).setWidth 128, due, 0⟩, ⟨r.gdst (d + 1), (p.extractLsb' 64 64).setWidth 128, due, 0⟩] []))
    ∧ (d.toNat % 2 = 1 ∨ 60 < d.toNat → exec (.mulWide y signed d a b) s = .next (s.raise y.core (illegalExc r.pc) r.pc))

/-- MUL, MULHU and MULHS (R206): the low product, or the unsigned or signed high product, on its way to gd for the 4th bundle
after. R213: what DIV, DIVU, REM and REMU leave, edges included: a zero divisor with CTL.DIVTRAP = 1 takes DIVZERO on the
bundle; otherwise the result goes to gd as a long operation whose pending mark holds from the next bundle on, and OV is set
in the case −2^63 / −1 of DIV and REM only. -/
def Obligations.Products : Prop :=
  (∀ (s : State) (y : Syl) (d a b : BitVec 6), s.Quiet y.core → WholeSyl y s → y.ext = [] →
    let r := s.arch y.core
    let x := r.gval a
    let z := r.gval b
    let done (v : Word) := (Host.Outcome.next (s.retired y.core 1 r [⟨r.gdst d, v.setWidth 128, (s.core y.core).bn + 4, 0⟩] []) :
      Host.Outcome State Fault Refusal)
    exec (.mul y .mul d a b) s = done (x * z)
    ∧ exec (.mul y .mulhu d a b) s = done (BitVec.ofNat 64 (x.toNat * z.toNat / 2 ^ 64))
    ∧ exec (.mul y .mulhs d a b) s = done (BitVec.ofInt 64 (x.toInt * z.toInt / 2 ^ 64)))
  ∧ (∀ (s : State) (y : Syl) (op : DivOp) (d a b : BitVec 6), s.Quiet y.core → WholeSyl y s → y.ext = [] →
    let r := s.arch y.core
    let x := r.gval a
    let z := r.gval b
    let sgn := decide (op = .div ∨ op = .rem)
    let quot := decide (op = .div ∨ op = .divu)
    let lone := sgn && decide (x.toInt = -(2 ^ 63)) && decide (z.toInt = -1)
    (z = 0 → r.divTrap = true →
      exec (.divide y op d a b) s = .next (s.raise y.core (Exc.mk0 .divzero 0 .read) r.pc))
    ∧ (z ≠ 0 ∨ r.divTrap = false →
      ∃ v : Word, exec (.divide y op d a b) s = .next
          (s.retired y.core 1 (if lone then { r with flOV := true } else r) []
            [⟨r.gdst d, v.setWidth 128, 0, .div, (s.core y.core).bn + 1, [], none, (0, false), false⟩])
        ∧ (z = 0 → v = if quot then 0 else x)
        ∧ (lone = true → v = if quot then x else 0)
        ∧ (z ≠ 0 → sgn = true → lone = false →
            v.toInt = if quot then x.toInt.tdiv z.toInt else x.toInt.tmod z.toInt)
        ∧ (z ≠ 0 → sgn = false → v.toNat = if quot then x.toNat / z.toNat else x.toNat % z.toNat)))

/-- R196: the accumulator operations on a quiet core. A chain reader of the next bundle reads through `Core.accChain` what is
on its way here, and MVACL and MVACH read the accumulator as it has landed; every result is due in 4 bundles. R197 on a quiet
core whose two fetches hit: the accumulator and the carry register are on their way for the 6th bundle after, the two
pointers have stepped for the next. -/
def Obligations.Accumulators : Prop :=
  (∀ (s : State) (y : Syl) (n : Fin 4) (d a b : BitVec 6), s.Quiet y.core → WholeSyl y s → y.ext = [] →
    let r := s.arch y.core
    let x := r.gval a
    let z := r.gval b
    let acc := r.acc.get n
    let due := (s.core y.core).bn + 4
    let accTo (v : BitVec 128) := (Host.Outcome.next (s.retired y.core 1 r [⟨.acc n, v, due, 0⟩] []) : Host.Outcome State Fault Refusal)
    let gTo (v : Word) := (Host.Outcome.next (s.retired y.core 1 r [⟨r.gdst d, v.setWidth 128, due, 0⟩] []) : Host.Outcome State Fault Refusal)
    exec (.macu y n a b) s = accTo (acc + BitVec.ofNat 128 (x.toNat * z.toNat))
    ∧ exec (.macs y n a b) s = accTo (acc + BitVec.ofInt 128 (x.toInt * z.toInt))
    ∧ exec (.acclr y n) s = accTo 0
    ∧ exec (.accshr y n) s = accTo (acc >>> 64)
    ∧ exec (.mvtac y n a b) s = accTo (z ++ x)
    ∧ exec (.mvac y false d n) s = gTo (acc.extractLsb' 0 64)
    ∧ exec (.mvac y true d n) s = gTo (acc.extractLsb' 64 64)
    ∧ (∀ (k : Core) (v : BitVec 128) (due : Nat), k.pend = [⟨.acc n, v, due, 0⟩] → k.accChain n = v))
  ∧ (∀ (s t u : State) (y : Syl) (g a b fn : BitVec 6) (xv zv : MemVal) (l m : List (Nat × Nat × Word)) (ty tz : RType),
    s.Quiet y.core → WholeSyl y s → y.ext = [] → u.Quiet y.core →
    (u.core y.core).bn = (s.core y.core).bn → fn.toNat % 4 ≠ 3 → fn.toNat / 4 % 4 ≠ 3 → (a ≠ b ∨ a = 0) → (a ≠ g ∨ a = 0) → (b ≠ g ∨ b = 0) →
    let c := y.core
    let r := s.arch c
    let va := r.gval a
    let vb := r.gval b
    let n : Fin 4 := Fin.ofNat 4 (fn.toNat / 16)
    let step (code : Nat) : Word := if code = 1 then 8 else if code = 2 then -8 else 0
    va.toNat % 8 = 0 → vb.toNat % 8 = 0 →
    (s.xlate c va 8 .read).2 = .ok (l, ty) → ty.isDevice = false → (∀ p ∈ l, p.1 < ridgeBase) →
    (s.xlate c vb 8 .read).2 = .ok (m, tz) → tz.isDevice = false → (∀ p ∈ m, p.1 < ridgeBase) →
    s.loadAt c va 8 = (t, .ok xv) → t.loadAt c vb 8 = (u, .ok zv) →
    xv.hit = true → zv.hit = true → xv.poison = false → zv.poison = false →
    let sum := (r.acc.get n).toNat + leNat xv.bytes * leNat zv.bytes
    let due := (u.core c).bn + 6
    exec (.macd y g a b fn) s = .next ((u.modArch c (fun q =>
        (q.put (r.gdst a) ((va + step (fn.toNat / 4 % 4)).setWidth 128)).put (r.gdst b) ((vb + step (fn.toNat % 4)).setWidth 128))).accessed
      c (r.pc + 4)
      [⟨.acc n, BitVec.ofNat 128 sum, due, 0⟩,
       ⟨r.gdst g, ((if g = 0 then 0 else r.gval g) + BitVec.ofNat 64 (sum / 2 ^ 128)).setWidth 128, due, 0⟩] []))

/-- The floating-point syllables of R206 on a quiet core: a result whose flags no FPC.TRAPEN bit names is on its way with its
flags, for the bundle that R211 says or as a long operation; one whose flags meet a TRAPEN bit takes FPTRAP with them (R219);
the copies of FMOV, FNEG and FABS raise no flag and are visible for the next bundle. -/
def Obligations.FloatResults : Prop :=
  ∀ (s : State) (y : Syl) (d a b : BitVec 6) (dbl : Bool), s.Quiet y.core → WholeSyl y s → y.ext = [] →
    let r := s.arch y.core
    let f := if dbl then Fmt.d else Fmt.s
    let x := r.fop dbl a
    let z := r.fop dbl b
    let w := r.fop dbl d
    let fd : Dst := .f (Fin.ofNat 32 d.toNat)
    let trap (v : Word × BitVec 5) := (Host.Outcome.next (s.raise y.core { Exc.mk0 .fptrap 0 .read with fpflags := v.2 } r.pc) :
      Host.Outcome State Fault Refusal)
    let fixed (dst : Dst) (v : Word × BitVec 5) (lat : Nat) (i : Instr) := exec i s = if v.2 &&& r.trapEn = 0 then
        .next (s.retired y.core 1 r [⟨dst, v.1.setWidth 128, (s.core y.core).bn + lat, v.2⟩] []) else trap v
    let long (v : Word × BitVec 5) (i : Instr) := exec i s = if v.2 &&& r.trapEn = 0 then
        .next (s.retired y.core 1 r [] [⟨fd, v.1.setWidth 128, v.2, .fdiv, (s.core y.core).bn + 1, [], none, (0, false), false⟩])
        else trap v
    let copy (dst : Dst) (v : Word) (i : Instr) := exec i s = .next (s.retired y.core 1 (r.put dst (v.setWidth 128)) [] [])
    let raw := r.fval a
    let low : Word := if dbl then raw else (raw.setWidth 32).setWidth 64
    let sign : Word := if dbl then 0x8000000000000000 else 0x80000000
    (a.toNat < 32 → b.toNat < 32 →
      fixed (r.gdst d) (b2w (fpCmp 0 x z).1, (fpCmp 0 x z).2) 2 (.fCmp y .eq dbl d a b)
      ∧ fixed (r.gdst d) (b2w (fpCmp 1 x z).1, (fpCmp 1 x z).2) 2 (.fCmp y .lt dbl d a b)
      ∧ fixed (r.gdst d) (b2w (fpCmp 2 x z).1, (fpCmp 2 x z).2) 2 (.fCmp y .le dbl d a b)
      ∧ fixed (r.gdst d) (fpToInt r.rm x) 3 (.fCvtInt y true dbl d a)
      ∧ copy (r.gdst d) low (.fMov y true dbl d a)
      ∧ (d.toNat < 32 →
        fixed fd (fpAdd f r.rm r.ftz x z) 4 (.fArith y .fadd dbl d a b)
        ∧ fixed fd (fpAdd f r.rm r.ftz x z.neg) 4 (.fArith y .fsub dbl d a b)
        ∧ fixed fd (fpMul f r.rm r.ftz x z) 4 (.fArith y .fmul dbl d a b)
        ∧ long (fpDiv f r.rm r.ftz x z) (.fDivSqrt y false dbl d a b)
        ∧ (b = 0 → long (fpSqrt f r.rm r.ftz x) (.fDivSqrt y true dbl d a b))
        ∧ fixed fd (fpMinMax f false x z) 2 (.fMinMax y false dbl d a b)
        ∧ fixed fd (fpMinMax f true x z) 2 (.fMinMax y true dbl d a b)
        ∧ fixed fd (fpConvert .d r.rm r.ftz (r.fop false a)) 3 (.fCvtPrec y true d a)
        ∧ fixed fd (fpConvert .s r.rm r.ftz (r.fop true a)) 3 (.fCvtPrec y false d a)
        ∧ fixed fd (fpFma f r.rm r.ftz x z w) 4 (.fFma y .fma dbl d a b)
        ∧ fixed fd (fpFma f r.rm r.ftz x z w.neg) 4 (.fFma y .fms dbl d a b)
        ∧ fixed fd (fpFma f r.rm r.ftz x.neg z w) 4 (.fFma y .fnma dbl d a b)
        ∧ fixed fd (fpFma f r.rm r.ftz x.neg z w.neg) 4 (.fFma y .fnms dbl d a b)
        ∧ copy fd (low ^^^ sign) (.fSign y false dbl d a)
        ∧ copy fd (low &&& ~~~sign) (.fSign y true dbl d a)))
    ∧ (d.toNat < 32 →
      fixed fd (fpOfInt f r.rm r.ftz (r.gval a)) 3 (.fCvtInt y false dbl d a)
      ∧ copy fd (if dbl then r.gval a else ((r.gval a).setWidth 32).setWidth 64) (.fMov y false dbl d a))

/-- The operands of R220 in binary64: the smallest subnormal, the largest finite value, the smallest normal, infinity. -/
def Obligations.EdgeResults : Prop :=
  let s : Word := 0x0000000000000001
  let M : Word := 0x7FEFFFFFFFFFFFFF
  let N : Word := 0x0010000000000000
  let INF : Word := 0x7FF0000000000000
  let one : Word := 0x3FF0000000000000
  let half : Word := 0x3FE0000000000000
  let two : Word := 0x4000000000000000
  let p52 : Word := 0x4330000000000000
  let p970 : Word := 0x7C90000000000000
  let none_ : BitVec 5 := 0
  let ofnx : BitVec 5 := 0b00101
  let ufnx : BitVec 5 := 0b00011
  let nx : BitVec 5 := 0b00001
  let nv : BitVec 5 := 0b10000
  let dz : BitVec 5 := 0b01000
  let u (ftz : Bool) (x : Word) := unpack .d ftz x
  let modes := [Rm.rne, .rtz, .rdn, .rup, .rmm]
  let all (f : Rm → Bool → Word × BitVec 5) (ftz : Bool) (v : Word × BitVec 5) (but : List (Rm × (Word × BitVec 5))) : Prop :=
    ∀ m ∈ modes, f m ftz = ((but.find? (fun e => decide (e.1 = m))).map (·.2)).getD v
  let add (x z : Word) := fun (m : Rm) (t : Bool) => fpAdd .d m t (u t x) (u t z)
  let sub (x z : Word) := fun (m : Rm) (t : Bool) => fpAdd .d m t (u t x) (u t z).neg
  let mul (x z : Word) := fun (m : Rm) (t : Bool) => fpMul .d m t (u t x) (u t z)
  let div (x z : Word) := fun (m : Rm) (t : Bool) => fpDiv .d m t (u t x) (u t z)
  let sqrt (x : Word) := fun (m : Rm) (t : Bool) => fpSqrt .d m t (u t x)
  let fma (x z w : Word) := fun (m : Rm) (t : Bool) => fpFma .d m t (u t x) (u t z) (u t w)
  let cvts (x : Word) := fun (m : Rm) (t : Bool) => fpConvert .s m t (u t x)
  let toi (x : Word) := fun (m : Rm) (t : Bool) => fpToInt m (u t x)
  (all (add s s) false (2, none_) [] ∧ add s s .rne true = (0, none_))
  ∧ (all (sub s s) false (0, none_) [(.rdn, (0x8000000000000000, none_))]
    ∧ sub s s .rne true = (0, none_) ∧ sub s s .rdn true = (0x8000000000000000, none_))
  ∧ (all (mul s s) false (0, ufnx) [(.rup, (s, ufnx))] ∧ mul s s .rne true = (0, none_))
  ∧ (all (mul s half) false (0, ufnx) [(.rup, (s, ufnx)), (.rmm, (s, ufnx))] ∧ mul s half .rne true = (0, none_))
  ∧ (all (mul s p52) false (N, none_) [] ∧ mul s p52 .rne true = (0, none_))
  ∧ (all (div one s) false (INF, ofnx) [(.rtz, (M, ofnx)), (.rdn, (M, ofnx))] ∧ div one s .rne true = (INF, dz))
  ∧ (all (div s M) false (0, ufnx) [(.rup, (s, ufnx))] ∧ div s M .rne true = (0, none_))
  ∧ (all (sqrt s) false (0x1E60000000000000, none_) [] ∧ sqrt s .rne true = (0, none_))
  ∧ (all (add M M) false (INF, ofnx) [(.rtz, (M, ofnx)), (.rdn, (M, ofnx))] ∧ add M M .rne true = (INF, ofnx))
  ∧ (all (add M p970) false (INF, ofnx) [(.rtz, (M, nx)), (.rdn, (M, nx))] ∧ add M p970 .rne true = (INF, ofnx))
  ∧ (all (mul M half) false (0x7FDFFFFFFFFFFFFF, none_) [] ∧ mul M half .rne true = (0x7FDFFFFFFFFFFFFF, none_))
  ∧ (all (fma M two (M ^^^ 0x8000000000000000)) false (M, none_) []
    ∧ fma M two (M ^^^ 0x8000000000000000) .rne true = (M, none_))
  ∧ (all (fma s half s) false (2, ufnx) [(.rtz, (s, ufnx)), (.rdn, (s, ufnx))] ∧ fma s half s .rne true = (0, none_))
  ∧ (all (cvts s) false (0, ufnx) [(.rup, (1, ufnx))] ∧ cvts s .rne true = (0, none_))
  ∧ (all (cvts M) false (0x7F800000, ofnx) [(.rtz, (0x7F7FFFFF, ofnx)), (.rdn, (0x7F7FFFFF, ofnx))]
    ∧ cvts M .rne true = (0x7F800000, ofnx))
  ∧ (all (toi M) false (0x7FFFFFFFFFFFFFFF, nv) [] ∧ toi M .rne true = (0x7FFFFFFFFFFFFFFF, nv))
  ∧ (all (toi s) false (0, nx) [(.rup, (1, nx))] ∧ toi s .rne true = (0, none_))
  ∧ (fpCmp 1 (u false 0) (u false s) = (true, none_) ∧ fpCmp 1 (u true 0) (u true s) = (false, none_))

/-- Loads, stores, atomics, maintenance and prefetches as whole bundles of a quiet core, from the answer of the access that
each performs: a load's value is on its way for the 3rd bundle after a hit and a long operation after a miss, an atomic's old
value is a long operation, a store's bytes have been taken; the pc stands after the bundle. A load that raises an exception
leaves the bundle without effect and takes it (R185). -/
def Obligations.MemorySyllables : Prop :=
  ∀ (s t : State) (y : Syl) (d a b fn : BitVec 6) (i : BitVec 12) (v : MemVal), s.Quiet y.core → WholeSyl y s →
    t.Quiet y.core → v.poison = false → v.await = [] →
    let c := y.core
    let r := s.arch c
    let pc := r.pc + BitVec.ofNat 64 (4 * (1 + y.ext.length))
    let bn := (t.core c).bn
    let off : Word := match y.ext with
      | [] => i.signExtend 64
      | [e] => (e ++ i).signExtend 64
      | e :: f :: _ => (e ++ f ++ i).signExtend 64
    let ea (n : Nat) : Word := r.gval a + off * BitVec.ofNat 64 n
    let got (dst : Dst) (n : Nat) (sg : Bool) : State :=
      let w := (loadVal v.bytes n sg).setWidth 128
      if v.hit then t.accessed c pc [⟨dst, w, bn + 3, 0⟩] []
      else t.accessed c pc [] [⟨dst, w, 0, .miss, bn + 3, [], none, (n, sg), false⟩]
    (∀ (op : LoadOp) (n : Nat) (sg : Bool), loadShape op = (n, sg) →
      (s.loadAt c (ea n) n = (t, .ok v) → exec (.load y op d a i) s = .next (got (r.gdst d) n sg))
      ∧ (∀ e : Exc, s.loadAt c (ea n) n = (t, .error (.exc e)) → exec (.load y op d a i) s = .next (s.raise c e r.pc)))
    ∧ (∀ dbl : Bool, d.toNat < 32 → s.loadAt c (ea (if dbl then 8 else 4)) (if dbl then 8 else 4) = (t, .ok v) →
        exec (.loadF y dbl d a i) s = .next (got (.f (Fin.ofNat 32 d.toNat)) (if dbl then 8 else 4) false))
    ∧ (∀ (op : StoreOp), s.storeAt c (ea (storeSize op)) (leBytes (storeSize op) (r.gval d).toNat) = (t, none) →
        exec (.store y op d a i) s = .next (t.accessed c pc [] []))
    ∧ (∀ dbl : Bool, d.toNat < 32 →
        s.storeAt c (ea (if dbl then 8 else 4)) (leBytes (if dbl then 8 else 4) (r.fval d).toNat) = (t, none) →
        exec (.storeF y dbl d a i) s = .next (t.accessed c pc [] []))
    ∧ (s.prefetch c (ea 1) = t → exec (.prf y 0 a i) s = .next (t.accessed c pc [] []))
    ∧ (y.ext = [] → amoLegal fn = true → s.amoAt c (r.gval a) fn (r.gval b) (r.gval d) = (t, .ok v) →
        exec (.amo y d a b fn) s = .next (t.accessed c pc []
          [⟨r.gdst d, (loadVal v.bytes (amoSize fn) false).setWidth 128, 0, .miss, bn + 1, [], none, (amoSize fn, false), false⟩]))
    ∧ (y.ext = [] →
        (s.cmoAt c 0 (r.gval a) = (t, none) → exec (.cmoWbp y 0 a) s = .next (t.accessed c pc [] []))
        ∧ (s.cmoAt c 1 (r.gval a) = (t, none) → exec (.cmoWbm y 0 a) s = .next (t.accessed c pc [] []))
        ∧ (s.cmoAt c 2 (r.gval a) = (t, none) → exec (.cmoWbmi y 0 a) s = .next (t.accessed c pc [] []))
        ∧ (s.cmoAt c 3 (r.gval a) = (t, none) → exec (.cmoInvd y 0 a) s = .next (t.accessed c pc [] []))
        ∧ (s.cmoAt c 4 (r.gval a) = (t, none) → exec (.cmoZero y 0 a) s = .next (t.accessed c pc [] [])))

/-- R199, one chunk of a block instruction on a quiet core: with gb = 0 nothing changes but the pc; otherwise the chunk is
written (BCOPY, BFILL) or compared (BCMP), the registers advance by it, and the pc stands after the bundle only when nothing
is left, or when BCMP has met a difference. -/
def Obligations.BlockChunks : Prop :=
  ∀ (s t u : State) (y : Syl) (d a b : BitVec 6) (v w : MemVal), s.Quiet y.core → WholeSyl y s → y.ext = [] →
    d ≠ a → d ≠ b → a ≠ b → d ≠ 0 → a ≠ 0 → b ≠ 0 → d ≠ 63 → a ≠ 63 → b ≠ 63 →
    let c := y.core
    let r := s.arch c
    let vd := r.gval d
    let va := r.gval a
    let vb := r.gval b
    let regs (x : State) (nd na nb : Word) := x.modArch c (fun q => q.putBlock d.toFin a.toFin b.toFin nd na nb)
    let ends (x : State) (left : Word) := if left = 0 then x.accessed c (r.pc + 4) [] [] else x
    (vb = 0 → exec (.bcopy y d a b 0) s = .next (s.accessed c (r.pc + 4) [] [])
      ∧ exec (.bcmp y d a b 0) s = .next (s.accessed c (r.pc + 4) [] [])
      ∧ exec (.bfill y d a b 0) s = .next (s.accessed c (r.pc + 4) [] []))
    ∧ (vb ≠ 0 → t.Quiet c →
      let k := min vb.toNat (64 - vd.toNat % 64)
      s.chunkCheck c vd k .write = none →
      s.chunkWrite c vd ((List.range k).map (fun j => BitVec.ofNat 8 (va.toNat >>> (8 * ((vd.toNat + j) % 8))))) = (t, none) →
      exec (.bfill y d a b 0) s = .next (ends (t.modArch c (fun q =>
        (q.put (.g d.toFin) ((vd + BitVec.ofNat 64 k).setWidth 128)).put (.g b.toFin) ((vb - BitVec.ofNat 64 k).setWidth 128)))
        (vb - BitVec.ofNat 64 k)))
    ∧ (vb ≠ 0 → u.Quiet c → v.poison = false →
      let down := decide (va.toNat < vd.toNat) && decide (vd.toNat < va.toNat + vb.toNat)
      let k := if down then min vb.toNat (min ((vd.toNat + vb.toNat - 1) % 64 + 1) ((va.toNat + vb.toNat - 1) % 64 + 1))
        else min vb.toNat (min (64 - vd.toNat % 64) (64 - va.toNat % 64))
      let off : Word := if down then vb - BitVec.ofNat 64 k else 0
      let step : Word := if down then 0 else BitVec.ofNat 64 k
      s.chunkCheck c (va + off) k .read = none → s.chunkCheck c (vd + off) k .write = none → s.leadsHere c (va + off) = true →
      s.chunkRead c (va + off) k = (t, .ok v) → t.chunkWrite c (vd + off) v.bytes = (u, none) →
      exec (.bcopy y d a b 0) s = .next (ends (regs u (vd + step) (va + step) (vb - BitVec.ofNat 64 k)) (vb - BitVec.ofNat 64 k)))
    ∧ (vb ≠ 0 → u.Quiet c → v.poison = false → w.poison = false →
      let k := min vb.toNat (min (64 - vd.toNat % 64) (64 - va.toNat % 64))
      let go (j : Nat) := regs u (vd + BitVec.ofNat 64 j) (va + BitVec.ofNat 64 j) (vb - BitVec.ofNat 64 j)
      s.chunkCheck c vd k .read = none → s.chunkCheck c va k .read = none → s.leadsHere c vd = true → s.leadsHere c va = true →
      s.chunkRead c vd k = (t, .ok v) → t.chunkRead c va k = (u, .ok w) →
      exec (.bcmp y d a b 0) s = .next (match (List.range k).find? (fun j => v.bytes[j]? ≠ w.bytes[j]?) with
        | some j => (go j).accessed c (r.pc + 4) [] []
        | none => ends (go k) (vb - BitVec.ofNat 64 k)))

/-- Control flow of R198, R200 and R207 as whole bundles of a quiet core: where the next bundle is, what a call stores and a
return loads, g63 moved by 8, what LOOP and LOOPI arm; a target with bits [1:0] set takes ALIGN. -/
def Obligations.ControlFlow : Prop :=
  ∀ (s t : State) (y : Syl) (a b : BitVec 6) (i : BitVec 12) (j : BitVec 24), s.Quiet y.core → WholeSyl y s →
    t.Quiet y.core → (t.core y.core).bn = (s.core y.core).bn →
    let c := y.core
    let r := s.arch c
    let next := r.pc + BitVec.ofNat 64 (4 * (1 + y.ext.length))
    let d24 : Word := match y.ext with
      | [] => j.signExtend 64
      | [e] => (e ++ j).signExtend 64
      | e :: f :: _ => (e ++ f ++ j).setWidth 64
    let d12 : Word := match y.ext with
      | [] => i.signExtend 64
      | [e] => (e ++ i).signExtend 64
      | e :: f :: _ => (e ++ f ++ i).signExtend 64
    let far := r.pc + d24 * 4
    let near := r.pc + d12 * 4
    let x := r.gval a
    let z := r.gval b
    let sp := r.gval 63
    let pushed := (t.modArch c (fun q => q.put (r.gdst 63) ((sp - 8).setWidth 128)))
    let branch (op : BrCond) (taken : Prop) : Prop :=
      (taken → exec (.bcond y op a b i) s = .next (s.accessed c near [] []))
      ∧ (¬ taken → exec (.bcond y op a b i) s = .next (s.accessed c next [] []))
    (far.toNat % 4 = 0 → exec (.br y j) s = .next (s.accessed c far [] []))
    ∧ (near.toNat % 4 = 0 → branch .eq (x = z) ∧ branch .ne (x ≠ z) ∧ branch .lt (x.toInt < z.toInt)
        ∧ branch .ge (z.toInt ≤ x.toInt) ∧ branch .ltu (x.toNat < z.toNat) ∧ branch .geu (z.toNat ≤ x.toNat))
    ∧ (far.toNat % 4 = 0 → sp.toNat % 8 = 0 → s.storeAt c (sp - 8) (leBytes 8 next.toNat) = (t, none) →
        exec (.call y j) s = .next (pushed.accessed c far [] []))
    ∧ (y.ext = [] →
      (x.toNat % 4 = 0 → exec (.jmpr y a) s = .next (s.accessed c x [] []))
      ∧ (x.toNat % 4 ≠ 0 → exec (.jmpr y a) s = .next (s.raise c (Exc.mk0 .align 0 .read) r.pc))
      ∧ (x.toNat % 4 = 0 → sp.toNat % 8 = 0 → s.storeAt c (sp - 8) (leBytes 8 next.toNat) = (t, none) →
          exec (.callr y a) s = .next (pushed.accessed c x [] []))
      ∧ (∀ v : MemVal, sp.toNat % 8 = 0 → s.loadAt c sp 8 = (t, .ok v) → s.readsHere c sp 8 = true → v.await = [] → v.poison = false →
          (loadVal v.bytes 8 false).toNat % 4 = 0 →
          exec (.ret y) s = .next ((t.modArch c (fun q => q.put (r.gdst 63) ((sp + 8).setWidth 128))).accessed c
            (loadVal v.bytes 8 false) [] [])))
    ∧ (∀ n : Nat, n = i.toNat → 1 ≤ n → y.ext = [] →
      let lpe := (r.pc + BitVec.ofNat 64 (4 * n))
      let armed (count : Word) := s.modArch c (fun q =>
        { q with pc := next, lps := next.setWidth 48, lpe := lpe.setWidth 48, lpc := count })
      let after (count : Word) := if count = 0 then (armed 0).accessed c ((armed 0).bundleAfter c lpe) [] []
        else (armed count).accessed c next [] []
      exec (.loop y a i) s = .next (after x) ∧ ∀ k : BitVec 12, exec (.loopi y k i) s = .next (after (k.setWidth 64)))

/-- R201 with R276, R280 and R281: KCALL, HCALL and MCALL from a level that may use them enter their target with the next
bundle as the return address and imm12 as the service number, at EVEC.BASE + 0x040; from any other level they take ILLEGAL on
the bundle. R201, R225 and R283: an XRET from a level above U, with no source to chain, returns to a saved state that R283
lets it return to: world, level and pc are those saved, and the level left is no longer busy. At U it takes ILLEGAL. -/
def Obligations.LevelTransfers : Prop :=
  (∀ (s : State) (y : Syl) (i : BitVec 12), s.Quiet y.core → WholeSyl y s → y.ext = [] →
    let c := y.core
    let r := s.arch c
    let saved := 2 ^ 15 + (if r.world = .S then 4 else 0) +
      (match r.level with
       | .U => 0
       | .K => 1
       | .H => 2
       | .M => 3)
    let enters (k : Instr) (code : Nat) (w : World) (l : Level) : Prop :=
      (r.hset w l).busy = false → ∃ t, exec k s = .next t
        ∧ (t.arch c).world = w ∧ (t.arch c).level = l
        ∧ ((t.arch c).hset w l).epc = (r.pc + 4) &&& 0xFFFFFFFFFFFFFFFC
        ∧ ((t.arch c).hset w l).estat = BitVec.ofNat 64 saved
        ∧ ((t.arch c).hset w l).ecause = BitVec.ofNat 64 (code + 0xF0000 + i.toNat * 2 ^ 32)
        ∧ ((t.arch c).hset w l).eaddr = 0
        ∧ ((t.arch c).hset w l).evec = (r.hset w l).evec
        ∧ (t.arch c).pc = (r.hset w l).evec + 0x040
        ∧ (t.arch c).g = r.g ∧ (t.arch c).banks = r.banks ∧ (t.arch c).f = r.f ∧ (t.arch c).acc = r.acc
        ∧ t.mem = s.mem ∧ t.regs = s.regs
    let illegal (k : Instr) : Prop := exec k s = .next (s.raise c (Exc.mk0 .illegal r.pc .read) r.pc)
    (r.level = .U → enters (.kcall y i) 11 r.world .K) ∧ (r.level ≠ .U → illegal (.kcall y i))
    ∧ (r.level = .K → r.world = .N → enters (.hcall y i) 12 .N .H) ∧ (r.level ≠ .K ∨ r.world ≠ .N → illegal (.hcall y i))
    ∧ (r.level = .K ∨ r.level = .H → enters (.mcall y i) 13 .S .M) ∧ (r.level = .U ∨ r.level = .M → illegal (.mcall y i)))
  ∧ (∀ (s : State) (y : Syl), s.Quiet y.core → WholeSyl y s → y.ext = [] →
    let c := y.core
    let r := s.arch c
    let h := r.hset r.world r.level
    (r.level = .U → exec (.xret y) s = .next (s.raise c (Exc.mk0 .illegal r.pc .read) r.pc))
    ∧ (r.level ≠ .U → xretOk r.world r.level h.savedWorld h.savedLevel (s.pair (pairOf c)).sok = true →
        (∀ n, s.offered c n = false) →
        ∃ t, exec (.xret y) s = .next t
          ∧ (t.arch c).world = h.savedWorld ∧ (t.arch c).level = h.savedLevel ∧ (t.arch c).pc = h.epc
          ∧ ((t.arch c).hset r.world r.level).busy = false
          ∧ (t.arch c).g = r.g ∧ (t.arch c).banks = r.banks ∧ (t.arch c).f = r.f ∧ (t.arch c).acc = r.acc
          ∧ (t.arch c).flC = r.flC ∧ (t.arch c).flOV = r.flOV ∧ t.mem = s.mem ∧ t.regs = s.regs))

/-- R202 and R261 on a still core whose merging buffer is empty: TBEGIN opens a transaction with the registers, gd = 0 among
them, saved and the fallback displaced from its bundle; an inner TBEGIN and TCOMMIT only count; TCOMMIT to depth 0 clears the
marks and the pins; TABORT, or a TBEGIN at depth 31, restores the registers, gives the outermost TBEGIN's gd the status and
continues at the fallback; outside a transaction TABORT does nothing and TCOMMIT is ILLEGAL. R203 and R188 on a quiet core:
FENCE and DSYNC complete once every store has drained, ISYNC brings the pending write of a handling register into force for
the next bundle, PCLR drops the predictor state of the own world and basin (0) or, at M, all of it (1); PCLR 1 below M takes
PRIVILEGED. -/
def Obligations.TransactionsAndSync : Prop :=
  (∀ (s : State) (y : Syl) (d : BitVec 6) (i : BitVec 12), s.Still y.core → WholeSyl y s → y.ext = [] →
    (s.core y.core).mb = [] → s.ridgeOpen y.core = false →
    let c := y.core
    let k := s.core c
    let r := s.arch c
    let aborted (i : Instr) (x : Txn) (status : Nat) : Prop := ∃ t, exec i s = .next t
      ∧ (t.core c).txn = none ∧ (t.core c).pend = [] ∧ (∀ l ∈ (t.core c).l2, l.rmark = false ∧ l.wmark = false)
      ∧ (∀ n, x.dst = some n → t.arch c = ({ r.restore x.save with pc := x.fallback }).put n (BitVec.ofNat 128 status))
      ∧ t.mem = s.mem ∧ t.errs = s.errs ∧ ∀ o, o ≠ c → t.core o = s.core o
    (k.txn = none →
      exec (.tbegin y d i) s = .next (((s.retired c 1 (r.gput d 0) [] []).modCore c (fun q => { q with
          txSeq := k.txSeq + 1,
          txn := some ⟨1, some (r.gdst d), r.pc + i.signExtend 64 * 4, BitVec.ofNat 32 s.ns, (r.gput d 0).save⟩ })).bump
        (Blk.trn c.val) Ctr.TRN_TX_BEGIN)
      ∧ exec (.tcommit y) s = .next (s.raise c (Exc.mk0 .illegal r.pc .read) r.pc)
      ∧ (i.toNat < 256 → exec (.tabort y i) s = .next (s.retired c 1 r [] [])))
    ∧ (∀ x : Txn, k.txn = some x →
      (x.depth < 31 → exec (.tbegin y d i) s = .next ((s.retired c 1 (r.gput d 0) [] []).modCore c (fun q =>
        { q with txn := some { x with depth := x.depth + 1 } })))
      ∧ (1 < x.depth → exec (.tcommit y) s = .next ((s.retired c 1 r [] []).modCore c (fun q =>
        { q with txn := some { x with depth := x.depth - 1 } })))
      ∧ (x.depth = 1 → exec (.tcommit y) s = .next ((((s.retired c 1 r [] []).modCore c (fun q =>
          { q with txn := none, l2 := q.l2.map (fun l => { l with rmark := false, wmark := false }) })).unpinAll c k.txSeq).bump
        (Blk.trn c.val) Ctr.TRN_TX_COMMIT))
      ∧ (x.depth = 31 → aborted (.tbegin y d i) x (31 * 2 ^ 17 + 6 * 2 ^ 8))
      ∧ (i.toNat < 256 → x.depth < 32 → aborted (.tabort y i) x (x.depth * 2 ^ 17 + 1 * 2 ^ 8 + i.toNat))))
  ∧ (∀ (s t : State) (y : Syl), s.Quiet y.core → t.Quiet y.core → WholeSyl y s → y.ext = [] →
    let c := y.core
    let r := s.arch c
    let here := s.modArch c (fun a => { a with pc := a.pc + 4 })
    let counted (u : State) := u.modCore c (fun q => { q with bn := q.bn + 1 })
    (s.ridgeOpen c = false → (here.drainAll c).1 = t →
      exec (.fence y) s = .next (counted t) ∧ exec (.dsync y) s = .next (counted t))
    ∧ exec (.isync y) s = .next (s.retired c 1 r [] [])
    ∧ (∀ (v : Word) (due : Nat), let p := s.modCore c (fun q => { q with ctl := [⟨0x124, v, due⟩] })
        ∃ u, exec (.isync y) p = .next u ∧ (u.core c).ctl = []
          ∧ (u.arch c) = { r with pc := r.pc + 4, ms := { r.ms with evec := v &&& 0xFFFFFFFFFFFFF800 } }
          ∧ u.mem = s.mem ∧ (∀ o, o ≠ c → u.core o = s.core o))
    ∧ exec (.pclrOwn y) s = .next ((s.retired c 1 r [] []).modCore c (fun q =>
        { q with pred := q.pred.filter (fun p => decide (p.world ≠ r.world) || decide (p.basin ≠ basinOf r)) }))
    ∧ (r.level = .M → exec (.pclrAll y) s = .next ((s.retired c 1 r [] []).modCore c (fun q => { q with pred := [] })))
    ∧ (r.level ≠ .M → exec (.pclrAll y) s = .next (s.raise c (Exc.mk0 .privileged 0 .read) r.pc)))

/-- R187, R188, R194, R198, R284 on a quiet core: MFCR gives gd the control register for the next bundle; MTCR of FL and of
the loop registers acts for the next bundle, of the others for the 4th bundle after; an undefined number takes ILLEGAL, a
number that the level may not reach takes PRIVILEGED. R347, R311 and R243 on a quiet core: MFCR of DTBNOW gives nanoseconds,
fraction and the low seconds and latches the seconds; MFCR of SPT_CLAIM gives 0x3FF with no source active and takes one event
of an edge source that is; CACHECTL is written at M, for the 4th bundle after. -/
def Obligations.ControlRegisters : Prop :=
  (∀ (s : State) (y : Syl) (d : BitVec 6) (n : BitVec 12), s.Quiet y.core → WholeSyl y s → y.ext = [] →
    let c := y.core
    let r := s.arch c
    let v := r.gval d
    let raises (i : Instr) (e : Exc) : Prop := exec i s = .next (s.raise c e r.pc)
    let gives (w : Word) : Prop := exec (.mfcr y d n) s = .next (s.retired c 1 (r.gput d w) [] [])
    let sets (a : CoreArch) : Prop := exec (.mtcr y d n) s = .next (s.retired c 1 a [] [])
    let later (m : BitVec 12) : Prop :=
      exec (.mtcr y d n) s = .next ((s.retired c 1 r [] []).modCore c (fun q => { q with ctl := [⟨m, v, (s.core c).bn + 4⟩] }))
    let flw : Word := (if r.flOV then 2 else 0) + (if r.flC then 1 else 0)
    (n = 0 → gives flw ∧ sets { r with flC := v.getLsbD 0, flOV := v.getLsbD 1 })
    ∧ (n = 1 → gives r.fpc ∧ later 1)
    ∧ (n = 2 → gives r.lpc ∧ sets { r with lpc := v })
    ∧ (n = 3 → gives (r.lps.setWidth 64) ∧ sets { r with lps := (v >>> 2).setWidth 46 ++ (0 : BitVec 2) })
    ∧ (n = 4 → gives (r.lpe.setWidth 64) ∧ sets { r with lpe := (v >>> 2).setWidth 46 ++ (0 : BitVec 2) })
    ∧ (n = 0x010 → gives (if r.world = .S then r.ctlS else r.ctlN)
        ∧ (r.level ≠ .U → later (if r.world = .S then 0x010 else 0x146))
        ∧ (r.level = .U → raises (.mtcr y d n) (Exc.mk0 .privileged 0 .read)))
    ∧ (n = 0x104 → (r.level = .K → r.world = .N → gives r.nk.evec ∧ later 0x10C)
        ∧ (r.level = .M → gives r.ms.evec ∧ later 0x124)
        ∧ (r.level = .U → raises (.mtcr y d n) (Exc.mk0 .privileged 0 .read) ∧ raises (.mfcr y d n) (Exc.mk0 .privileged 0 .read)))
    ∧ (n = 0x137 → r.level = .M → gives r.vmctl
        ∧ (if (s.pair (pairOf c)).basins.getLsbD (v.toNat % 64) then later n
           else raises (.mtcr y d n) (Exc.mk0 .privileged 0 .read)))
    ∧ (n = 0x139 → (r.level = .M → gives r.mctl ∧ later n)
        ∧ (r.level ≠ .M → raises (.mtcr y d n) (Exc.mk0 .privileged 0 .read) ∧ raises (.mfcr y d n) (Exc.mk0 .privileged 0 .read)))
    ∧ (n = 0x147 → gives (BitVec.ofNat 64 ((basinOf r).val * 16 + (if r.world = .S then 4 else 0) + levelCode r.level))
        ∧ raises (.mtcr y d n) (Exc.mk0 .illegal r.pc .read))
    ∧ (n = 0x181 → gives (BitVec.ofNat 64 ((s.core c).txSeq.toNat * 2 ^ 20)))
    ∧ (n = 0x1B1 → gives ((s.core c).dtbSec.setWidth 64))
    ∧ (n.toNat = 5 ∨ n.toNat = 0x0FF ∨ n.toNat = 0x148 ∨ n.toNat = 0xFFF →
        raises (.mtcr y d n) (Exc.mk0 .illegal r.pc .read) ∧ raises (.mfcr y d n) (Exc.mk0 .illegal r.pc .read)))
  ∧ (∀ (s : State) (y : Syl) (d : BitVec 6), s.Quiet y.core → WholeSyl y s → y.ext = [] →
    let c := y.core
    let k := s.core c
    let r := s.arch c
    let act := k.act r.world r.level
    let x := s.anySrc c act.toNat
    exec (.dtbNow y d) s = .next ((s.retired c 1 (r.gput d
        (BitVec.ofNat 64 (s.tb.now % (10 ^ 9 * 2 ^ 16) / 2 ^ 16 * 2 ^ 32 + s.tb.now % 2 ^ 16 * 2 ^ 16
          + s.tb.now / (10 ^ 9 * 2 ^ 16) % 2 ^ 16))) [] []).modCore c (fun q =>
        { q with dtbSec := BitVec.ofNat 48 (s.tb.now / (10 ^ 9 * 2 ^ 16)) }))
    ∧ (r.level = .U → exec (.sptClaim y d) s = .next (s.raise c (Exc.mk0 .privileged 0 .read) r.pc))
    ∧ (r.level ≠ .U → act = 0x3FF → exec (.sptClaim y d) s = .next (s.retired c 1 (r.gput d 0x3FF) [] []))
    ∧ (r.level ≠ .U → 32 ≤ act.toNat → act.toNat < 1023 → s.srcTarget c act.toNat = c → 2 ≤ x.sense → 0 < x.count →
        exec (.sptClaim y d) s = .next ((s.setSrc act.toNat { x with count := x.count - 1 }).retired c 1
          (r.gput d (BitVec.ofNat 64 (2 ^ 63 + (x.count - 1) * 2 ^ 48 + act.toNat))) [] []))
    ∧ (r.level = .M → exec (.cachectlWrite y d) s = .next ((s.retired c 1 r [] []).modCore c (fun q =>
        { q with ctl := [⟨0x180, r.gval d, k.bn + 4⟩] })))
    ∧ (r.level ≠ .M → exec (.cachectlWrite y d) s = .next (s.raise c (Exc.mk0 .privileged 0 .read) r.pc)))

/-- R288 on a quiet core: each TLBINV operation with BCAST 0 takes out the entries its row of the table names, on the issuing
core only; with BCAST 1 on every core; an operation that the level may not use takes PRIVILEGED. -/
def Obligations.TlbInvalidations : Prop :=
  ∀ (s : State) (y : Syl) (d : BitVec 6), s.Quiet y.core → WholeSyl y s → y.ext = [] →
    let c := y.core
    let r := s.arch c
    let v := r.gval d
    let asid := v.toNat / 2 ^ 48
    let va := v.toNat / 2 ^ 12 % 2 ^ 36
    let vmid := v.toNat / 2 ^ 4 % 64
    let mine (e : TlbEntry) : Bool := decide (e.regime = regimeOf r.world r.level)
      && (decide (regimeOf r.world r.level ≠ .nku) || decide (e.vmid = r.vmid))
    let page (e : TlbEntry) : Bool := decide (e.vpage % 2 ^ 36 = va)
    let guest (e : TlbEntry) : Bool := decide (e.regime = .nku) && decide (e.vmid.val = vmid)
    let drops (i : Instr) (p : TlbEntry → Bool) : Prop :=
      (v.getLsbD 10 = false → exec i s = .next ((s.retired c 1 r [] []).modCore c (fun q => { q with tlb := q.tlb.filter (fun e => !p e) })))
      ∧ (v.getLsbD 10 = true → ∃ t, exec i s = .next t
          ∧ ∀ o, (t.core o).tlb = (s.core o).tlb.filter (fun e => !p e) ∧ (o ≠ c → (t.core o).arch = (s.core o).arch))
    let refused (i : Instr) : Prop := exec i s = .next (s.raise c (Exc.mk0 .privileged 0 .read) r.pc)
    (v.toNat % 16 = 0 → r.level ≠ .U → drops (.tlbinvRegime y d) mine)
    ∧ (v.toNat % 16 = 1 → r.level ≠ .U → drops (.tlbinvAsid y d) (fun e => mine e && decide (e.asid.toNat = asid) && !e.global))
    ∧ (v.toNat % 16 = 2 → r.level ≠ .U → drops (.tlbinvVaAsid y d) (fun e => mine e && page e && (decide (e.asid.toNat = asid) || e.global)))
    ∧ (v.toNat % 16 = 3 → r.level ≠ .U → drops (.tlbinvVa y d) (fun e => mine e && page e))
    ∧ (v.toNat % 16 = 4 → r.level = .H ∨ r.level = .M → drops (.tlbinvVmid y d) guest)
    ∧ (v.toNat % 16 = 5 → r.level = .H ∨ r.level = .M → drops (.tlbinvIpa y d) guest)
    ∧ (v.toNat % 16 = 6 → r.level = .M → drops (.tlbinvWorld y d) (fun e =>
        if v.getLsbD 11 then decide (e.regime = .sku) || decide (e.regime = .m) else decide (e.regime = .nku) || decide (e.regime = .h)))
    ∧ (v.toNat % 16 = 0 → r.level = .U → refused (.tlbinvRegime y d))
    ∧ (v.toNat % 16 = 4 → r.level = .K → refused (.tlbinvVmid y d))
    ∧ (v.toNat % 16 = 5 → r.level = .K → refused (.tlbinvIpa y d))
    ∧ (v.toNat % 16 = 6 → r.level ≠ .M → refused (.tlbinvWorld y d))

/-- R222, R223, R280, R281, R282, R306 on a quiet core that accepts the source `n`: it enters the source's level with the
next bundle as the return address at EVEC.BASE + 0x080, the source becomes the active one and one entry is counted, with a
takeover where another source had been chosen first; in the other world it enters M as XWORLD at EVEC.BASE + 0x0C0 with the
source's number, which clears MCTL.XW_EN. R192, R217, R328: a long operation that waits for nothing lands between two
bundles, whichever it is: its value goes to its destination, its flags into FPC.FLAGS, its pending mark clears. R233, R234,
R236 for the oldest NORMAL-WB entry of a line that the core's L2 owns with W: the bytes of the entry's mask are the line's
from this step on, the line is modified, the entry is gone, and nothing else has changed. R184, R185, R279-R281, R284: an
illegal bundle takes ILLEGAL with its own address as the return address and as EADDR: from U at K's EVEC.BASE + 0x040, from
any other level at its own EVEC.BASE; a busy target gives NESTED at M, whose code names the cause, level and world; with M
busy too, the core freezes with cause NESTED_M. R233 and R287: a fetch that the translation gives a DEVICE place, or a place
that nothing serves, takes IABORT on the bundle, at K from U and at its own level otherwise. -/
def Obligations.EntriesAndLandings : Prop :=
  (∀ (s : State) (c : CoreId) (n : Nat) (first : BitVec 10), s.Quiet c → s.regsWf = true → s.bestSource c = some n →
    n < 1023 →
    let r := s.arch c
    let saved := 2 ^ 15 + (if r.world = .S then 4 else 0) + levelCode r.level
    let entries (t : State) := t.rget (Blk.spt c.val) Ctr.SPT_ENTRIES.off = s.rget (Blk.spt c.val) Ctr.SPT_ENTRIES.off + 1
    let kept (t : State) := (t.arch c).g = r.g ∧ (t.arch c).banks = r.banks ∧ (t.arch c).f = r.f ∧ (t.arch c).acc = r.acc
      ∧ t.mem = s.mem ∧ t.srcs = s.srcs ∧ t.errs = s.errs ∧ ∀ o, o ≠ c → t.core o = s.core o
    (∀ w l, s.accepts c n = some (.enter w l) → ∃ t, exec (.interruptEntry c first) s = .next t
      ∧ (t.arch c).world = w ∧ (t.arch c).level = l
      ∧ ((t.arch c).hset w l).epc = r.pc &&& 0xFFFFFFFFFFFFFFFC
      ∧ ((t.arch c).hset w l).estat = BitVec.ofNat 64 saved ∧ ((t.arch c).hset w l).ecause = 0xF000E
      ∧ ((t.arch c).hset w l).eaddr = 0 ∧ (t.arch c).pc = (r.hset w l).evec + 0x080
      ∧ (t.core c).act w l = BitVec.ofNat 10 n ∧ entries t
      ∧ t.rget (Blk.spt c.val) Ctr.SPT_TAKEOVERS.off = s.rget (Blk.spt c.val) Ctr.SPT_TAKEOVERS.off
          + (if n < first.toNat ∧ (s.accepts c first.toNat).isSome then 1 else 0)
      ∧ kept t)
    ∧ (s.accepts c n = some .xworld → ∃ t, exec (.interruptEntry c first) s = .next t
      ∧ (t.arch c).world = .S ∧ (t.arch c).level = .M ∧ (t.arch c).pc = r.ms.evec + 0x0C0
      ∧ (t.arch c).ms.epc = r.pc &&& 0xFFFFFFFFFFFFFFFC ∧ (t.arch c).ms.ecause = BitVec.ofNat 64 (0xF0011 + n * 2 ^ 32)
      ∧ (t.arch c).mctl.getLsbD 0 = false ∧ (t.core c).actM = 0x3FF ∧ entries t ∧ kept t))
  ∧ (∀ (s : State) (c : CoreId) (i : Nat) (o : LongOp), s.between c = true → (s.core c).longs[i]? = some o → o.await = [] →
    o.abort = none →
    let a := (s.arch c).put o.dst o.val
    exec (.longOpLand c i) s = .next (s.modCore c (fun k => { k with
      arch := { a with fpc := a.fpc ||| (o.flags.setWidth 64 <<< 8) }, longs := k.longs.take i ++ k.longs.drop (i + 1) })))
  ∧ (∀ (s : State) (c : CoreId) (i : Nat) (e : MbEntry) (l : L2Line), s.locked (pairOf c) = false → s.frozen (.core c) = false →
    (s.core c).l2En = true → (s.core c).mb[i]? = some e → (∀ x ∈ (s.core c).mb.take (i + 1), x.ty.isDevice = false) →
    (∀ x ∈ (s.core c).mb.take i, x.line ≠ e.line) → e.ty = .normalWB → e.refused = false → e.inTxn = false → s.l2Find c e.line = some l → l.st ≠ .S → l.w = true →
    ∃ t, exec (.mbEntryDrain c i) s = .next t ∧ t = { s with cores := t.cores }
      ∧ (t.core c).mb = (s.core c).mb.take i ++ (s.core c).mb.drop (i + 1)
      ∧ (t.l2Find c e.line).isSome = true ∧ (∀ l', t.l2Find c e.line = some l' → l'.st = .M
        ∧ ∀ j, j < 64 → lineByte l'.data j = if e.mask.getLsbD j then lineByte e.data j else lineByte l.data j)
      ∧ (∀ n, n ≠ e.line → t.l2Find c n = s.l2Find c n) ∧ t.arch c = s.arch c ∧ ∀ o, o ≠ c → t.core o = s.core o)
  ∧ (∀ (s : State) (c : CoreId), s.Quiet c →
    let r := s.arch c
    let goal : World × Level := match r.level with
      | .U => (r.world, .K)
      | .K => (r.world, .K)
      | .H => (.N, .H)
      | .M => (.S, .M)
    let h := r.hset goal.1 goal.2
    let saved := BitVec.ofNat 64 (2 ^ 15 + (if r.world = .S then 4 else 0) + levelCode r.level)
    (h.busy = false → (r.level = .H → r.world = .N) → (r.level = .M → r.world = .S) →
      ∃ t, exec (.illegalBundle c) s = .next t ∧ t = { s with cores := t.cores }
        ∧ (t.arch c).world = goal.1 ∧ (t.arch c).level = goal.2
        ∧ (t.arch c).pc = h.evec + (if r.level = .U then 0x040 else 0x000)
        ∧ (t.arch c).hset goal.1 goal.2 = ⟨r.pc &&& 0xFFFFFFFFFFFFFFFC, saved, 0xF0001, r.pc, h.evec⟩
        ∧ (t.arch c).g = r.g ∧ (t.arch c).banks = r.banks ∧ (t.arch c).f = r.f ∧ (t.arch c).acc = r.acc
        ∧ ∀ o, o ≠ c → t.core o = s.core o)
    ∧ (h.busy = true → goal.2 ≠ .M → r.ms.busy = false →
      ∃ t, exec (.illegalBundle c) s = .next t ∧ (t.arch c).world = .S ∧ (t.arch c).level = .M
        ∧ (t.arch c).pc = r.ms.evec + 0x0C0 ∧ (t.arch c).hset goal.1 goal.2 = h
        ∧ (t.arch c).ms = ⟨r.pc &&& 0xFFFFFFFFFFFFFFFC, saved,
            BitVec.ofNat 64 (0xF0010 + (1 + levelCode goal.2 * 2 ^ 8 + (if goal.1 = .S then 2 ^ 10 else 0)) * 2 ^ 32), 0, r.ms.evec⟩)
    ∧ (h.busy = true → r.ms.busy = true → s.regsWf = true → s.flag Blk.ERR Reg.ERR_CTRL_ESC_EN = false →
      ∃ t, exec (.illegalBundle c) s = .next t ∧ t.frozen (.core c) = true
        ∧ t.fget (Blk.grd c.val) Reg.GRD_STATUS_CAUSE = 3 ∧ t.arch c = r))
  ∧ (∀ (s : State) (c : CoreId) (pa : Nat) (ty : RType), s.Quiet c →
    s.translate c (s.arch c).pc .fetch = (s, .ok (pa, ty)) → ty.isDevice = true ∨ s.served pa = false →
    exec (.iabort c) s = .next (s.raise c (Exc.mk0 .iabort (s.arch c).pc .fetch) (s.arch c).pc))

/-- R316, R263, R319: a cairn boundary of a locked pair with nothing buffered makes the registers the checkpoint and clears
the held marks; an open transaction defers it below 8 µs and is aborted with CAIRN first otherwise; a difference stops the
pair in state 2 with its stores discarded; at the end of the restart the registers are the checkpoint's, STATE is running,
MISMATCH and RESTARTED are set and a LOCKSTEP record is written. R320 and R321: the tests and the commands of a pair or core.
A passed comparator test at a start sets TEST_OK and the readiness bits, the pair runs and its registers are the first
checkpoint; after a TEST command the pair is out of service with TEST_PASS; a failure leaves it failed with TEST_FAIL. TEST
is taken while out of service or failed, OUT while running, RETURN while out of service, each in no other state. -/
def Obligations.PairService : Prop :=
  (∀ (s : State) (p : Fin 16), s.locked p = true →
    let c := evenCore p
    let k := s.core c
    let b := Blk.crn p.val
    let stamped (u : State) := ((u.fset b Reg.CRN_LAST_NS s.ns).fset b Reg.CRN_LAST_SECONDS (s.sec % 2 ^ 32)).bump b Ctr.CRN_COMMITS
    (s.between c = true → s.ridgeOpen c = false → k.txn = none → k.mb = [] → k.pend = [] → k.longs = [] →
      exec (.cairnBoundary p) s = .next (stamped ((s.modPair p (fun x => { x with ckpt := some k.arch })).modCore c
        (fun q => { q with l2 := q.l2.map (fun l => { l with held := false }) }))))
    ∧ (s.between c = true → s.ridgeOpen c = false → k.txn.isSome = true → s.fget b Reg.CRN_CTRL_INTERVAL_US < 8 →
      exec (.cairnBoundary p) s = .next (s.bump b Ctr.CRN_TX_DEFER))
    ∧ (∀ x : Txn, k.txn = some x → s.issues c = true → s.ridgeOpen c = false → x.depth < 32 → k.mb = [] → k.longs = [] →
      ∃ t, exec (.cairnAbort p) s = .next t ∧ (t.core c).txn = none
        ∧ (∀ d, x.dst = some d → t.arch c = ({ k.arch.restore x.save with pc := x.fallback }).put d
            (BitVec.ofNat 128 (x.depth * 2 ^ 17 + 2 ^ 16 + 5 * 2 ^ 8)))
        ∧ (t.pair p).ckpt = some (t.arch c))
    ∧ (s.regsWf = true → s.crnState c = 1 → k.txn = none →
      ∃ t, exec (.lockstepMismatch p) s = .next t ∧ t.crnState c = 2 ∧ (t.core c).mb = [] ∧ (t.core c).l1d = []
        ∧ (t.core c).l1i = [] ∧ (t.core c).longs = [] ∧ (∀ l ∈ (t.core c).l2, l.held = false) ∧ t.mem = s.mem
        ∧ t.rget b Ctr.CRN_MISMATCHES.off = s.rget b Ctr.CRN_MISMATCHES.off + 1
        ∧ (t.pair p).restartBasin = basinOf k.arch ∧ (t.pair p).ckpt = (s.pair p).ckpt)
    ∧ (∀ a, (s.pair p).ckpt = some a → s.regsWf = true → s.crnState c = 2 → k.l2 = [] → s.errs.length < 16 →
      s.flag Blk.ERR Reg.ERR_CTRL_ESC_EN = false →
      ∃ t, exec (.cairnRestartDone p) s = .next t ∧ t.arch c = a ∧ t.crnState c = 1 ∧ (t.core c).pred = []
        ∧ t.fget b Reg.CRN_EVENT_MISMATCH = 1 ∧ t.fget b Reg.CRN_EVENT_RESTARTED = 1
        ∧ ∃ e, t.errs = s.errs ++ [e] ∧ e.cls = 1 ∧ e.kind = 2 ∧ e.index = p.val ∧ e.basin = (s.pair p).restartBasin))
  ∧ (∀ (s : State) (p : Fin 16) (w : RegW), s.regsWf = true → s.locked p = true →
    let c := evenCore p
    let b := Blk.crn p.val
    let op := woVal Reg.CRN_CMD_OP (regMask w) (regBits w)
    (s.crnState c = 3 → (s.pair p).phase = 3 → s.traceOn c = false →
      ∃ t, exec (.comparatorTestDone p true) s = .next t ∧ t.crnState c = 1 ∧ t.fget b Reg.CRN_STATUS_TEST_OK = 1
        ∧ t.ready (Rdy.core (2 * p.val)) = true ∧ t.ready (Rdy.core (2 * p.val + 1)) = true
        ∧ (t.pair p).ckpt = some (s.arch c) ∧ t.cores = s.cores)
    ∧ (s.crnState c = 3 → (s.pair p).phase = 2 →
      ∃ t, exec (.comparatorTestDone p true) s = .next t ∧ t.crnState c = 4 ∧ t.fget b Reg.CRN_EVENT_TEST_PASS = 1
        ∧ t.cores = s.cores)
    ∧ (s.crnState c = 3 → 2 ≤ (s.pair p).phase → s.flag Blk.ERR Reg.ERR_CTRL_ESC_EN = false →
      ∃ t, exec (.comparatorTestDone p false) s = .next t ∧ t.crnState c = 5 ∧ t.fget b Reg.CRN_EVENT_TEST_FAIL = 1
        ∧ t.cores = s.cores)
    ∧ (s.crnState c = 3 → (s.pair p).phase = 1 →
      exec (.crnTestDone c true) s = .next (s.modPair p (fun x => { x with phase := 2 })))
    ∧ (s.Takes w b 0x010 → w.acc.world = .S → op = 2 → s.crnState c = 4 ∨ s.crnState c = 5 →
      exec (.crnTest p w) s = .next ((s.fset b Reg.CRN_STATUS_STATE 3).modPair p (fun x => { x with phase := 1 })))
    ∧ (s.Takes w b 0x010 → w.acc.world = .S → op = 1 → s.crnState c = 1 →
      ∃ t, exec (.crnOut p w) s = .next t ∧ t.crnState c = 4 ∧ t.ready (Rdy.core (2 * p.val)) = false
        ∧ t.ready (Rdy.core (2 * p.val + 1)) = false ∧ (t.core c).l1d = [] ∧ (t.core c).l1i = [] ∧ (t.core c).mb = []
        ∧ (t.core c).txn = none)
    ∧ (s.Takes w b 0x010 → w.acc.world = .S → op = 3 → s.crnState c = 4 →
      (∀ a, (s.core c).start = some a → (s.core c).l2 = [] → (s.core c).txn = none →
        ∃ t, exec (.crnReturn p w) s = .next t ∧ t.crnState c = 3 ∧ (t.arch c).pc = a ∧ (t.arch c).level = .M
          ∧ (t.arch c).world = .S ∧ (t.pair p).phase = 3))
    ∧ (s.Takes w b 0x010 → (op = 1 ∧ s.crnState c ≠ 1) ∨ (op = 2 ∧ s.crnState c ≠ 4 ∧ s.crnState c ≠ 5) ∨ (op = 3 ∧ s.crnState c ≠ 4) →
      exec (if op = 1 then .crnOut p w else if op = 2 then .crnTest p w else .crnReturn p w) s = .next s)
    ∧ (s.Takes w b 0x400 → s.expert b = true → w.val = 1 → w.high = false →
      ∃ t, exec (.crnInjectFlip p w) s = .next t ∧ t.flag b Reg.CRN_INJECT_FLIP = true ∧ t.cores = s.cores ∧ t.pairs = s.pairs))

/-- R303 and R305 for a global source: its input is sampled; an active transition of its edge mode adds one event, up to 15,
beyond which OVF is set and the loss is counted; in a level mode nothing is counted. The target's SPT_VMPEND bits that were
set stay. R301, R305 and R307 for a source of a core's own Spout: an edge source of which an active transition is sampled
gains an event; a timer whose EN is 1 and whose compare value is not after the time is raised as a level, so nothing of it is
counted. R308: SPT_RAISE adds one event to a software source of 512 to 1023 in an edge mode, for the S world or for the owner
of an N-world source; SPT_IPI adds one to IPIn of the named core; a write that is not allowed changes nothing, a refused
SPT_IPI is counted. R302, R303 and R309: a write of SPT_SRC by the S world: CLR = 1 and a change of SENSE clear COUNT and
OVF; a change of TARGET keeps them and clears the bit the source had set in the old target's SPT_VMPEND; a SENSE above 4, a
TLEVEL that the WORLD does not have, and a writer of the N world that is not the owner of an N-world source change nothing.
-/
def Obligations.SourceEvents : Prop :=
  (∀ (s : State) (n : BitVec 10), s.wf = true → globalSrc n.toNat = true →
    let x := s.src n.toNat
    let i := s.srcInput n.toNat
    let active : Bool := (decide (x.sense = 2) && !x.seen && i) || (decide (x.sense = 3) && x.seen && !i)
      || (decide (x.sense = 4) && decide (x.seen ≠ i))
    let lost := active && decide (15 ≤ x.count)
    ∃ t, exec (.sourceEvent none n) s = .next t
      ∧ t.src n.toNat = { x with seen := i, count := if active && decide (x.count < 15) then x.count + 1 else x.count,
                                 ovf := x.ovf || lost }
      ∧ (∀ m, m ≠ n.toNat → t.src m = s.src m)
      ∧ t.rget Blk.HUB Ctr.HUB_OVERFLOWS.off = s.rget Blk.HUB Ctr.HUB_OVERFLOWS.off + (if lost then 1 else 0)
      ∧ (∀ c, t.rget (Blk.spt c) 0x020 &&& s.rget (Blk.spt c) 0x020 = s.rget (Blk.spt c) 0x020)
      ∧ t = { s with regs := t.regs, srcs := t.srcs })
  ∧ (∀ (s : State) (c : CoreId) (n : BitVec 10) (secure : Bool), s.locked (pairOf c) = false →
    let x := s.priv c n.toNat
    let f (k : Nat) (q : Source) : State := s.setPriv c k q
    (n.toNat = 4 ∨ n.toNat = 5 → x.sense = 2 → x.seen = false → s.privInput c n.toNat = true → x.count < 15 →
      sparseWf Source.dfltPriv (s.core c).priv = true →
      exec (.sourceEvent (some c) n) s = .next ((f n.toNat { x with count := x.count + 1, seen := true }).vmPend c))
    ∧ (let k := if secure then 1 else 2
       let y := s.priv c k
       let sec := s.tb.now / (10 ^ 9 * 2 ^ 16) % 2 ^ 32
       let ns := s.tb.now % (10 ^ 9 * 2 ^ 16) / 2 ^ 16
       let cs := s.fget (Blk.spt c.val) (if secure then Reg.SPT_TMR_S_SECONDS else Reg.SPT_TMR_N_SECONDS)
       let cn := s.fget (Blk.spt c.val) (if secure then Reg.SPT_TMR_S_NS else Reg.SPT_TMR_N_NS)
       y.en = true → y.sense = 0 → cs < sec ∨ (cs = sec ∧ cn ≤ ns) →
         s.srcPending c k = true
         ∧ exec (.timerCompare c secure) s = .next ((f k { y with seen := true }).vmPend c)))
  ∧ (∀ (s : State) (w : RegW) (n : Nat) (c : CoreId) (i : Fin 8), s.locked (pairOf c) = false →
    (s.Takes w Blk.HUB 0x010 → w.high = false → n < 1024 → w.val.toNat % 1024 = n →
      let x := s.src n
      let may := w.acc.world = .S ∨ (x.world = .N ∧ w.acc.basin = x.owner)
      (512 ≤ n → 2 ≤ x.sense → may → x.count < 15 → exec (.sptRaise w) s = .next (s.setSrc n { x with count := x.count + 1 }))
      ∧ (512 ≤ n → 2 ≤ x.sense → may → 15 ≤ x.count →
          exec (.sptRaise w) s = .next ((s.setSrc n { x with ovf := true }).bump Blk.HUB Ctr.HUB_OVERFLOWS))
      ∧ (n < 512 ∨ x.sense ≤ 1 ∨ ¬ may → exec (.sptRaise w) s = .next s))
    ∧ (s.Takes w Blk.HUB 0x018 → w.wide = true → w.val = BitVec.ofNat 64 (c.val * 2 ^ 8 + i.val) →
      let x := s.priv c (8 + i.val)
      let may := w.acc.world = .S ∨ ((s.pair (pairOf c)).basins.getLsbD w.acc.basin.val = true ∧ x.world = .N)
      (may → 2 ≤ x.sense → x.count < 15 → exec (.sptIpi w) s = .next (s.setPriv c (8 + i.val) { x with count := x.count + 1 }))
      ∧ (¬ may → exec (.sptIpi w) s = .next (s.bump Blk.HUB Ctr.HUB_IPI_REFUSED))))
  ∧ (∀ (s : State) (w : RegW) (n sense tl target : Nat), s.Takes w Blk.HUB 0x008 → w.wide = true → s.sptSel w.acc.src = n →
    globalSrc n = true → guardSrc n = false → sense < 8 → tl < 4 → target < 32 →
    let x := s.src n
    let tg : CoreId := Fin.ofNat 32 target
    let word (clr : Nat) (en : Bool) : Word := BitVec.ofNat 64 (target * 2 ^ Reg.SPT_SRC_TARGET.lo + tl * 2 ^ Reg.SPT_SRC_TLEVEL.lo
      + sense * 2 ^ Reg.SPT_SRC_SENSE.lo + (if en then 2 ^ Reg.SPT_SRC_EN.lo else 0) + clr * 2 ^ Reg.SPT_SRC_CLR.lo)
    let mayW := w.acc.world = .S ∨ (x.world = .N ∧ w.acc.basin = x.owner)
    let fits := sense ≤ 4 ∧ (tl = 1 ∨ (tl = 3 ∧ x.world = .S) ∨ (tl = 2 ∧ x.world = .N)) ∧ s.routable tg x.owner x.world = true
    (mayW → fits → sense = x.sense → tg = x.target → ∀ en, w.val = word 1 en →
      exec (.sptClr none 0 w) s = .next (s.setSrc n { x with count := 0, ovf := false, tlevel := tl, en := en }))
    ∧ (mayW → fits → sense ≠ x.sense → tg = x.target → ∀ en, w.val = word 0 en →
      exec (.sptSenseChange w) s = .next (s.setSrc n { x with count := 0, ovf := false, seen := s.srcInput n, sense := sense, tlevel := tl, en := en }))
    ∧ (mayW → fits → sense = x.sense → tg ≠ x.target → x.target.val < 32 → x.world = .S → ∀ en, w.val = word 0 en →
      exec (.sptRetarget w) s = .next (s.setSrc n { x with target := tg, tlevel := tl, en := en }))
    ∧ (mayW → fits → sense = x.sense → tg ≠ x.target → x.world = .N → x.tlevel = 1 → x.owner ≠ 0 → x.en = true →
        2 ≤ x.sense → 0 < x.count → n < 1024 → ∀ en, w.val = word 0 en →
      let b := Blk.spt (s.leadOf x.target).val
      exec (.sptRetarget w) s = .next ((s.rput b 0x020 (s.rget b 0x020 &&& ~~~(BitVec.ofNat 64 (2 ^ x.owner.val)))).setSrc n
        { x with target := tg, tlevel := tl, en := en }))
    ∧ (¬ fits ∨ ¬ mayW → ∀ clr en, w.val = word clr en → exec (.sptClr none 0 w) s = .next s
        ∧ exec (.sptSenseChange w) s = .next s ∧ exec (.sptRetarget w) s = .next s))

/-- R330: an aligned 8-byte read of ERR_REC3 shows the oldest record that is NEW and makes it READ; a write of ERR_DONE by
the S world frees the slot that holds the SEQ it names; from the N world it frees nothing. R295 to R297: GRD_THAW from M on a
frozen core of a split pair: OP 1 clears FROZEN, discards the refused store and enters GUARD at the level TARGET names, with
the access's address and kind; OP 2 resets the core; a master that is not frozen, another OP and a writer without the M bit
change nothing. -/
def Obligations.ErrorQueueAndThaws : Prop :=
  (∀ (s : State) (r : RegR) (w : RegW) (e : ErrRec) (es : List ErrRec),
    (s.frozen r.acc.src = false → s.stopped = false → r.wide = true → r.high = false →
      (∃ a b c, s.guard r.acc (regAddr Blk.ERR 0x028) 8 .read = .ok a b c) →
      s.errs = e :: es → e.isNew = true → e ∉ es → e.ns < 2 ^ 32 → e.sec < 2 ^ 32 →
      exec (.errRec3Read r) s = .next { s with errs := { e with isNew := false } :: es,
                                                rdata := BitVec.ofNat 64 (e.sec * 2 ^ Reg.ERR_REC3_SECONDS.lo + e.ns * 2 ^ Reg.ERR_REC3_NS.lo) })
    ∧ (s.Takes w Blk.ERR 0x030 → w.high = false →
      exec (.errDone w) s = .next (if w.acc.world = .S then
        { s with errs := s.errs.filter (fun x => decide (x.seq ≠ w.val.toNat % 2 ^ 16)) } else s)))
  ∧ (∀ (s : State) (w : RegW) (c : CoreId), s.regsWf = true →
    let g : Fin 113 := ⟨c.val, by omega⟩
    let b := Blk.grd c.val
    let r := s.arch c
    let i := (s.rget b 0x010).toNat
    s.Takes w b 0x018 → w.high = false → s.locked (pairOf c) = false →
    (w.acc.mbit = true → s.flag b Reg.GRD_STATUS_FROZEN = true → s.fget b Reg.GRD_STATUS_CAUSE ≠ 3 →
      (s.core c).txn = none → (s.core c).pend = [] → (s.core c).ctl = [] → s.traceOn c = false → (s.trace.get c).live = false →
      (w.val = 0x31 → r.ms.busy = false → ∃ t, exec (.thawResume g w) s = .next t
        ∧ t.frozen (.core c) = false ∧ (t.arch c).world = .S ∧ (t.arch c).level = .M
        ∧ (t.arch c).pc = r.ms.evec + 0x0C0 ∧ (t.arch c).ms.epc = r.pc &&& 0xFFFFFFFFFFFFFFFC
        ∧ (t.arch c).ms.eaddr = BitVec.ofNat 64 (s.fget b Reg.GRD_FADDR_PA)
        ∧ (t.arch c).ms.ecause = BitVec.ofNat 64 (15 + i / 2 ^ 8 % 4 * 2 ^ 12 + 2 ^ 15 + 0xF * 2 ^ 16)
        ∧ (∀ e ∈ (t.core c).mb, e.refused = false) ∧ (t.arch c).g = r.g ∧ t.mem = s.mem)
      ∧ (w.val = 0x32 → (s.core c).start = none → (s.core c).l2 = [] → ∃ t, exec (.thawReset g w) s = .next t
        ∧ t.frozen (.core c) = false ∧ t.crnState c = 0 ∧ (t.arch c).level = .M ∧ (t.arch c).world = .S
        ∧ (t.core c).mb = [] ∧ (t.core c).l1d = []))
    ∧ (w.val.toNat % 4 = 1 → w.acc.mbit = false ∨ s.flag b Reg.GRD_STATUS_FROZEN = false → exec (.thawResume g w) s = .next s)
    ∧ (w.val.toNat % 4 = 2 → w.acc.mbit = false ∨ s.flag b Reg.GRD_STATUS_FROZEN = false → exec (.thawReset g w) s = .next s))

/-- R334, R335, R372 for each cause: POWER_ON 1, RESET_N 2, PWR_RESET (key 0xD1E5 with the M bit) 3, a mesh UE 5, control
parity 6, SUPPLY 9. The cause is recorded; every core is in reset state, in no transaction, with empty caches and buffers in
state M of the S world; no record, frame, stage or readiness bit is left; the fuses stay; the boot source is sampled from the
pins. R336: PWR_START from the S world records the address for the core; a core of a split pair in reset then runs from it,
one that runs goes on. R337: PWR_BASINRST by the S world resets each basin it names: its rings are off, its SA event queue is
empty, its sources are disabled with COUNT 0, its SPT_VMPEND bits are clear, its stages in states before the switch are
discarded, its bit of PWR_BASINLOG is set; the other basins' sources keep theirs. A write with bit 0 set, and one of the N
world, reset nothing. R342 and R334: KEY_REVOKE with the M bit blows the slot's revocation where another slot is programmed
and not revoked; a slot that is the last is not revoked, and no other fuse changes. -/
def Obligations.ResetsAndStarts : Prop :=
  (∀ (s : State) (w : RegW) (c : CoreId) (n : Nat), n < 240 → s.boot.phase ≠ .inReset →
    let after (o : Host.Outcome State Fault Refusal) (cause : Nat) : Prop := ∃ t, o = .next t
      ∧ t.fget Blk.PWR Reg.PWR_RESET_CAUSE_CAUSE = cause ∧ t.fget Blk.PWR Reg.PWR_BOOT_SRC = s.pins.bootSrc.toNat
      ∧ t.crnState c = 0 ∧ t.locked (pairOf c) = false ∧ (t.arch c).world = .S ∧ (t.arch c).level = .M
      ∧ (t.arch c).cachectl = 7 ∧ (t.arch c).ctlS = 1 ∧ (t.arch c).ctlN = 0 ∧ (t.arch c).mctl = 0 ∧ (t.arch c).ms = ⟨0, 0, 0, 0, 0⟩
      ∧ (t.core c).txn = none ∧ (t.core c).l2 = [] ∧ (t.core c).mb = [] ∧ (t.core c).tlb = []
      ∧ t.errs = [] ∧ t.frames = [] ∧ t.ready n = false ∧ t.fuses = s.fuses ∧ t.pending = s.pending
    (after (exec .resetN s) 2 ∧ (s.stopped = false → after (exec .meshUe s) 5 ∧ after (exec .controlParity s) 6) ∧ after (exec .supply s) 9
      ∧ after (exec .powerOn s) 1)
    ∧ (s.Takes w Blk.PWR 0x070 → w.acc.mbit = true → w.high = false → w.val.toNat % 2 ^ 16 = 0xD1E5 → after (exec (.pwrReset w) s) 3)
    ∧ (s.Takes w Blk.PWR 0x070 → w.acc.mbit = false → exec (.pwrReset w) s = .next s))
  ∧ (∀ (s : State) (w : RegW) (c : CoreId) (a : Nat), s.Takes w Blk.PWR 0x010 → w.wide = true →
    s.locked (pairOf c) = false → s.traceOn c = false → (s.trace.get c).live = false → a < 2 ^ 44 →
    w.val = BitVec.ofNat 64 (c.val * 2 ^ 48 + a * 4) →
    let noted (t : State) := t.modCore c (fun k => { k with start := some (BitVec.ofNat 64 (4 * a)) })
    (w.acc.world = .S → s.crnState c = 0 →
      exec (.pwrStart w) s = .next (((noted s).modArch c (fun r => { r with pc := BitVec.ofNat 64 (4 * a) })).fset
        (Blk.crn (c.val / 2)) (if c.val % 2 = 1 then Reg.CRN_STATUS_STATE1 else Reg.CRN_STATUS_STATE) 1))
    ∧ (w.acc.world = .S → s.crnState c ≠ 0 → exec (.pwrStart w) s = .next (noted s))
    ∧ (w.acc.world = .N → exec (.pwrStart w) s = .next s))
  ∧ (∀ (s : State) (w : RegW) (b : BasinId) (c : CoreId) (k : StageId) (n : Nat), s.Takes w Blk.PWR 0x048 → w.wide = true →
    s.wf = true → globalSrc n = true → b ≠ 0 → (s.stage k).cfgs = [] →
    let st := s.stg k Reg.SLU_STAGE_STATE
    (w.acc.world = .S → w.val = BitVec.ofNat 64 (2 ^ b.val) → ∃ t, exec (.pwrBasinrst w) s = .next t
      ∧ t.fget (Blk.bw b.val) Reg.WER_PUNT_RING_SIZE = 0 ∧ t.fget (Blk.bw b.val) Reg.WER_INJ_RING_SIZE = 0
      ∧ (t.saEvq b.val).q = []
      ∧ ((s.src n).owner = b → t.src n = { s.src n with en := false, count := 0, ovf := false })
      ∧ ((s.src n).owner ≠ b → t.src n = s.src n)
      ∧ (t.rget (Blk.spt c.val) 0x020).getLsbD b.val = false
      ∧ (t.rget Blk.PWR 0x050).getLsbD b.val = true
      ∧ (s.stg k Reg.SLU_STAGE_OWNER = b.val → 1 ≤ st → st ≤ 6 →
          t.stg k Reg.SLU_STAGE_STATE = 9 ∧ t.stg k Reg.SLU_STAGE_CAUSE = 2)
      ∧ t.mem = s.mem ∧ t.fuses = s.fuses)
    ∧ (w.acc.world = .N ∨ w.val.getLsbD 0 = true → exec (.pwrBasinrst w) s = .next s))
  ∧ (∀ (s : State) (w : RegW) (k : Fin 4), s.Takes w Blk.PWR 0x058 → w.high = false → w.acc.mbit = true →
    w.val = BitVec.ofNat 64 ((4 + k.val) * 2 ^ 8) →
    let other := ∃ j : Fin 4, j ≠ k ∧ s.fuses.programmed.getLsbD j.val = true ∧ s.fuses.revoked.getLsbD j.val = false
    (other → exec (.keyRevoke w) s = .next { s with fuses := { s.fuses with revoked := s.fuses.revoked ||| BitVec.ofNat 4 (2 ^ k.val) } })
    ∧ (¬ other → exec (.keyRevoke w) s = .next s))

/-- R343, R344 and R310: a request of the S world for a domain that is not a core's, allowed by the table of its group,
starts the change, one that is not allowed is counted as refused; the end of a change puts the domain into the state asked
for; a core in HUSH wakes on a pending source with EN = 1 that is sent to it. R371, R377, R383 and R27: with the supply back
the device leaves reset and trains its stacks; without REFCLK_SYS nothing runs; without REFCLK_SRD no lane is in service and
no ridge link is up; THERMTRIP_N goes low and nothing else happens; a function that comes into service sets its readiness bit
and the matching RDY_RISE bit. -/
def Obligations.PowerAndSupply : Prop :=
  (∀ (s : State) (w : RegW) (pd st : Nat) (x : Fin 96) (c : CoreId), s.regsWf = true → 32 ≤ pd → pd < 95 → st < 3 → x.val = pd →
    (s.Takes w Blk.PWR 0x018 → w.high = false → w.acc.world = .S → w.val = BitVec.ofNat 64 (st * 2 ^ 8 + pd) → s.pwr pd ≠ 3 →
      (s.pwrAllowed (some w.acc.src) pd st = true → s.pwr pd ≠ st →
        exec (.pwrReq w) s = .next { s.setPwr pd 3 with pwrWait := (pd, st) :: s.pwrWait })
      ∧ (s.pwrAllowed (some w.acc.src) pd st = true → s.pwr pd = st → exec (.pwrReq w) s = .next s)
      ∧ (s.pwrAllowed (some w.acc.src) pd st = false →
        exec (.pwrReq w) s = .next ((s.fset Blk.PWR Reg.PWR_EVENT_REFUSED 1).bump Blk.PWR Ctr.PWR_REFUSED)))
    ∧ (s.pwr pd = 3 → s.pwrWait = [(pd, st)] → ∃ t, exec (.domainChangeDone x) s = .next t ∧ t.pwr pd = st ∧ t.pwrWait = []
        ∧ t.mem = s.mem)
    ∧ (s.locked (pairOf c) = false → s.pwr c.val = 1 → (s.core c).deep = false → s.traceOn c = false →
      (s.trace.get c).live = false → (∃ n ∈ s.srcNumbers, 32 ≤ n ∧ s.srcPending c n = true ∧ (s.src n).en = true ∧ (s.src n).target = c) →
      s.ready Rdy.spoutHub = true → exec (.coreWake c) s = .next ((s.bump (Blk.spt c.val) Ctr.SPT_WAKES).setPwr c.val 0)))
  ∧ (∀ (s : State) (k : PortId) (l : LinkId) (c : CoreId), s.regsWf = true →
    (s.boot.phase = .inReset → ∃ t, exec .supplyRestored s = .next t ∧ t.stopped = false ∧ t.boot.phase = .waitCistern
        ∧ t.fget (Blk.cis 0) Reg.CIS_STATUS_TRAIN = 1 ∧ t.fget (Blk.cis 1) Reg.CIS_STATUS_TRAIN = 1)
    ∧ exec .refclkSysStop s = .next { s with stopped := true }
    ∧ exec .thermtrip s = .next { s with pins := { s.pins with thermtripLow := true } }
    ∧ (∃ t, exec .refclkSrdStop s = .next t ∧ t.ready (Rdy.lane k.val) = false
        ∧ t.fget (Blk.prt k.val) Reg.PRT_STATUS_CDR_LOCK = 0 ∧ t.ready (Rdy.rl l.val) = false ∧ t.cores = s.cores ∧ t.mem = s.mem)
    ∧ (s.stopped = false → s.locked (pairOf c) = false → s.crnState c = 1 → s.ready (Rdy.core c.val) = false →
      ∃ t, exec (.functionReady (.core c)) s = .next t ∧ t.ready (Rdy.core c.val) = true
        ∧ (t.rget Blk.RDY 0x048).getLsbD c.val = true
        ∧ (∀ b off, ¬ (b = 0 ∧ (off / 8 = 1 ∨ off / 8 = 9)) → off < 4096 → t.rget b off = s.rget b off))
    ∧ (s.stopped = false → exec (.functionReady .sluice) s = .next (s.setReady 222 true)))

/-- R346, R350, R374: CLK_FREQn takes codes 4 to 22 and ignores others; a code no higher than the one in force is applied at
once, within the highest that VMAX allows; a poll of the regulator records VOUT and the target, the higher of the clamped
core target and the floor; the rail moves by at most 10 mV; an alert and a third failure in a row lower every code above 16
to 16. R348 and R349: a write of DTB_SET0 by the S world schedules a step to the time of DTB_SET1 and its own NS; the step
sets that time, STEP_DONE and one more of STEPS; DTB_ADJ takes rates within 500 parts per million; an edge of the PPS input
records the time, one within 100 ms of the last only sets PPS_GLITCH. -/
def Obligations.ClocksAndTime : Prop :=
  (∀ (s : State) (w : RegW) (p : Fin 16) (r : AvsReading), s.regsWf = true →
    let code := Reg.CLK_FREQ_CODE.nth p.val
    let cur := Reg.CLK_FREQ_CUR.nth p.val
    (s.Takes w Blk.CLK (8 * p.val) → w.high = false → w.acc.world = .S → s.avs.failed = false →
      (4 ≤ w.val.toNat % 256 → w.val.toNat % 256 ≤ 22 →
        exec (.clkFreqWrite p w) s = .next (s.fset Blk.CLK code (w.val.toNat % 256)))
      ∧ (w.val.toNat % 256 < 4 ∨ 22 < w.val.toNat % 256 → exec (.clkFreqWrite p w) s = .next s))
    ∧ (s.pwr (2 * p.val) = 0 → s.stopped = false → 4 ≤ s.fget Blk.CLK code →
        880 ≤ s.fget Blk.PWR Reg.PWR_AVS_VMAX →
        s.fget Blk.CLK code ≤ s.fget Blk.CLK cur → exec (.clkFreqApply p) s = .next (s.fset Blk.CLK cur (s.fget Blk.CLK code)))
    ∧ (s.avs.failed = false → r.ok = true → r.statusFault = false →
      let lo := s.fget Blk.PWR Reg.PWR_AVS_VMIN
      let hi := s.fget Blk.PWR Reg.PWR_AVS_VMAX
      let clamped := if r.coreTarget.toNat < lo then min lo hi else min r.coreTarget.toNat hi
      exec (.avsPoll r) s = .next { (s.fset Blk.PWR Reg.PWR_AVS_VOUT r.vout.toNat).fset Blk.PWR Reg.PWR_AVS_TARGET
        (if clamped < r.floorTarget.toNat then r.floorTarget.toNat else clamped) with avs := { s.avs with fails := 0 } })
    ∧ (s.avs.failed = false → ∀ t, s.fget Blk.PWR Reg.PWR_AVS_TARGET = t → t ≠ 0 → t ≠ s.avs.cmd →
      ∃ u, exec (.voutCommand true) s = .next u ∧ u.avs.fails = 0
        ∧ (u.avs.cmd : Int) = (if (t : Int) - s.avs.cmd > 10 then (s.avs.cmd : Int) + 10 else if (t : Int) - s.avs.cmd < -10 then (s.avs.cmd : Int) - 10 else (t : Int))
        ∧ u.rget Blk.PWR Ctr.PWR_AVS_CMDS.off = s.rget Blk.PWR Ctr.PWR_AVS_CMDS.off + 1)
    ∧ (∃ u, exec .pmbAlert s = .next u ∧ u.avs.failed = true ∧ u.fget Blk.PWR Reg.PWR_EVENT_AVS_FAIL = 1
        ∧ u.fget Blk.CLK cur = min (s.fget Blk.CLK cur) 16 ∧ u.fget Blk.CLK code = min (s.fget Blk.CLK code) 16))
  ∧ (∀ (s : State) (w : RegW), s.regsWf = true →
    (s.Takes w Blk.DTB 0x000 → w.wide = true → w.acc.world = .S →
      let ns := w.val.toNat / 2 ^ 32
      (ns < 10 ^ 9 → exec (.dtbSet w) s = .next { s.fset Blk.DTB Reg.DTB_SET0_NS ns with
        tb := { s.tb with step := some ((s.fget Blk.DTB Reg.DTB_SET1_SECONDS * 10 ^ 9 + ns) * 2 ^ 16), stepTick := s.tb.ticks + 1000 } })
      ∧ (10 ^ 9 ≤ ns → exec (.dtbSet w) s = .next s))
    ∧ (∀ t, s.tb.step = some t → ∃ u, exec .dtbStepApply s = .next u ∧ u.tb.now = t ∧ u.tb.step = none
        ∧ u.fget Blk.DTB Reg.DTB_EVENT_STEP_DONE = 1 ∧ u.rget Blk.DTB Ctr.DTB_STEPS.off = s.rget Blk.DTB Ctr.DTB_STEPS.off + 1)
    ∧ (s.Takes w Blk.DTB 0x010 → w.high = false → w.acc.world = .S →
      let v := w.val.toNat % 2 ^ 32
      (v ≤ 500000000 ∨ 2 ^ 32 - 500000000 ≤ v → exec (.dtbAdj w) s = .next (s.fset Blk.DTB Reg.DTB_ADJ_ADJ v))
      ∧ (500000000 < v → v < 2 ^ 32 - 500000000 → exec (.dtbAdj w) s = .next s))
    ∧ (s.tb.ppsTick = none → ∃ u, exec .ppsEdge s = .next u
        ∧ u.fget Blk.DTB Reg.DTB_PPS0_NS = s.tb.now % (10 ^ 9 * 2 ^ 16) / 2 ^ 16
        ∧ u.fget Blk.DTB Reg.DTB_PPS0_FRAC = s.tb.now % 2 ^ 16
        ∧ u.fget Blk.DTB Reg.DTB_PPS1_SECONDS = s.tb.now / (10 ^ 9 * 2 ^ 16) % 2 ^ 48
        ∧ u.fget Blk.DTB Reg.DTB_EVENT_PPS = 1 ∧ u.tb.ppsTick = some s.tb.ticks)
    ∧ (∀ n, s.tb.ppsTick = some n → s.tb.ticks < n + 100000000 →
        exec .ppsEdge s = .next ({ s with tb := { s.tb with ppsTick := some s.tb.ticks } }.fset Blk.DTB Reg.DTB_EVENT_PPS_GLITCH 1)))

/-- R251 and R257 for a line that no core holds and that has no directory entry, asked for by a running core of a split pair
outside a transaction, with room for it: RD_S brings the home's data in state E (S where the guard does not grant W) and RD_U
in state M, each with the guard's rights; the directory then records the core; neither changes memory. R251, R254, R258 for a
core that holds a line outside a transaction and outside a cairn interval, recorded as its owner: WB takes the data to the
home and the line out of the L2 and L1s; WBK takes the data and leaves the line; EVICT of a clean line and SNP_INV take it
out; SNP_SHARE leaves it in S and the core recorded as a sharer; a dirty copy's data reach the home in each case. R251:
UPGRADE of a line in S whose only other sharer is `o` makes it M with the data it had; `o` gives its copy up. -/
def Obligations.HomeMessages : Prop :=
  (∀ (s : State) (c : CoreId) (line : BitVec 40) (r w x : Bool), s.mayRequest c line.toNat = true → s.locked (pairOf c) = false →
    (s.core c).txn = none → s.l2Find c line.toNat = none → s.dirFind (s.homeOf line.toNat) line.toNat = none →
    ((s.core c).l2.filter (fun l => l.line % 2048 == line.toNat % 2048)) = [] →
    ((s.slice (s.homeOf line.toNat)).dir.filter (fun e => e.line % 2048 == line.toNat % 2048)) = [] →
    ((s.slice (s.homeOf line.toNat)).lines.filter (fun l => l.line % 2048 == line.toNat % 2048 && l.line != line.toNat)) = [] →
    line.toNat * 64 < 0x800000000 →
    let n := line.toNat
    let h := s.homeOf n
    let copy := s.poolFind h n
    let data := (copy.map (fun l => l.data)).getD (s.backData n)
    let bad := (copy.map (fun l => l.poison)).getD (s.backPoison n)
    let holds (t : State) (st : Mesi) (em : Bool) : Prop :=
      (t.l2Find c n) = some ⟨n, 0, st, data, bad, false, false, false, r, w, x⟩
      ∧ (∃ e ∈ (t.slice h).dir, e.line = n ∧ e.em = em ∧ e.sharers = BitVec.ofNat 32 (2 ^ c.val) ∧ e.owner = c)
      ∧ t.mem = s.mem ∧ t.arch c = s.arch c ∧ ∀ o, o ≠ c → t.core o = s.core o
    (s.guard (coreAcc c (s.arch c)) (n * 64) 64 .read = .ok r w x →
      ∃ t, exec (.rdS c line false) s = .next t ∧ holds t (if w then .E else .S) w)
    ∧ (s.guard (coreAcc c (s.arch c)) (n * 64) 64 .write = .ok r w x →
      ∃ t, exec (.rdU c line) s = .next t ∧ holds t .M true))
  ∧ (∀ (s : State) (c : CoreId) (l : L2Line) (e : DirEnt) (p : PoolLine), s.l2Find c l.line = some l → l.line < 2 ^ 29 →
    l.rmark = false → l.wmark = false → l.held = false → (s.slice (s.homeOf l.line)).dir = [e] → e.line = l.line →
    e.em = true → e.owner = c → e.pins = [] → (s.slice (s.homeOf l.line)).lines = [p] → p.line = l.line →
    let n := l.line
    let h := s.homeOf n
    let line : BitVec 40 := BitVec.ofNat 40 n
    let gone (t : State) : Prop := t.l2Find c n = none ∧ (∀ x ∈ (t.core c).l1d, x.line ≠ n) ∧ (t.slice h).dir = []
      ∧ ∀ m, m ≠ n → t.l2Find c m = s.l2Find c m
    let written (t : State) : Prop := (t.slice h).lines = [{ p with data := l.data, poison := l.poison, dirty := true }]
    (l.st = .M → (∃ t, exec (.wb c line) s = .next t ∧ gone t ∧ written t ∧ t.mem = s.mem)
      ∧ (∃ t, exec (.wbk c line) s = .next t ∧ t.cores = s.cores ∧ written t ∧ (t.slice h).dir = [e])
      ∧ (∃ t, exec (.snpInv c line) s = .next t ∧ gone t ∧ written t)
      ∧ (∃ t, exec (.snpShare c line) s = .next t ∧ (t.l2Find c n).map (fun x => x.st) = some .S ∧ written t
          ∧ (t.slice h).dir = [{ e with em := false, sharers := e.sharers ||| BitVec.ofNat 32 (2 ^ c.val) }]))
    ∧ (l.st ≠ .M → ∃ t, exec (.evict c line) s = .next t ∧ gone t ∧ (t.slice h).lines = [p]))
  ∧ (∀ (s : State) (c o : CoreId) (l k : L2Line) (e : DirEnt) (r w x : Bool), s.l2Find c l.line = some l → l.st = .S → l.line < 2 ^ 29 →
    o ≠ c → s.l2Find o l.line = some k → k.st = .S → k.rmark = false → k.wmark = false → k.held = false → l.held = false →
    (s.core c).txn = none → s.mayRequest c l.line = true → (s.slice (s.homeOf l.line)).dir = [e] → e.line = l.line → e.em = false →
    e.sharers = BitVec.ofNat 32 (2 ^ c.val ||| 2 ^ o.val) → s.guard (coreAcc c (s.arch c)) (l.line * 64) 64 .write = .ok r w x →
    ∃ t, exec (.upgrade c (BitVec.ofNat 40 l.line)) s = .next t
      ∧ t.l2Find c l.line = some { l with st := .M, r := r, w := w, x := x } ∧ t.l2Find o l.line = none
      ∧ (t.slice (s.homeOf l.line)).dir = [{ e with em := true, sharers := BitVec.ofNat 32 (2 ^ c.val), owner := c }]
      ∧ t.mem = s.mem ∧ t.arch c = s.arch c ∧ t.arch o = s.arch o)

/-- R233, R255, R256 for a cistern line without cached copies whose home holds a Pool copy: RD_NC reads it, WR_NC writes the
bytes of its mask, an AMO gives the old value and leaves the new one that its code names; nothing goes to the cistern. R262:
UNPIN drops a finished transaction's pins; with all 16 ways of a directory set pinned, ABORT_ORDER aborts the transaction
with the largest stamp with DIR_PRESSURE. -/
def Obligations.UncachedAndPins : Prop :=
  (∀ (s : State) (line : BitVec 40) (p : PoolLine) (m : BitVec 64) (d : LineData) (pa : BitVec 46) (fn : BitVec 6) (b k : Word),
    s.served (line.toNat * 64) = true → line.toNat * 64 < 0x800000000 → s.dirFind (s.homeOf line.toNat) line.toNat = none →
    (s.slice (s.homeOf line.toNat)).dir = [] → (s.slice (s.homeOf line.toNat)).lines = [p] → p.line = line.toNat → p.poison = 0 →
    let n := line.toNat
    let h := s.homeOf n
    (∃ t, exec (.rdNc line) s = .next t ∧ t.rdata = p.data.setWidth 64 ∧ (t.slice h).lines = [p] ∧ t.mem = s.mem ∧ t.cores = s.cores)
    ∧ (∃ t, exec (.wrNc line m d) s = .next t ∧ (t.slice h).lines.length = 1 ∧ ∃ q ∈ (t.slice h).lines, q.line = n ∧ q.dirty = true
        ∧ (∀ i, i < 64 → lineByte q.data i = if m.getLsbD i then lineByte d i else lineByte p.data i)
        ∧ t.mem = s.mem ∧ t.cores = s.cores)
    ∧ (pa.toNat / 64 = n → fn.toNat / 16 = 3 → pa.toNat % 8 = 0 → s.served pa.toNat = true →
        let i := pa.toNat % 64
        let v : Word := BitVec.ofNat 64 (p.data.toNat / 2 ^ (8 * i) % 2 ^ 64)
        let leaves (z : Word) : Prop := ∃ t, exec (.amoAtHome false pa fn b k) s = .next t ∧ t.rdata = v
          ∧ (t.slice h).lines.length = 1 ∧ ∃ q ∈ (t.slice h).lines, q.line = n ∧ q.dirty = true ∧ q.data.toNat / 2 ^ (8 * i) % 2 ^ 64 = z.toNat
          ∧ (∀ j, j < 64 → j < i ∨ i + 8 ≤ j → lineByte q.data j = lineByte p.data j) ∧ t.mem = s.mem ∧ t.cores = s.cores
        (fn.toNat % 16 = 0 → leaves b) ∧ (fn.toNat % 16 = 1 → leaves (if v = k then b else v)) ∧ (fn.toNat % 16 = 2 → leaves (v + b))
        ∧ (fn.toNat % 16 = 3 → leaves (v &&& b)) ∧ (fn.toNat % 16 = 4 → leaves (v ||| b)) ∧ (fn.toNat % 16 = 5 → leaves (v ^^^ b))
        ∧ (fn.toNat % 16 = 6 → leaves (if v.toInt ≤ b.toInt then v else b)) ∧ (fn.toNat % 16 = 7 → leaves (if v.toInt ≤ b.toInt then b else v))
        ∧ (fn.toNat % 16 = 8 → leaves (if v.toNat ≤ b.toNat then v else b)) ∧ (fn.toNat % 16 = 9 → leaves (if v.toNat ≤ b.toNat then b else v))))
  ∧ (∀ (s : State) (h : SliceId) (c : CoreId) (q : BitVec 4) (set : BitVec 11) (x : Txn),
    let r := s.arch c
    let drop := fun (e : DirEnt) => { e with pins := e.pins.filter (fun p => decide (p.core ≠ c) || decide (p.seq ≠ q)) }
    let live := fun (e : DirEnt) => e.em || decide (e.sharers ≠ 0) || !e.pins.isEmpty
    ((s.core c).txn = none →
      exec (.unpin h c q) s = .next (s.modSlice h (fun z => { z with dir := (z.dir.map drop).filter live })))
    ∧ ((s.slice h).dir.length = 16 → (∀ e ∈ (s.slice h).dir, e.line % 2048 = set.toNat ∧ e.pins ≠ []) →
      (∀ e ∈ (s.slice h).dir, ∀ p ∈ e.pins, p.core ≠ c → p.stamp.toNat < x.stamp.toNat) →
      (∀ e ∈ (s.slice h).dir, ∀ p ∈ e.pins, p.core = c → p.stamp = x.stamp) →
      (∃ e ∈ (s.slice h).dir, ∃ p ∈ e.pins, p.core = c) → (s.core c).txn = some x → x.depth < 32 → s.regsWf = true →
      ∃ t, exec (.abortOrder h set none) s = .next t ∧ (t.core c).txn = none
        ∧ t.rget (Blk.pol h.val) Ctr.POL_DIR_PRESSURE.off = s.rget (Blk.pol h.val) Ctr.POL_DIR_PRESSURE.off + 1
        ∧ t.rget (Blk.trn c.val) Ctr.TRN_TX_ABORT.off = s.rget (Blk.trn c.val) Ctr.TRN_TX_ABORT.off + 1
        ∧ (∀ d, x.dst = some d → t.arch c = ({ r.restore x.save with pc := x.fallback }).put d
            (BitVec.ofNat 128 (x.depth * 2 ^ 17 + 2 ^ 16 + 4 * 2 ^ 8)))
        ∧ ∀ o, o ≠ c → t.core o = s.core o))

/-- R244 and R245: TRN_L2OP of a split core without a transaction cleans every modified line to its home and, with OP 2,
empties the L2 and L1s, with BUSY set until the walk is done; a write while BUSY does nothing. POL_SRAM by the S world takes
0 to 12 ways; raising it sets BUSY until the conversion is done. R326: an uncorrectable error of a slice, or FENCE written by
the S world, starts its fence, with STATE 1 and its readiness bit clear; at its end every L2 has given up the slice's lines,
the home has moved and STATE is 2. -/
def Obligations.PoolAndWalks : Prop :=
  (∀ (s : State) (c : CoreId) (h : SliceId) (w : RegW) (n : Nat), s.regsWf = true → w.high = false →
    let b := Blk.trn c.val
    let g := Blk.pol h.val
    (s.Takes w b 0x080 → s.locked (pairOf c) = false → (s.core c).txn = none → (∀ l ∈ (s.core c).l2, l.rmark = false ∧ l.wmark = false) →
      s.flag b Reg.TRN_L2OP_BUSY = false →
      (w.val = 1 → ∃ t, exec (.l2opClean c w) s = .next t ∧ t.flag b Reg.TRN_L2OP_BUSY = true
        ∧ (∀ l ∈ (t.core c).l2, l.st ≠ .M) ∧ (t.core c).l2.length = (s.core c).l2.length ∧ t.arch c = s.arch c)
      ∧ (w.val = 2 → ∃ t, exec (.l2opCleanInvalidate c w) s = .next t ∧ t.flag b Reg.TRN_L2OP_BUSY = true
        ∧ (t.core c).l2 = [] ∧ t.arch c = s.arch c))
    ∧ (s.Takes w b 0x080 → s.flag b Reg.TRN_L2OP_BUSY = true →
      exec (.l2opClean c w) s = .next s ∧ exec (.l2opCleanInvalidate c w) s = .next s)
    ∧ exec (.l2WalkDone c) s = .next (s.fset b Reg.TRN_L2OP_BUSY 0)
    ∧ (s.Takes w g 0x000 → w.acc.world = .S → s.flag g Reg.POL_SRAM_BUSY = false → w.val.toNat = n → n < 16 → (s.slice h).lines = [] →
      (s.fget g Reg.POL_SRAM_WAYS < n → n ≤ 12 → ∃ t, exec (.polSramWrite h w) s = .next t ∧ t.fget g Reg.POL_SRAM_WAYS = n
        ∧ t.fget g Reg.POL_SRAM_BUSY = 1 ∧ t.mem = s.mem ∧ t.cores = s.cores)
      ∧ (s.fget g Reg.POL_SRAM_WAYS = n ∨ 12 < n → exec (.polSramWrite h w) s = .next s))
    ∧ exec (.sramConversionDone h) s = .next (s.fset g Reg.POL_SRAM_BUSY 0))
  ∧ (∀ (s : State) (h : SliceId) (w : RegW), s.regsWf = true → w.high = false →
    let g := Blk.pol h.val
    (s.fget g Reg.POL_FENCE_STATE = 0 → ∃ t, exec (.poolSliceUe h) s = .next t ∧ t.fget g Reg.POL_FENCE_STATE = 1
      ∧ t.ready (Rdy.pool h.val) = false ∧ t.cores = s.cores ∧ t.slices = s.slices ∧ t.mem = s.mem)
    ∧ (s.fget g Reg.POL_FENCE_STATE ≠ 0 → exec (.poolSliceUe h) s = .next s)
    ∧ (s.Takes w g 0x018 → w.acc.world = .S → w.val % 2 = 1 → exec (.poolFenceCmd h w) s = exec (.poolSliceUe h) s)
    ∧ (s.Takes w g 0x018 → w.acc.world = .N → exec (.poolFenceCmd h w) s = .next s)
    ∧ (s.fget g Reg.POL_FENCE_STATE ≠ 1 → exec (.poolFenceDone h) s = .next s)
    ∧ (∀ x, s.substOf h = some x → s.fget g Reg.POL_FENCE_STATE = 1 →
      (∀ c, ∀ l ∈ (s.core c).l2, s.homeOf l.line = h → l.rmark = false ∧ l.wmark = false ∧ l.held = false) →
      ∃ t, exec (.poolFenceDone h) s = .next t ∧ t.fget g Reg.POL_FENCE_STATE = 2 ∧ t.fget g Reg.POL_FENCE_SUBST = x.val
        ∧ (t.slice h).lines = [] ∧ (t.slice h).dir = []
        ∧ ∀ c, (t.core c).l2 = (s.core c).l2.filter (fun l => decide (s.homeOf l.line ≠ h)) ∧ t.arch c = s.arch c))

/-- R266, R273 and R274: training ends with the pseudo-channels that failed mapped out and the rest in service; a MAPOUT
command of the S world maps one out; RESERVE is set only while no region uses the range, which then fills. -/
def Obligations.PseudoChannels : Prop :=
  ∀ (s : State) (k : Fin 2) (failed : BitVec 32) (j : Fin 32) (w : RegW), s.regsWf = true → w.high = false → s.errs.length < 16 →
    let b := Blk.cis k.val
    let p := Reg.CIS_STATUS_TRAIN
    let busy := s.flag Blk.SA Reg.SA_REGION_VALID = true ∨ s.rget Blk.SPL Reg.SPL_DEEP_SIZE_SIZE.off ≠ 0
      ∨ s.fget Blk.SLU Reg.SLU_AREA_SIZE_SIZE ≠ 0
    let free := s.flag Blk.SA Reg.SA_REGION_VALID = false ∧ s.rget Blk.SPL Reg.SPL_DEEP_SIZE_SIZE.off = 0
      ∧ s.fget Blk.SLU Reg.SLU_AREA_SIZE_SIZE = 0
    (s.fget b p ≠ 1 → exec (.cisTrainDone k failed) s = .next s)
    ∧ (s.fget b p = 1 → s.reserve = false → s.rget b 0x018 < 2 ^ 32 → ∃ t, exec (.cisTrainDone k failed) s = .next t
      ∧ t.rget b 0x018 = s.rget b 0x018 ||| failed.setWidth 64
      ∧ t.fget b Reg.CIS_STATUS_IN_SERVICE = t.inService k.val
      ∧ (t.inService k.val = 0 → t.fget b p = 3) ∧ (t.inService k.val ≠ 0 → t.fget b p = 2 ∧ t.ready (Rdy.cis k.val) = true)
      ∧ t.mem = s.mem)
    ∧ (s.Takes w b 0x020 → w.acc.world = .S → w.val.toNat = 1 + 256 * j.val → s.mapped (32 * k.val + j.val) = false →
      ∃ t, exec (.mapout k w) s = .next t ∧ t.mapped (32 * k.val + j.val) = true ∧ t.flag b Reg.CIS_EVENT_MAPOUT = true
        ∧ (s.reserve = true → s.flag Blk.CIS0 Reg.CIS_CAP_RELOC_VALID = false →
          t.fget Blk.CIS0 Reg.CIS_CAP_RELOC_PC = 32 * k.val + j.val ∧ t.flag Blk.CIS0 Reg.CIS_CAP_RELOC_VALID = true)
        ∧ (∃ e, t.errs = s.errs ++ [e] ∧ e.cls = 14 ∧ e.index = 32 * k.val + j.val) ∧ t.mem = s.mem)
    ∧ (s.Takes w b 0x020 → w.acc.world = .N ∨ w.val.toNat = 1 + 256 * j.val ∧ s.mapped (32 * k.val + j.val) = true →
      exec (.mapout k w) s = .next s)
    ∧ (s.Takes w Blk.CIS0 0x000 → w.acc.world = .S → w.val % 2 = 1 → s.reserve = false →
      (free → ∃ t, exec (.reserveSet w) s = .next t ∧ t.reserve = true ∧ t.flag Blk.CIS0 Reg.CIS_CAP_FILLING = true
        ∧ (∀ h, ∀ l ∈ (t.slice h).lines, l.line * 64 < 0x7E0000000) ∧ t.mem = s.mem)
      ∧ (busy → exec (.reserveSet w) s = .next s))
    ∧ exec .reserveFillDone s = .next (s.fset Blk.CIS0 Reg.CIS_CAP_FILLING 0)

/-- R268, R269 and R271: a cistern read returns the word, corrected with one or two errors, poisoned with three or where it
holds poison; a full write stores a clean word, a partial one merges or poisons; a scrub read rewrites what it cannot
correct. -/
def Obligations.CisternWords : Prop :=
  ∀ (s : State) (a : BitVec 35) (n : Nat) (m : BitVec 8) (d : Word) (last : Bool), s.wf = true →
    let p := pcOf a.toNat
    let ce := fun (q : Nat) (x : State) => x.rget (Blk.cis (q / 32)) (Ctr.CIS_CE_j.nth (q % 32)).off
    let ue := fun (q : Nat) (x : State) => x.rget (Blk.cis (q / 32)) (Ctr.CIS_UE_j.nth (q % 32)).off
    (∀ (k : Nat), s.resolve a.toNat = .at_ k → s.stackReady k = true →
      let q := pcOfLoc k
      let w := k / 8 * 8
      (s.wordPoison k = true → exec (.cisRead a n) s = .next { s with rdata := 0 })
      ∧ (s.wordPoison k = false →
        exec (.cisRead a 0) s = .next { s with rdata := s.locWord k }
        ∧ (n = 1 ∨ n = 2 → ∃ t, exec (.cisRead a n) s = .next t ∧ t.rdata = s.locWord k ∧ ce q t = ce q s + 1 ∧ t.mem = s.mem)
        ∧ (3 ≤ n → ∃ t, exec (.cisRead a n) s = .next t ∧ t.rdata = 0 ∧ ue q t = ue q s + 1 ∧ t.mem = s.mem))
      ∧ (∃ t, exec (.cisWrite a 0xFF d n) s = .next t ∧ t.locWord k = d ∧ t.wordPoison k = false
        ∧ ∀ (x : Nat), x / 8 ≠ k / 8 → t.locByte x = s.locByte x)
      ∧ (m ≠ 0 → m ≠ 0xFF → s.wordPoison k = false → n ≤ 2 → ∃ t, exec (.cisWrite a m d n) s = .next t
        ∧ (∀ i ∈ List.range 8, t.locByte (w + i) = if m.getLsbD i then d.extractLsb' (8 * i) 8 else s.locByte (w + i))
        ∧ ∀ (x : Nat), x / 8 ≠ k / 8 → t.locByte x = s.locByte x)
      ∧ (m ≠ 0 → m ≠ 0xFF → s.wordPoison k = true ∨ 3 ≤ n → ∃ t, exec (.cisWrite a m d n) s = .next t
        ∧ t.wordPoison k = true ∧ ue q t = ue q s + 1 ∧ t.mem = s.mem))
    ∧ (s.resolve a.toNat = .lost → ∃ t, exec (.cisWrite a m d n) s = .next t ∧ t.mem = s.mem
      ∧ t.rget Blk.CIS0 Ctr.CIS0_LOST_WB.off = s.rget Blk.CIS0 Ctr.CIS0_LOST_WB.off + 1)
    ∧ (s.fget Blk.CIS0 Reg.CIS_SCRUB_PERIOD_H = 0 ∨ s.mapped p = true → exec (.scrubRead a n last) s = .next s)
    ∧ (s.fget Blk.CIS0 Reg.CIS_SCRUB_PERIOD_H ≠ 0 → s.mapped p = false →
      let k := locOf p (pageOf a.toNat) (bits a.toNat 11 0)
      s.stackReady k = true → ∃ t, exec (.scrubRead a n last) s = .next t ∧ t.mem = s.mem
        ∧ (s.wordPoison k = false → 3 ≤ n → t.wordPoison k = true ∧ ue p t = ue p s + 1)
        ∧ (s.wordPoison k = false → n = 1 ∨ n = 2 → ce p t = ce p s + 1 ∧ t.wordPoison k = false)
        ∧ t.rget Blk.CIS0 Ctr.CIS0_SCRUB_PASSES.off = s.rget Blk.CIS0 Ctr.CIS0_SCRUB_PASSES.off + (if last then 1 else 0))

/-- R322, R325 and R327: a channel of its own that fails shows STATE 2 with its readiness bits clear; QUIESCE, TEST and
RETURN of the S world take it out of service and back; a spillway bank that fails is fenced. -/
def Obligations.ChannelService : Prop :=
  ∀ (s : State) (c : ChanId) (x : Fin 8) (cause : ChanFailCause) (w : RegW) (bank : Fin 4), s.regsWf = true → w.high = false →
    s.errs.length < 16 → s.linkedCh c = false → (∀ f ∈ s.frames, f.ch ≠ c) →
    let b := Blk.cas c.val
    let k := s.chan c
    (s.chState c = 1 → cause = .parity ∨ cause = .table ∨ cause = .intake → s.flag Blk.ERR Reg.ERR_CTRL_ESC_EN = false →
      ∃ t, exec (.channelFail c x cause) s = .next t ∧ t.chState c = 2 ∧ t.ready (Rdy.ch c.val) = false
        ∧ (∀ i ∈ List.finRange 8, t.ready (Rdy.tier (8 * c.val + i.val)) = false) ∧ t.frames = s.frames
        ∧ ∃ e, t.errs = s.errs ++ [e] ∧ e.cls = 8 ∧ e.index = c.val)
    ∧ (s.chState c = 0 → exec (.channelFail c x cause) s = .next s)
    ∧ (s.Takes w b Reg.CAS_CMD_OP.off → w.acc.world = .S →
      (w.val = 1 → s.chState c = 1 → k.quiescing = false →
        exec (.casQuiesce c w) s = .next (s.modChan c (fun k => { k with quiescing := true })))
      ∧ (w.val = 1 → s.chState c ≠ 1 → exec (.casQuiesce c w) s = .next s)
      ∧ (w.val = 2 → s.chState c = 2 ∨ s.chState c = 3 → k.testing = false →
        exec (.casTest c w) s = .next (s.modChan c (fun k => { k with testing := true })))
      ∧ (w.val = 2 → s.chState c = 0 ∨ s.chState c = 1 → exec (.casTest c w) s = .next s)
      ∧ (w.val = 3 → s.chState c = 3 → k.testing = false → ∃ t, exec (.casReturn c w) s = .next t ∧ t.chState c = 1
        ∧ t.ready (Rdy.ch c.val) = true ∧ ∀ i ∈ List.finRange 8, t.ready (Rdy.tier (8 * c.val + i.val)) = true)
      ∧ (w.val = 3 → s.chState c ≠ 3 → exec (.casReturn c w) s = .next s))
    ∧ (s.Takes w b Reg.CAS_CMD_OP.off → w.acc.world = .N →
      exec (.casQuiesce c w) s = .next s ∧ exec (.casTest c w) s = .next s ∧ exec (.casReturn c w) s = .next s)
    ∧ (k.quiescing = true → ∃ t, exec (.channelQuiesced c) s = .next t ∧ t.chState c = 3
      ∧ t.ready (Rdy.ch c.val) = false ∧ (t.chan c).quiescing = false)
    ∧ (k.quiescing = false → exec (.channelQuiesced c) s = .next s)
    ∧ (k.testing = true → ∃ t, exec (.casTestDone c true) s = .next t ∧ t.chState c = 3 ∧ (t.chan c).testing = false)
    ∧ (k.testing = true → s.chState c = 3 → ∃ t, exec (.casTestDone c false) s = .next t ∧ t.chState c = 2)
    ∧ (k.testing = false → exec (.casTestDone c true) s = .next s)
    ∧ (bitAt s.bankFenced bank.val = false → (∀ f ∈ s.frames, f.holdsIn bank.val = false) →
      ∃ t, exec (.spillBankFail bank) s = .next t ∧ bitAt t.bankFenced bank.val = true ∧ t.ready (Rdy.spl bank.val) = false
        ∧ t.frames = s.frames ∧ ∃ e, t.errs = s.errs ++ [e] ∧ e.cls = 11 ∧ e.index = bank.val)
    ∧ (bitAt s.bankFenced bank.val = true → exec (.spillBankFail bank) s = .next s)

/-- R34, R36, R37: a lane of a settled MAC becomes ready with its signal shown; a lane of no MAC's mode that is lost or
withheld loses its readiness; AN_RESOLVED settles on the highest common mode or enters FLOOR_FAIL. -/
def Obligations.LanesAndNegotiation : Prop :=
  ∀ (s : State) (m : MacId) (k : Fin 32) (w : RegW) (a : BitVec 13) (rs br : Bool), s.regsWf = true → s.stopped = false →
    w.high = false →
    let b := Blk.prt k.val
    let g := Blk.mac m.val
    let st := s.macState m
    let open_ := s.macHeld m = false ∧ s.flag g Reg.MAC_CTRL_MEDIUM = false
    (∀ x, s.macOfLane k.val = some x → s.laneIn k.val = true → (s.usedLanes x).contains k.val = true →
      s.macState x = 3 ∨ s.macState x = 4 ∨ s.macState x = 6 ∨ s.macState x = 7 →
      ∃ t, exec (.laneReady k) s = .next t ∧ t.ready (Rdy.lane k.val) = true ∧ t.flag b Reg.PRT_STATUS_SIGNAL = true
        ∧ t.flag b Reg.PRT_STATUS_CDR_LOCK = true ∧ t.flag b Reg.PRT_STATUS_TRAINED = true ∧ t.macs = s.macs ∧ t.frames = s.frames)
    ∧ (s.laneIn k.val = false ∨ s.macOfLane k.val = none → exec (.laneReady k) s = .next s)
    ∧ ((∀ x, s.macOfLane k.val = some x → (s.usedLanes x).contains k.val = false) →
      ∃ t, exec (.laneLoss k) s = .next t ∧ t.ready (Rdy.lane k.val) = false ∧ t.flag b Reg.PRT_STATUS_SIGNAL = false
        ∧ t.flag b Reg.PRT_STATUS_CDR_LOCK = false ∧ t.macs = s.macs ∧ t.frames = s.frames)
    ∧ (s.macOfLane k.val = none → s.laneIn k.val = true →
      (s.Takes w b 0x000 → w.val % 2 = 0 → ∃ t, exec (.laneWithhold k false w) s = .next t
        ∧ t.flag b Reg.PRT_CTRL_ENABLE = false ∧ t.laneIn k.val = false ∧ t.ready (Rdy.lane k.val) = false ∧ t.macs = s.macs)
      ∧ (s.Takes w b 0x400 → s.expert b = true → w.wide = true → w.val % 2 = 1 → w.val.toNat / 2 ^ 32 = 1250 →
        ∃ t, exec (.laneWithhold k true w) s = .next t ∧ t.flag b Reg.PRT_TEST_EN = true ∧ t.laneIn k.val = false
          ∧ t.ready (Rdy.lane k.val) = false ∧ t.macs = s.macs))
    ∧ (st = 1 → (∀ c, s.anResolve m a rs br = some c → ∃ t, exec (.anResolved m a rs br) s = .next t ∧ t.mf m Reg.MAC_STATUS_MODE = c
        ∧ t.macState m = (if modeTrains c then 2 else 3) ∧ t.macs = s.macs ∧ t.frames = s.frames)
      ∧ (s.anResolve m a rs br = none → ∃ t, exec (.anResolved m a rs br) s = .next t ∧ t.mf m Reg.MAC_STATUS_MODE = 15
        ∧ t.macState m = 5 ∧ t.mf m Reg.MAC_EVENT_FLOOR_FAIL = 1 ∧ t.macs = s.macs ∧ t.frames = s.frames)
      ∧ (open_ → s.candidates m ≠ [] → ∃ t, exec (.anRestartTimer m) s = .next t ∧ t.macState m = 1
        ∧ t.mf m Reg.MAC_STATUS_MODE = 15 ∧ t.macs = s.macs))
    ∧ (st ≠ 1 → exec (.anResolved m a rs br) s = .next s ∧ exec (.anRestartTimer m) s = .next s)
    ∧ (st = 5 → exec (.floorFailRestore m) s = .next (s.modMac m (fun k => { k with removed := 0, fails := 0 }))
      ∧ (open_ → s.candidates m ≠ [] → ∃ t, exec (.floorFailRetry m) s = .next t ∧ t.macState m = 1 ∧ t.macs = s.macs)
      ∧ (open_ → s.candidates m = [] → ∃ t, exec (.floorFailRetry m) s = .next t ∧ t.macState m = 5
        ∧ t.mf m Reg.MAC_EVENT_FLOOR_FAIL = 1 ∧ t.macs = s.macs))
    ∧ (st ≠ 5 → exec (.floorFailRestore m) s = .next s ∧ exec (.floorFailRetry m) s = .next s)

/-- R34, R35, R37 and R39: training settles a mode, or on its third failure in a row removes it; a link that comes up shows
STATE 4 with its readiness bit; a link of an idle MAC that goes down clears it; RESTART negotiates anew. -/
def Obligations.TrainingAndLinks : Prop :=
  ∀ (s : State) (m : MacId) (p : PortId) (taps : List (BitVec 32)) (w : RegW) (hiber : Bool), s.regsWf = true →
    s.stopped = false → s.frames = [] → s.borrows m.val = false →
    let g := Blk.mac m.val
    let k := s.mac m
    let q := macOf p
    let c := s.mf q Reg.MAC_STATUS_MODE
    let n := if (s.mac q).fails / 4 = c then (s.mac q).fails % 4 + 1 else 1
    let idle := k.tx = none ∧ k.next = none ∧ k.mgTx = none ∧ s.mf m Reg.SPP_SESS_STATUS_STATE = 0 ∧ s.flag g Reg.SPP_SESS_CTRL_EN = false
    let settled := s.macState m = 3 ∨ s.macState m = 6 ∨ s.macState m = 7
    let lanes := ∀ x ∈ s.usedLanes m, s.ready (Rdy.lane x) = true
    (s.macState q = 2 → ∃ t, exec (.linkTrainingDone p taps) s = .next t ∧ t.macState q = 3 ∧ (t.mac q).fails = 0
      ∧ ∀ x ∈ s.usedLanes q, t.flag (Blk.prt x) Reg.PRT_STATUS_TRAINED = true)
    ∧ (s.macState q ≠ 2 → exec (.linkTrainingDone p taps) s = .next s ∧ exec (.trainTimeout p) s = .next s)
    ∧ (s.macState q = 2 → n < 3 → s.macHeld q = false → s.flag (Blk.mac q.val) Reg.MAC_CTRL_MEDIUM = false → s.candidates q ≠ [] →
      ∃ t, exec (.trainTimeout p) s = .next t ∧ t.macState q = 1 ∧ t.mac q = { s.mac q with fails := 4 * c + n })
    ∧ (s.macState q = 2 → 3 ≤ n → ∃ t, exec (.trainTimeout p) s = .next t ∧ t.mf q Reg.MAC_EVENT_TRAIN_FAIL = 1
      ∧ t.mac q = { s.mac q with removed := setBit (s.mac q).removed c true, fails := 0 })
    ∧ (idle → settled → s.macHeld m = false → lanes → s.macUp m = false →
      (∃ t, exec (.macLinkUp m none) s = .next t ∧ t.macUp m = true ∧ t.macState m = 4 ∧ t.mf m Reg.MAC_STATUS_LINK = 1
        ∧ t.mf m Reg.MAC_EVENT_LINK_UP = 1 ∧ (t.mac m).fcDue = decide (s.fcMode m ≠ 0))
      ∧ ∃ t, exec (.macLinkUp m (some hiber)) s = .next t ∧ t.macUp m = false ∧ t.macState m = (if hiber then 7 else 6))
    ∧ (s.macUp m = true → exec (.macLinkUp m none) s = .next s)
    ∧ (idle → s.macUp m = true → ∃ t, exec (.macLinkDown m hiber) s = .next t ∧ t.macUp m = false
      ∧ t.mf m Reg.MAC_STATUS_LINK = 0 ∧ t.mf m Reg.MAC_EVENT_LINK_DOWN = 1 ∧ (hiber = true → t.mf m Reg.MAC_STATUS_HIBER = 1)
      ∧ t.mf m Reg.MAC_FC_STATE_RX_PAUSED = 0 ∧ (t.mac m).slot = [])
    ∧ (s.macUp m = false → exec (.macLinkDown m hiber) s = .next s)
    ∧ (idle → s.Takes w g 0x000 → w.wide = true → s.macUp m = false → (m.val < 32 → (s.macRec m.val).isSome = true) →
      w.val.toNat % 64 = 9 → 64 ≤ bits w.val.toNat 47 32 → bits w.val.toNat 47 32 ≤ 9248 →
      ∃ t, exec (.restart m w) s = .next t ∧ (t.mac m).removed = 0 ∧ t.mf m Reg.MAC_STATUS_MODE = 15
        ∧ t.macState m = (if t.candidates m = [] then 5 else 1))

/-- R38, R100, R389: a received frame with an error, too short, too long or with a wrong FCS is counted and discarded; a data
frame that a MAC accepts is counted and waits for the intake of its channel; one on a management port waits for its DMA. -/
def Obligations.ReceivedFrames : Prop :=
  ∀ (s : State) (m : MacId) (p : PortId) (b : List Byte) (age got : Nat) (bank : Fin 4) (c : ChanId), s.stopped = false →
    s.macUp m = true → s.borrows m.val = false →
    let n := b.length
    let room := 32 ≤ m.val ∨ cellsFor n ≤ s.freeCells
    let q := macOf p
    let body := b.take (n - 4)
    let intact := b.drop (n - 4) = fcsOf body
    let plain := beAt b 12 2 ≠ 0x8808 ∧ etherType b ≠ 0x888E ∧ (beAt b 0 6 ≠ s.fget Blk.SPP Reg.SPP_DA_DA ∨ etherType b ≠ s.fget Blk.SPP Reg.SPP_ETYPE_ETYPE)
    let drop (f : Fld) := (.next (s.mbump m f) : Host.Outcome State Fault Refusal)
    (room → exec (.rxFrameEnd m b true age bank) s = drop Ctr.MAC_RX_PCSERR)
    ∧ (room → n < 64 → exec (.rxFrameEnd m b false age bank) s = drop Ctr.MAC_RX_RUNT)
    ∧ (room → 64 ≤ n → s.mf m Reg.MAC_CTRL_MAXLEN < n → exec (.rxFrameEnd m b false age bank) s = drop Ctr.MAC_RX_LONG)
    ∧ (room → 64 ≤ n → n ≤ s.mf m Reg.MAC_CTRL_MAXLEN → ¬ intact → exec (.rxFrameEnd m b false age bank) s = drop Ctr.MAC_RX_FCS)
    ∧ (32 ≤ m.val → 64 ≤ n → n ≤ s.mf m Reg.MAC_CTRL_MAXLEN → intact → beAt b 12 2 ≠ 0x8808 →
      ∃ t, exec (.rxFrameEnd m b false age bank) s = .next t
        ∧ (∃ x, (t.mac m).mgRx = (s.mac m).mgRx ++ [x] ∧ x.bytes = b)
        ∧ t.rget (Blk.mac m.val) Ctr.MAC_RX_FRAMES.off = s.rget (Blk.mac m.val) Ctr.MAC_RX_FRAMES.off + 1
        ∧ t.frames = s.frames ∧ t.out = s.out)
    ∧ (m = q → s.carries p.val = false → 64 ≤ n → n ≤ s.mf q Reg.MAC_CTRL_MAXLEN → intact → plain → s.peerDrop p = false →
      cellsFor n ≤ s.freeCells → s.fget Blk.SPL Reg.SPL_RESERVE_DATA ≤ s.freeAfter n → s.fcMode q = 0 → s.macChans p = [c] →
      s.chState c = 1 → (s.chan c).quiescing = false → s.waiting c = 0 → (∀ f ∈ s.frames, f.id < s.frameSeq) →
      s.fget Blk.PW0 Reg.WER_GLOBAL_XOFF_CELLS ≤ s.freeAfter n → s.cellTrig = false → s.regsWf = true →
      ∃ t, exec (.rxFrameEnd m b false age bank) s = .next t
        ∧ (∃ f, t.frames = s.frames ++ [f] ∧ f.bytes = b ∧ f.ch = c ∧ f.loc = .wait ∧ f.d.port = p ∧ f.acct = some (s.ingressPrio p b))
        ∧ t.freeCells = s.freeCells - cellsFor n
        ∧ t.rget (Blk.mac m.val) Ctr.MAC_RX_FRAMES.off = s.rget (Blk.mac m.val) Ctr.MAC_RX_FRAMES.off + 1
        ∧ t.rget (Blk.mac m.val) Ctr.MAC_RX_BYTES.off = s.rget (Blk.mac m.val) Ctr.MAC_RX_BYTES.off + BitVec.ofNat 64 n)
    ∧ (m = q → s.carries p.val = false → s.freeCells < cellsFor (got + 1) →
      exec (.rxCellExhausted p got) s = .next (s.bump Blk.SPL Ctr.SPL_DROP_NOBUF))
    ∧ (m = q → cellsFor (got + 1) ≤ s.freeCells → exec (.rxCellExhausted p got) s = .next s)

/-- R42, R44 and R140: a flow-control frame of the mode selected sets what is paused, one of another mode is only counted;
the end of a pause clears it; a change of XOFF sends a frame, and while it lasts another is due after REFRESH. -/
def Obligations.FlowControl : Prop :=
  ∀ (s : State) (m : MacId) (p : PortId) (b : List Byte) (i : Fin 8), s.stopped = false → s.regsWf = true →
    let n := b.length
    let g := Blk.mac m.val
    let op := beAt b 14 2
    let mode := s.fcMode m
    let known := s.macUp m = true ∧ s.borrows m.val = false ∧ beAt b 12 2 = 0x8808 ∧ 64 ≤ n ∧ n ≤ s.mf m Reg.MAC_CTRL_MAXLEN
      ∧ b.drop (n - 4) = fcsOf (b.take (n - 4)) ∧ (32 ≤ m.val ∨ cellsFor n ≤ s.freeCells ∧ s.fget Blk.SPL Reg.SPL_RESERVE_CTRL ≤ s.freeAfter n)
    let paused (t : State) := t.mf m Reg.MAC_FC_STATE_RX_PAUSED
    let got (t : State) (f : Fld) := t.rget g f.off = s.rget g f.off + 1
    (known → op = 1 → mode = 1 → ∃ t, exec (.rxFlowControlFrame m b) s = .next t ∧ paused t = (if beAt b 16 2 = 0 then 0 else 255)
      ∧ got t Ctr.MAC_RX_FC ∧ t.frames = s.frames)
    ∧ (known → op = 0x0101 → mode = 2 → m.val < 32 → ∃ t, exec (.rxFlowControlFrame m b) s = .next t ∧ got t Ctr.MAC_RX_FC
      ∧ t.frames = s.frames
      ∧ ∀ j ∈ List.range 8, bits (paused t) j j =
        (if bits (beAt b 17 1) j j = 1 ∧ bits (s.mf m Reg.MAC_FC_RX_EN) j j = 1 then (if beAt b (18 + 2 * j) 2 = 0 then 0 else 1)
         else bits (paused s) j j))
    ∧ (known → (op = 1 ∧ mode ≠ 1) ∨ (op = 0x0101 ∧ mode ≠ 2) → ∃ t, exec (.rxFlowControlFrame m b) s = .next t
      ∧ paused t = paused s ∧ got t Ctr.MAC_FC_WRONGMODE ∧ t.frames = s.frames)
    ∧ (s.macUp m = false → exec (.rxFlowControlFrame m b) s = .next s)
    ∧ (bits (paused s) i.val i.val = 1 → ∃ t, exec (.pauseTimerExpire m i) s = .next t ∧ t.frames = s.frames
      ∧ (mode = 1 → paused t = 0) ∧ (mode ≠ 1 → ∀ j ∈ List.range 8, bits (paused t) j j = if j = i.val then 0 else bits (paused s) j j))
    ∧ (bits (paused s) i.val i.val = 0 → exec (.pauseTimerExpire m i) s = .next s)
    ∧ (s.macUp m = true → (s.mac m).fcDue = true → (s.mac m).tx = none → (s.mac m).mgTx = none →
      ∃ t, exec (.flowControlFrameTx m) s = .next t ∧ t.out = Out.frame m (s.fcFrame m) false :: s.out ∧ (t.mac m).fcDue = false
        ∧ t.mf m Reg.MAC_FC_STATE_TX_XOFF = (s.wantXoff m).toNat ∧ got t Ctr.MAC_TX_FC ∧ got t Ctr.MAC_TX_FRAMES)
    ∧ ((s.mac m).fcDue = false → exec (.flowControlFrameTx m) s = .next s)
    ∧ (s.macUp m = true → s.mf m Reg.MAC_FC_STATE_TX_XOFF ≠ 0 → s.borrows m.val = false →
      exec (.fcRefresh m) s = .next (s.modMac m (fun k => { k with fcDue := true })))
    ∧ (s.mf m Reg.MAC_FC_STATE_TX_XOFF = 0 → exec (.fcRefresh m) s = .next s)
    ∧ (s.cellTrig = false → s.fget Blk.PW0 Reg.WER_GLOBAL_XOFF_CELLS ≤ s.freeCells → s.borrows p.val = false →
      ∃ t, exec (.pfcThresholdRecheck p) s = .next t ∧ t.frames = s.frames ∧ ∀ j ∈ List.range 8,
        let held := s.fget (Blk.pw p.val) (Reg.WER_ACCT_BYTES.nth j)
        bitAt (t.mac (macOf p)).acct j = (decide (s.fget (Blk.pw p.val) (Reg.WER_PFC_TH_XOFF.nth j) * 1024 ≤ held)
          || (decide (s.fget (Blk.pw p.val) (Reg.WER_PFC_TH_XON.nth j) * 1024 < held) && bitAt (s.mac (macOf p)).acct j)))

/-- R87, R88, R91 to R95: intake takes the oldest waiting frame of a channel in service; a P tier parses and a K tier
classifies the frame at it, an E tier notes the edits, and each passes it on, punts it or drops it with its counter. -/
def Obligations.ClassifyingTiers : Prop :=
  ∀ (s : State) (c : ChanId) (k : TierId) (f : Frame), s.stopped = false → (∀ g ∈ s.frames, g = f ∨ g.id ≠ f.id) →
    let b := Blk.cas f.ch.val
    let gone (o : Host.Outcome State Fault Refusal) (x : Fld) := ∃ t, o = .next t
      ∧ t.frames = s.frames.filter (fun g => g.id != f.id) ∧ t.rget b x.off = s.rget b x.off + 1 ∧ t.mem = s.mem ∧ t.cores = s.cores
    let moved (o : Host.Outcome State Fault Refusal) (g : Frame) := ∃ t, o = .next t ∧ g ∈ t.frames
      ∧ t.frames.filter (fun x => x.id != f.id) = s.frames.filter (fun x => x.id != f.id) ∧ t.regs = s.regs ∧ t.mem = s.mem
    let quiet := ∀ m : PortId, s.borrows m.val = false
    (s.frames.find? (fun g => g.ch == c && g.loc == .wait) = none → exec (.intake c) s = .next s)
    ∧ (s.chState c ≠ 1 ∨ (s.chan c).quiescing = true → exec (.intake c) s = .next s)
    ∧ (s.frames.find? (fun g => g.ch == c && g.loc == .wait) = some f → s.chState c = 1 → (s.chan c).quiescing = false →
      f.chReplay = false → f.d.inject = false →
      let e := { f with d := s.intakeDesc f, chReplay := false }
      ∀ x, (s.stops e).head? = some x → ∃ t, exec (.intake c) s = .next t
        ∧ { e with loc := .tier (tierOf x.1) } ∈ t.frames ∧ t.frames.length = s.frames.length
        ∧ e.d.basin = s.ownerOf f.d.port.val ∧ e.d.epoch = s.epoch ∧ e.d.accepted = false ∧ e.d.action = 0
        ∧ t.rget b Ctr.CAS_FRAMES_IN.off = s.rget b Ctr.CAS_FRAMES_IN.off + 1)
    ∧ (s.frameAt k fnP = none → exec (.pTier k) s = .next s)
    ∧ (s.frameAt k fnP = some f → f ∈ s.frames → quiet →
      (f.d.accepted = true → ∀ x, s.nextStop f k.val = some x → moved (exec (.pTier k) s) { f with loc := .tier (tierOf x) })
      ∧ (f.d.accepted = false → ∀ tb, (s.tablesAt f.d.epoch f.d.basin k.val).find? (fun x => x.kind == .graph) = some tb →
        let r := parseRun tb f.bytes 4 f.d
        (r.2 = .reject → gone (exec (.pTier k) s) Ctr.CAS_DROP_PARSE)
        ∧ (r.2 = .more → s.lastTier { f with d := r.1 } fnP = some k.val → gone (exec (.pTier k) s) Ctr.CAS_DROP_PARSE)
        ∧ (r.2 = .punt → moved (exec (.pTier k) s)
            { f with d := { r.1 with reason := 4 }, loc := .tier (tierOf ((s.lastTier { f with d := r.1 } fnM).getD 0)) })
        ∧ (r.2 = .accept → ∀ x, s.nextStop { f with d := r.1 } k.val = some x →
          moved (exec (.pTier k) s) { f with d := { r.1 with accepted := true }, loc := .tier (tierOf x) })))
    ∧ (s.frameAt k fnK = none → exec (.kTier k) s = .next s)
    ∧ (s.frameAt k fnK = some f → f ∈ s.frames → quiet → s.lastTier f fnK = some k.val → f.d.mkpdu = false →
      (s.tablesAt f.d.epoch f.d.basin k.val).findSome? (fun x => x.hit f.d.key) = none →
      (f.d.action = 0 → s.fget (Blk.bw f.d.basin.val) Reg.WER_FRAME_CTRL_MISS = 0 → gone (exec (.kTier k) s) Ctr.CAS_DROP_MISS)
      ∧ (f.d.action = 0 → s.fget (Blk.bw f.d.basin.val) Reg.WER_FRAME_CTRL_MISS = 1 →
        moved (exec (.kTier k) s) { f with d := { f.d with reason := 2 }, loc := .tier (tierOf ((s.lastTier f fnM).getD 0)) })
      ∧ (f.d.action = 4 → f.d.dec = false → gone (exec (.kTier k) s) Ctr.CAS_DROP_ACTION)
      ∧ (f.d.action = 5 → f.d.dec = false →
        moved (exec (.kTier k) s) { f with d := { f.d with reason := 1 }, loc := .tier (tierOf ((s.lastTier f fnM).getD 0)) })
      ∧ (f.d.action = 1 → f.d.dec = false → f.d.sc.isSome = true → s.outOk f.d true = true →
        ∀ x, s.nextStop f k.val = some x → moved (exec (.kTier k) s) { f with loc := .tier (tierOf x) }))
    ∧ (s.frameAt k fnE = none → exec (.eTier k) s = .next s)
    ∧ (s.frameAt k fnE = some f → f ∈ s.frames → ∀ x, s.nextStop f k.val = some x →
      (∀ r, s.directRow f k f.d.editIdx = some r → moved (exec (.eTier k) s) { f with edit := r.2, loc := .tier (tierOf x) })
      ∧ (s.directRow f k f.d.editIdx = none → moved (exec (.eTier k) s) { f with loc := .tier (tierOf x) }))

/-- R89, R96, R97, R102, R119 and R124: the last A tier hands a frame whose SA it holds to the crossbar with a PN of its
lease, fetches an SA it does not hold and drops what has none; frames rejoin in order; a V tier drops what did not verify or
came late; the last M tier enqueues or punts. -/
def Obligations.SecuringTiers : Prop :=
  ∀ (s : State) (c : ChanId) (k : TierId) (f : Frame) (ue : Bool) (v : Nat), s.stopped = false → (∀ g ∈ s.frames, g = f ∨ g.id ≠ f.id) →
    let b := Blk.cas f.ch.val
    let gone (o : Host.Outcome State Fault Refusal) (q : Nat) (x : Fld) := ∃ t, o = .next t
      ∧ t.frames = s.frames.filter (fun g => g.id != f.id) ∧ t.rget q x.off = s.rget q x.off + 1
    let moved (o : Host.Outcome State Fault Refusal) (g : Frame) := ∃ t, o = .next t ∧ g ∈ t.frames
      ∧ t.frames.filter (fun x => x.id != f.id) = s.frames.filter (fun x => x.id != f.id)
    let quiet := ∀ m : PortId, s.borrows m.val = false
    let mid := s.frames.find? (fun g => g.ch == c && (g.loc == .cross || g.loc == .rejoin || (List.finRange 10).any (fun j => g.loc == .jet j)))
    (s.frameAt k fnA = none → exec (.aTier k) s = .next s)
    ∧ (s.frameAt k fnA = some f → f ∈ s.frames → quiet →
      (∀ x, s.nextStop f k.val = some x → s.lastTier f fnA ≠ some k.val → moved (exec (.aTier k) s) { f with loc := .tier (tierOf x) })
      ∧ (s.lastTier f fnA = some k.val → s.heldAtA f k = false →
        (∀ x, s.nextStop f k.val = some x → f.d.action = 3 → s.frames.any (fun g => g.ch == f.ch && g.again) = false →
          moved (exec (.aTier k) s) { f with loc := .tier (tierOf x) })
        ∧ (f.d.action = 1 ∨ f.d.action = 2 → s.saFor f = .noSa → gone (exec (.aTier k) s) (Blk.mac f.d.port.val) Ctr.MAC_DROP_NOSA)
        ∧ (f.d.action = 1 ∨ f.d.action = 2 → s.saFor f = .wrong → gone (exec (.aTier k) s) b Ctr.CAS_DROP_ACTION)
        ∧ (∀ x a, s.saFor f = .sa x a → f.d.action = 1 ∨ f.d.action = 2 →
          (s.saCache.contains (k.val, a.uid) = false → s.inFlight k = [] → ∃ t, exec (.aTier k) s = .next t
            ∧ (∃ g ∈ t.frames, g.id = f.id ∧ g.loc = .fetch k) ∧ t.rget b Ctr.CAS_A_MISS.off = s.rget b Ctr.CAS_A_MISS.off + 1)
          ∧ (s.saCache.contains (k.val, a.uid) = true → f.d.dec = true → badTag f.bytes x = true → gone (exec (.aTier k) s) b Ctr.CAS_RX_BADTAG)
          ∧ (∀ r, s.run a.uid = some r → s.saCache.contains (k.val, a.uid) = true → f.d.dec = false →
            (r.exhausted = true → gone (exec (.aTier k) s) b Ctr.CAS_DROP_PNEXH)
            ∧ (∀ l, s.leases.find? (fun l => (l.tier == k && l.uid == a.uid) && decide (l.next < l.stop)) = some l → r.exhausted = false →
              ∃ t, exec (.aTier k) s = .next t ∧ (∃ g ∈ t.frames, g.id = f.id ∧ g.loc = .cross ∧ g.bytes = f.bytes ∧ g.d = f.d
                ∧ ∃ q ∈ g.req.toList, q.pn = l.next ∧ q.uid = a.uid ∧ q.key = a.key ∧ q.iv = ivOf x a l.next)
              ∧ ({ l with next := l.next + 1 } : Lease) ∈ t.leases)))))
    ∧ (s.frames.find? (fun g => g.loc == .fetch k) = none → exec (.saFetchDone k ue v) s = .next s)
    ∧ (s.frames.find? (fun g => g.loc == .fetch k) = some f → quiet → s.errs.length < 16 → s.flag Blk.ERR Reg.ERR_CTRL_ESC_EN = false →
      (∃ t, exec (.saFetchDone k true v) s = .next t ∧ t.frames = s.frames.filter (fun g => g.id != f.id)
        ∧ ∃ e, t.errs = s.errs ++ [e] ∧ e.cls = 16 ∧ e.kind = 5 ∧ e.index = k.val ∧ e.basin = f.d.basin)
      ∧ (∀ x a, s.saFor f = .sa x a → s.frames.any (fun g => g.ch == f.ch && g.loc == .cross) = true →
        ∃ t, exec (.saFetchDone k false v) s = .next t ∧ (k.val, a.uid) ∈ t.saCache
          ∧ { f with loc := .tier k, req := none } ∈ t.frames))
    ∧ (mid = some f → f.loc ≠ .rejoin → exec (.rejoin c) s = .next s)
    ∧ (mid = none → exec (.rejoin c) s = .next s)
    ∧ (∀ a, s.lastTier f fnA = some a → ∀ x, s.nextStop f a = some x → mid = some f → f.loc = .rejoin →
      moved (exec (.rejoin c) s) { f with loc := .tier (tierOf x) })
    ∧ (s.frameAt k fnV = none → exec (.vTier k) s = .next s)
    ∧ (s.frameAt k fnV = some f → f ∈ s.frames → quiet → f.vok = false → ∀ q, f.req = some q →
      let late := (s.scOfFrame f).any (·.replay) && decide (q.pn < ((s.run q.uid).map (·.l)).getD 0)
      (f.icvBad = true → gone (exec (.vTier k) s) b Ctr.CAS_RX_NOTVALID)
      ∧ (f.icvBad = false → late = true → gone (exec (.vTier k) s) b Ctr.CAS_RX_LATE)
      ∧ (f.icvBad = false → late = false → ∀ x, s.nextStop f k.val = some x →
        moved (exec (.vTier k) s) { f with vok := true, loc := .tier (tierOf x) }))
    ∧ (s.frameAt k fnM = none → exec (.mTier k) s = .next s)
    ∧ (s.frameAt k fnM = some f → f ∈ s.frames → quiet →
      (f.d.reason ≠ 0 → s.fget (Blk.bw f.d.basin.val) Reg.WER_PUNT_RING_SIZE = 0 → s.frozen (.tier k) = false →
        gone (exec (.mTier k) s) (Blk.bw f.d.basin.val) Ctr.BW_WER_PUNT_LOST)
      ∧ (f.d.reason = 0 → (s.meter f k).1 = 2 → (s.meter f k).2.1 = true → gone (exec (.mTier k) s) b Ctr.CAS_DROP_METER)
      ∧ (f.d.reason = 0 → s.directRow f k f.d.meterId = none → s.lastTier f fnM ≠ some k.val →
        ∀ x, s.nextStop f k.val = some x →
        moved (exec (.mTier k) s) { f with d := { f.d with colour := 0 }, loc := .tier (tierOf x) })
      ∧ (f.d.reason = 0 → s.directRow f k f.d.meterId = none → s.lastTier f fnM = some k.val → ∀ m, f.d.out = some m →
        s.deepRegion.2 = 0 → s.macUp (macOf m) = true → s.isLine m.val = false → ∃ t, exec (.mTier k) s = .next t
          ∧ (∃ g ∈ t.frames, g.id = f.id ∧ g.loc = .queue m (Fin.ofNat 8 f.d.prio) ∧ g.obytes = f.output)
          ∧ t.rget b Ctr.CAS_FRAMES_OUT.off = s.rget b Ctr.CAS_FRAMES_OUT.off + 1))

/-- R97, R98, R136 to R139, R142: the weir's pick goes on the wire and leaves with its bytes counted and its buffers
released; the deep mover serves the request its round robin gives; an inject descriptor becomes a frame. -/
def Obligations.WeirsAndDeepPath : Prop :=
  ∀ (s : State) (p : PortId) (f : Frame) (room : BitVec 8) (age : Nat) (bank : Fin 4) (o : BasinId), s.stopped = false → s.regsWf = true →
    let m := macOf p
    let g := Blk.mac m.val
    let r := s.pick p room
    let v := s.moverPick
    let bw := Blk.bw o.val
    let ch : ChanId := Fin.ofNat 8 (s.fget bw Reg.WER_FRAME_CTRL_INJ_CH)
    let k := tierOf ((((s.chainAt s.epoch ch).find? (fun x => x.2 == fnP)).map (·.1)).getD (8 * ch.val))
    let size := s.fget bw Reg.WER_INJ_RING_SIZE
    let head := s.fget bw Reg.WER_RINGPTR_INJ_HEAD
    let acc := tierAcc k o
    let ring := s.ringDesc acc 5 k.val (s.fget bw Reg.WER_INJ_RING_BASE) size head (s.fget bw Reg.WER_RINGPTR_INJ_TAIL)
    ((s.mac m).next.isSome = true ∨ s.macUp m = false → exec (.weirPick p room) s = .next s)
    ∧ (∀ q ∈ List.finRange 8, r.1 = some f → f.loc = .queue p q → s.macUp m = true → (s.mac m).next = none → (s.mac m).tx = none →
      (s.mac m).fcDue = false → (s.mac m).slot = [] → s.isLine p.val = false →
      s.borrows p.val = false → (∀ x ∈ s.frames, x = f ∨ x.id ≠ f.id) → f ∈ s.frames →
      ∃ t, exec (.weirPick p room) s = .next t ∧ (t.mac m).tx = some f.id ∧ { f with loc := .out p } ∈ t.frames)
    ∧ (r.1 = none → s.macUp m = true → (s.mac m).next = none → (∃ x ∈ s.frames, x.loc = .queue p 0) →
      ∃ t, exec (.weirPick p room) s = .next t ∧ t.frames = s.frames
        ∧ t.rget (Blk.pw p.val) Ctr.PW_SHAPED_WAIT.off = s.rget (Blk.pw p.val) Ctr.PW_SHAPED_WAIT.off + 1)
    ∧ ((s.mac m).tx = none → exec (.txFrameEnd m age) s = .next s)
    ∧ ((s.mac m).tx = some f.id → s.frame f.id = some f → s.flag g Reg.MAC_PTP_EN = false → f.lent = false →
      (∀ n : PortId, s.borrows n.val = false) → ∃ t, exec (.txFrameEnd m age) s = .next t
        ∧ t.out = Out.frame m f.obytes false :: s.out ∧ t.frames = s.frames.filter (fun x => x.id != f.id)
        ∧ t.rget g Ctr.MAC_TX_FRAMES.off = s.rget g Ctr.MAC_TX_FRAMES.off + 1
        ∧ t.rget g Ctr.MAC_TX_BYTES.off = s.rget g Ctr.MAC_TX_BYTES.off + BitVec.ofNat 64 f.obytes.length)
    ∧ (v.1 = none → exec .deepWrite s = .next s ∧ exec (.deepStageRead bank) s = .next s)
    ∧ (∀ q, v.1 = some q → s.frame q.1.frame = some f →
      (q.1.read = true → exec .deepWrite s = .next s)
      ∧ (q.1.read = false → exec (.deepStageRead bank) s = .next s)
      ∧ (q.1.read = false → exec .deepWrite s = .next ((s.moverServe q.1 q.2 v.2).deepWrite f))
      ∧ (∀ l, s.pickCells (cellsFor f.obytes.length) bank.val = some l → q.1.read = true →
        exec (.deepStageRead bank) s = .next ((s.moverServe q.1 q.2 v.2).deepStage f l)))
    ∧ (size = 0 ∨ head = s.fget bw Reg.WER_RINGPTR_INJ_TAIL → s.frozen (.tier k) = false → exec (.injectDesc o bank) s = .next s)
    ∧ (∀ x, ring.2 = some x →
      let rd := ring.1.dmaRead acc (descAddr x.2) (leAt x.2 8 2)
      let b := rd.2.1
      let out : PortId := Fin.ofNat 32 (beAt x.2 11 1)
      let sc := if 2 ^ 31 ≤ leAt x.2 28 4 then some (leAt x.2 28 4 % 2 ^ 18) else none
      ∀ l, rd.1.pickCells (cellsFor (leAt x.2 8 2)) bank.val = some l → rd.2.2 = .ok → 128 ≤ beAt x.2 11 1 → rd.1.chMember ch o = true →
        (rd.1.injAction sc out b).isSome = true → rd.1.chState ch = 1 → rd.1.waiting ch = 0 →
        let w := rd.1.dmaWrite acc (x.1 + 10) [descFlags x.2 false]
        w.2 = .ok → w.1.waiting ch = 0 → (∀ y ∈ w.1.frames, y.id < w.1.frameSeq) → ∃ t, exec (.injectDesc o bank) s = .next t
          ∧ t.frameSeq = w.1.frameSeq + 1
          ∧ ∃ y, t.frames = w.1.frames ++ [y] ∧ y.bytes = b ∧ y.ch = ch ∧ y.loc = .wait ∧ y.d.inject = true ∧ y.d.basin = o
            ∧ y.d.out = some out ∧ y.d.sc = sc)

/-- R47 and R50: an aligned read of MAC_TXTS1 takes the oldest timestamp; a frame received on a management port is dropped
where its ring is empty and else goes to the buffer of its descriptor; a transmit descriptor's frame goes on the wire; a wait
ends when its descriptor is available. -/
def Obligations.ManagementRings : Prop :=
  ∀ (s : State) (m : MacId) (i : Fin 2) (r : RegR) (e : TxTs) (es : List TxTs) (f : MgFrame) (fs : List MgFrame) (age : Nat), s.stopped = false →
    s.regsWf = true →
    let g := mgMac i
    let b := Blk.mac g.val
    let k := s.mac g
    let rx := s.mgDesc i false
    let tx := s.mgDesc i true
    let can := s.macUp g = true ∧ k.mgTx = none ∧ k.fcDue = false ∧ s.paused g 0 = false
    let none_ := s.fget b Reg.MAC_RXRING_SIZE = 0 ∨ s.fget b Reg.MAC_RINGPTR_RX_HEAD = s.fget b Reg.MAC_RINGPTR_RX_TAIL
    (s.frozen r.acc.src = false → r.wide = true → r.high = false →
      (∃ x y z, s.guard r.acc (regAddr (Blk.mac m.val) 0x040) 8 .read = .ok x y z) → s.devOk (Blk.mac m.val) 0x040 8 = true →
      (s.mac m).txts = e :: es → e.ts < 2 ^ 96 → e.msgType < 16 → e.domain < 256 →
      exec (.txtsRead m r) s = .next { (s.modMac m (fun k => { k with txts := es })) with
        rdata := BitVec.ofNat 64 (2 ^ 63 + e.msgType * 2 ^ 56 + e.domain * 2 ^ 48 + e.ts / 2 ^ 48) })
    ∧ (k.mgRx = [] → exec (.mgdmaRxFrame i) s = .next s)
    ∧ (k.mgRx = f :: fs → none_ → s.fcMode g = 0 → s.mf g Reg.MAC_FC_STATE_TX_XOFF = 0 → ∃ t, exec (.mgdmaRxFrame i) s = .next t
      ∧ (t.mac g).mgRx = fs ∧ t.mem = s.mem
      ∧ t.rget b Ctr.MAC_DROP_LINKDOWN.off = s.rget b Ctr.MAC_DROP_LINKDOWN.off + 1)
    ∧ (k.mgRx = f :: fs →
      let s1 := s.modMac g (fun k => { k with mgRx := fs })
      ∀ x, (s1.mgDesc i false).2 = some x →
        exec (.mgdmaRxFrame i) s = .next (((s1.mgDesc i false).1.mgXoff i false).mgPut i f x.1 x.2))
    ∧ (¬ can → exec (.mgdmaTxDesc i) s = .next s ∧ exec (.mgdmaResume i true) s = .next s)
    ∧ (can → ∀ x, tx.2 = some x →
      let rd := tx.1.dmaRead (s.mgAcc i) (descAddr x.2) (leAt x.2 8 2)
      rd.2.2 = .ok → ∃ t, exec (.mgdmaTxDesc i) s = .next t ∧ exec (.mgdmaResume i true) s = .next t
        ∧ (∃ y, (t.mac g).mgTx = some y ∧ y.bytes = rd.2.1) ∧ t.frames = rd.1.frames ∧ t.regs = rd.1.regs)
    ∧ (∀ x, rx.2 = some x → rx.1.fcMode g = 0 → rx.1.mf g Reg.MAC_FC_STATE_TX_XOFF = 0 →
      exec (.mgdmaResume i false) s = .next (rx.1.modMac g (fun k => { k with acct := 0 })))
    ∧ (k.mgTx = some f → s.flag b Reg.MAC_PTP_EN = false → s.fget b Reg.MAC_TXRING_SIZE = 0 → ∃ t, exec (.txFrameEnd g age) s = .next t
      ∧ t.out = Out.frame g f.bytes false :: s.out ∧ (t.mac g).mgTx = none
      ∧ t.rget b Ctr.MAC_TX_FRAMES.off = s.rget b Ctr.MAC_TX_FRAMES.off + 1)

/-- R61 and R63 to R65: what a session does on each accepted message in the state that takes it: the role and the peer, the
mode chosen, the answer sent; a message that the state has no row for is counted in RX_UNEXP. -/
def Obligations.SessionMessages : Prop :=
  ∀ (s : State) (p : PortId) (m : SppMsg) (rest : List SppMsg), s.stopped = false → s.regsWf = true →
    (s.mac (macOf p)).slot = [] → (s.sess p).inbox = m :: rest → m.sender < 2 ^ 64 →
    let k := s.sess p
    let st := s.sst p
    let slot (t : State) (l : List Nat) := (t.mac (macOf p)).slot.map (fun x => x.ty) = l
    let unexp (o : Host.Outcome State Fault Refusal) := o = .next ((s.modSess p (fun k => { k with inbox := rest })).bump (Blk.mac p.val) Ctr.MACSPP_RX_UNEXP)
    let att := beAt m.payload 0 4
    let known := m.sender = s.peer p ∧ att = k.peerAttempt
    (m.ty = 1 → st = sDISCOVER → m.target = s.sppId →
      (s.sppId < m.sender → ∃ t, exec (.hello p) s = .next t ∧ t.sst p = sIOFFER ∧ t.peer p = m.sender ∧ (t.sess p).inbox = rest
        ∧ t.sf p Reg.SPP_SESS_STATUS_ROLE = 1 ∧ (t.sess p).peerAttempt = att ∧ (t.sess p).peerBeat = beAt m.payload 4 2 ∧ slot t [])
      ∧ (m.sender < s.sppId → ∃ t, exec (.hello p) s = .next t ∧ t.sst p = sRSELECT ∧ t.peer p = m.sender
        ∧ t.sf p Reg.SPP_SESS_STATUS_ROLE = 2 ∧ (t.sess p).inbox = rest ∧ slot t [2]))
    ∧ (m.ty = 1 → st = sUP → known → unexp (exec (.hello p) s))
    ∧ (m.ty = 2 → st = sIOFFER → ∃ t, exec (.offer p) s = .next t ∧ slot t [3] ∧ (t.sess p).select = k.choose m.payload
      ∧ (t.sess p).offer = m.payload ∧ t.sst p = (if beAt (k.choose m.payload) 0 1 = 0 then sNOMODE else sICONFIRM))
    ∧ (m.ty = 2 → st = sUP → unexp (exec (.offer p) s))
    ∧ (m.ty = 3 → st = sRSELECT → m.payload.length = 8 → beAt m.payload 0 1 < 17 → beAt m.payload 2 2 ≤ 1000 →
      let j := k.judge m.payload
      (beAt m.payload 0 1 = 0 → ∃ t, exec (.select p) s = .next t ∧ t.sst p = sNOMODE ∧ slot t [])
      ∧ (beAt m.payload 0 1 ≠ 0 → j ≠ 0 → ∃ t, exec (.select p) s = .next t ∧ t.sst p = sNOMODE ∧ slot t [4])
      ∧ (beAt m.payload 0 1 ≠ 0 → j = 0 → ∃ t, exec (.select p) s = .next t ∧ t.sst p = sUP ∧ slot t [4, 5]
        ∧ t.sf p Reg.SPP_SESS_STATUS_MODE = beAt m.payload 0 1 ∧ t.sf p Reg.SPP_SESS_STATUS_BEAT_US = beAt m.payload 2 2
        ∧ t.sf p Reg.SPP_SESS_STATUS_SCI = bits (beAt m.payload 1 1) 7 7))
    ∧ (m.ty = 3 → st = sDISCOVER → unexp (exec (.select p) s))
    ∧ (m.ty = 4 → st = sICONFIRM → beAt k.select 0 1 < 17 → beAt k.select 2 2 ≤ 1000 →
      (beAt m.payload 4 1 ≠ 0 → ∃ t, exec (.confirm p) s = .next t ∧ t.sst p = sNOMODE ∧ slot t [])
      ∧ (beAt m.payload 4 1 = 0 → m.payload.take 4 = k.select.take 4 → ∃ t, exec (.confirm p) s = .next t ∧ t.sst p = sUP
        ∧ slot t [5] ∧ t.sf p Reg.SPP_SESS_STATUS_MODE = beAt k.select 0 1))
    ∧ (m.ty = 4 → st = sUP → unexp (exec (.confirm p) s))
    ∧ (m.ty = 5 → st = sUP → ∃ t, exec (.beat p) s = .next t ∧ t.sst p = sUP ∧ (t.sess p).missed = 0 ∧ (t.sess p).beatGot = true
      ∧ (t.sess p).echo = beAt m.payload 0 12 ∧ (t.sess p).echoAt = m.at_ ∧ (beAt m.payload 12 12 ≠ 0 →
        t.sf p Reg.SPP_SESS_RTT_RTT_NS = min ((dtbOf96 m.at_ - dtbOf96 (beAt m.payload 12 12)) / 65536 - beAt m.payload 24 4) 0xFFFFFFFF))
    ∧ (m.ty = 5 → st = sIOFFER → unexp (exec (.beat p) s))
    ∧ (m.ty ≠ 1 → exec (.hello p) s = .next s) ∧ (m.ty ≠ 2 → exec (.offer p) s = .next s) ∧ (m.ty ≠ 3 → exec (.select p) s = .next s)
    ∧ (m.ty ≠ 4 → exec (.confirm p) s = .next s) ∧ (m.ty ≠ 5 → exec (.beat p) s = .next s)

/-- R53, R63, R64 and R66: a session's timers send HELLO, the message that waits for an answer or a BEAT, count what is
missed, and start a new attempt; RENEG starts one too; the oldest frame of the SPP slot leaves by the MAC. -/
def Obligations.SessionTimers : Prop :=
  ∀ (s : State) (p : PortId) (w : RegW) (m : SppOut) (rest : List SppOut), s.stopped = false → s.regsWf = true →
    let q := macOf p
    let g := Blk.mac p.val
    let k := s.sess p
    let st := s.sst p
    let free := (s.mac q).slot = []
    let slot (t : State) (l : List Nat) := (t.mac q).slot.map (fun x => x.ty) = l
    let act := s.fget g Reg.SPP_SESS_CTRL_DOWN_ACT
    let runs := s.macUp q = true ∧ s.isLine p.val = true ∧ s.carries p.val = false ∧ s.flag g Reg.SPP_SESS_STATUS_SA_SEEN = false
      ∧ s.flag g Reg.SPP_SESS_CTRL_AUTH_REQ = false
    let renewed (o : Host.Outcome State Fault Refusal) := ∃ t, o = .next t ∧ t.sst p = sDISCOVER ∧ slot t [1] ∧ t.peer p = 0
      ∧ (k.begun = true → (t.sess p).attempt = (k.attempt + 1) % 2 ^ 32)
    (st = sDISCOVER → free → ∃ t, exec (.sppHelloTimer p) s = .next t ∧ slot t [1] ∧ t.sst p = st ∧ t.regs = s.regs)
    ∧ (st ≠ sDISCOVER → exec (.sppHelloTimer p) s = .next s)
    ∧ (sIOFFER ≤ st → st ≤ sRSELECT → free → (k.steps < 2 → ∃ t, exec (.sppStepTimer p) s = .next t ∧ t.regs = s.regs
        ∧ (t.sess p).steps = k.steps + 1 ∧ slot t [if st = sIOFFER then 1 else if st = sICONFIRM then 3 else 2])
      ∧ (2 ≤ k.steps → renewed (exec (.sppStepTimer p) s)))
    ∧ (st < sIOFFER ∨ sRSELECT < st → exec (.sppStepTimer p) s = .next s)
    ∧ (st = sUP → free → ∃ t, exec (.sppBeatTimer p) s = .next t ∧ slot t [5] ∧ t.regs = s.regs)
    ∧ (st ≠ sUP → exec (.sppBeatTimer p) s = .next s ∧ exec (.sppBeatMiss p) s = .next s)
    ∧ (st = sUP → k.missed < 2 → exec (.sppBeatMiss p) s
      = .next ((s.bump g Ctr.MACSPP_BEAT_MISS).modSess p (fun k => { k with missed := k.missed + 1 })))
    ∧ (st = sUP → 2 ≤ k.missed → exec (.sppBeatMiss p) s = .next ((s.bump g Ctr.MACSPP_BEAT_MISS).discover p))
    ∧ (st = sNOMODE ∨ st = sCLASH → free → renewed (exec (.sppRetryTimer p) s))
    ∧ (st < sNOMODE → exec (.sppRetryTimer p) s = .next s)
    ∧ (s.Takes w g 0x300 → w.wide = true → runs →
      (w.val.toNat = 10 * 2 ^ 32 + 4 * act + 9 → free → sDISCOVER ≤ st → st ≠ sUP → renewed (exec (.reneg p w) s))
      ∧ (w.val.toNat = 10 * 2 ^ 32 + 4 * (1 - act) + 1 → sDISCOVER ≤ st → ∃ t, exec (.downActChange p w) s = .next t
        ∧ t.fget g Reg.SPP_SESS_CTRL_DOWN_ACT = 1 - act ∧ (t.sess p).armed = decide (st = sUP) ∧ t.sst p = st))
    ∧ ((s.mac q).slot = m :: rest → s.macUp q = true → s.slotReady q = true → (s.mac q).tx = none → (s.mac q).fcDue = false →
      (s.needKey p = true → s.keyed p = false → ∃ t, exec (.sppSlotTx p) s = .next t ∧ (t.mac q).slot = rest ∧ t.out = s.out)
      ∧ (s.borrows p.val = false → (s.needKey p = false ∨ s.keyed p = true) → ∃ t, exec (.sppSlotTx p) s = .next t
        ∧ (t.mac q).slot = rest ∧ t.out = Out.frame q (s.sppFrame p m) false :: s.out
        ∧ (s.keyed p = true → (t.keySlot p (s.txKn p)).txSeq = (s.keySlot p (s.txKn p)).txSeq + 1)
        ∧ (s.keyed p = false → (t.sess p).seq = (s.sess p).seq + 1)
        ∧ t.rget g Ctr.MACSPP_SPP_TX.off = s.rget g Ctr.MACSPP_SPP_TX.off + 1
        ∧ t.rget g Ctr.MAC_TX_FRAMES.off = s.rget g Ctr.MAC_TX_FRAMES.off + 1))
    ∧ ((s.mac q).slot = [] → exec (.sppSlotTx p) s = .next s)

/-- R113 to R116: the SA block takes its oldest command whose block it can read, checks it in the order given, stages it or
answers its code; an operation it does not know is answered with BAD_OP. -/
def Obligations.SaCommands : Prop :=
  ∀ (s : State) (q : QCmd) (rest : List QCmd), s.stopped = false → s.saQ = q :: rest →
    let r := ({ s with saQ := rest } : State).dmaRead q.acc q.addr 192
    let u := r.1
    let b := r.2.1
    let c := u.saCheck q b
    let zero := List.replicate 56 (0 : Byte)
    let rep := if saOp b = 9 then u.saReport c.1 b else zero
    let ops := [(Instr.scCreate, 1), (.saInstall, 2), (.txSwitch, 3), (.saRetire, 4), (.saRemove, 5), (.scDelete, 6), (.slotInstall, 7), (.slotRemove, 8), (.query, 9)]
    let known := 1 ≤ saOp b ∧ saOp b ≤ 9
    let reached := saFormOk b = true ∧ u.flag Blk.SA Reg.SA_REGION_VALID = true ∧ u.saReach q.acc b = true ∧ u.scPending (u.stageOfHandle q.handle) b = false
    let staged := ((((u.stageOfHandle q.handle).filter (fun k => decide (u.sst4 k = stOPEN))).map (fun x => (u.stage x).sa)).getD [])
    let sc := (applyScs u.scNow 0 staged).find? (fun x => x.sc == saSc b)
    (r.2.2 = .ok → ∀ x ∈ ops, (saOp b = x.2 → exec x.1 s = .next (c.2.saAnswer q c.1 rep)) ∧ (saOp b ≠ x.2 → exec x.1 s = .next s))
    ∧ (r.2.2 = .ok → ¬ known → exec .saBadOp s = .next (u.saAnswer q 0x02 zero))
    ∧ (r.2.2 = .ok → known → exec .saBadOp s = .next s)
    ∧ (r.2.2 = .poison → exec .saBadOp s = .next (u.saAnswer q 0x01 zero))
    ∧ (r.2.2 = .refused → exec .saBadOp s = .next u)
    ∧ (known → saFormOk b = false → c.1 = 0x11)
    ∧ (known → saFormOk b = true → u.flag Blk.SA Reg.SA_REGION_VALID = false → c.1 = 0x10)
    ∧ (known → saFormOk b = true → u.flag Blk.SA Reg.SA_REGION_VALID = true → u.saReach q.acc b = false → c.1 = 0x03)
    ∧ (known → reached →
      (saOp b = 1 → sc.isSome = true → c.1 = 0x06) ∧ (saOp b = 1 → sc = none → u.isLine (saMac b).val = false → c.1 = 0x04)
      ∧ (2 ≤ saOp b → saOp b ≤ 6 → sc = none → c.1 = 0x07)
      ∧ (∀ x, sc = some x → let has := x.sas.any (fun a => a.an == saAn b)
        (saOp b = 2 → has = true → c.1 = 0x09) ∧ (saOp b = 3 → x.rx = true → c.1 = 0x08) ∧ (saOp b = 4 → x.rx = false → c.1 = 0x08)
        ∧ ((saOp b = 3 ∧ x.rx = false) ∨ (saOp b = 4 ∧ x.rx = true) ∨ saOp b = 5 → has = false → c.1 = 0x0A))
      ∧ (saOp b = 8 → u.isLine (saSlotMac b).val = false → c.1 = 0x04))
    ∧ (reached → known → saOp b ≠ 9 → u.saOpCheck ((u.stageOfHandle q.handle).filter (fun k => decide (u.sst4 k = stOPEN))) b = 0 →
      (u.stageFor q.handle q.acc = none → c.1 = 0x20 ∧ c.2 = u)
      ∧ ∀ k, u.stageFor q.handle q.acc = some k → ∀ x, u.storeRoom 128 = some x → (u.stage k).sa.length < 8192 →
        c.1 = 0 ∧ (c.2.stage k).sa = (u.stage k).sa ++ [({ op := saOp b, block := b.take 128, basin := (u.scBasin (saSc b)).getD 0 } : StagedSa)])

/-- R111, R125 and R132: an SA's NOT_AFTER posts its event once; a read of WER_SA_EVT takes the oldest event with the mark of
events lost; SA_REGION with VALID cleared ends every SC. -/
def Obligations.SaEventsAndRegion : Prop :=
  ∀ (s : State) (o : BasinId) (an : BitVec 2) (r : RegR) (w : RegW) (e : SaEvt) (es : List SaEvt) (lost : Bool), s.stopped = false → s.regsWf = true →
    let b := Blk.bw o.val
    (∀ c ∈ s.scNow, s.scNow.find? (fun x => x.sc == c.sc) = some c → ∀ a, c.sa an.toNat = some a → ∀ n, a.notAfter = some n →
      ∀ k, s.run a.uid = some k →
        (k.retired = true → exec (.saNotAfter c.sc an) s = .next s)
        ∧ (k.retired = false → (s.saEvq c.basin.val).q.length < 16 → sparseWf (fun _ => (⟨[], false⟩ : SaEvq)) s.saEvts = true →
          ∃ t, exec (.saNotAfter c.sc an) s = .next t ∧ t.run a.uid = some { k with retired := true } ∧ n ≤ t.tb.now ∧ t.regs = s.regs
            ∧ ∃ x, (t.saEvq c.basin.val).q = (s.saEvq c.basin.val).q ++ [x] ∧ x.kind = 3 ∧ x.sc = c.sc ∧ x.an = an))
    ∧ (s.scNow = [] → exec (.saNotAfter 0 an) s = .next s)
    ∧ (s.frozen r.acc.src = false → r.wide = true → r.high = false → s.devOk b 0x3B0 8 = true →
      (∃ x y z, s.guard r.acc (regAddr b 0x3B0) 8 .read = .ok x y z) → s.saEvq o.val = ⟨e :: es, lost⟩ → e.kind < 16 → e.sc < 2 ^ 18 →
      e.ns < 2 ^ 32 → sparseWf (fun _ => (⟨[], false⟩ : SaEvq)) s.saEvts = true → ∃ t, exec (.saEvtRead o r) s = .next t
        ∧ t.rdata = BitVec.ofNat 64 (2 ^ 63 + (if lost then 2 ^ 62 else 0) + e.an.toNat * 2 ^ 60 + e.kind * 2 ^ 56 + e.sc * 2 ^ 32 + e.ns)
        ∧ t.saEvq o.val = ⟨es, false⟩ ∧ t.regs = s.regs)
    ∧ (s.Takes w Blk.SA 0x008 → w.wide = true → w.acc.world = .S → s.flag Blk.SA Reg.SA_REGION_VALID = true →
      w.val.toNat = s.fget Blk.SA Reg.SA_REGION_BASE * 2 ^ 28 → (∀ k : StageId, (s.stage k).sa = []) → (∀ p : PortId, s.keyed p = false) →
      ∃ t, exec (.saRegionInvalidate w) s = .next t ∧ t.flag Blk.SA Reg.SA_REGION_VALID = false ∧ t.scNow = [] ∧ t.scOld = []
        ∧ t.runs = [] ∧ t.leases = [] ∧ t.saCache = [])
    ∧ (s.Takes w Blk.SA 0x008 → w.acc.world = .N → exec (.saRegionInvalidate w) s = .next s)

/-- R77 to R84, R339 to R341: STAGE begins a load unless one is under way, ABORT ends it; at its end the file is rejected
with the code of the first check that fails, or staged; the boot image streams in and is accepted or rejected, and a boot
bitstream that is rejected leaves the default platform. -/
def Obligations.BitstreamsAndBoot : Prop :=
  ∀ (s : State) (w : RegW) (h : Nat) (dir image file : List Byte), s.stopped = false → s.regsWf = true →
    let st := s.fget Blk.BIT Reg.BIT_STATUS_STATE
    let ended (t : State) (code off : Nat) := t.bitLoad = none ∧ t.fget Blk.BIT Reg.BIT_STATUS_CODE = code
      ∧ t.fget Blk.BIT Reg.BIT_STATUS_FAIL_OFFSET = off
      ∧ t.fget Blk.BIT Reg.BIT_STATUS_STATE = (if code = 0 then 3 else 4)
      ∧ t.flag Blk.BIT (if code = 0 then Reg.BIT_EVENT_DONE else Reg.BIT_EVENT_REJECTED) = true
    let taken := s.Takes w Blk.BIT 0x000 ∧ w.wide = true
    let flashOk := s.boot.phase = .waitCistern ∧ s.ready (Rdy.cis 0) = true ∧ s.ready (Rdy.cis 1) = true
    let src := s.fget Blk.PWR Reg.PWR_BOOT_SRC
    let rest := if 2 ≤ src then BootPhase.waitJtag else .stopped
    (taken → h < 2 ^ 16 → w.val.toNat = 1 + h * 2 ^ 32 →
      (st ≠ 1 → st ≠ 2 → ∃ t, exec (.bitStage w) s = .next t ∧ t.fget Blk.BIT Reg.BIT_STATUS_STATE = 1
        ∧ t.bitLoad = some ⟨w.acc, h, 64 * s.fget Blk.BIT Reg.BIT_SRC_ADDR, s.fget Blk.BIT Reg.BIT_LEN_LEN⟩ ∧ t.stages = s.stages)
      ∧ (st = 1 ∨ st = 2 → exec (.bitStage w) s = .next (s.fset Blk.BIT Reg.BIT_EVENT_REFUSED 1)))
    ∧ (taken → w.val = 2 → (st = 1 ∨ st = 2 → ∃ t, exec (.bitAbort w) s = .next t ∧ ended t 0x1F 0 ∧ t.stages = s.stages)
      ∧ (st ≠ 1 → st ≠ 2 → exec (.bitAbort w) s = .next s))
    ∧ (s.bitLoad = none → exec .bitLoadEnd s = .next s)
    ∧ (∀ q, s.bitLoad = some q →
      let r := s.fileRead q.acc q.src q.len
      (∀ o, r.2 = .inr o → o < 2 ^ 32 → r.1.regsWf = true → ∃ t, exec .bitLoadEnd s = .next t ∧ ended t 0x01 o)
      ∧ ∀ b, r.2 = .inl b → r.1.regsWf = true → ∃ t, exec .bitLoadEnd s = .next t
        ∧ (∀ e, r.1.fileChecks b ⟨q.len, false, r.1.stageFor q.handle q.acc⟩ = some e → e.1 ≠ 0 → e.1 < 256 → e.2 < 2 ^ 32 →
          ended t e.1 e.2 ∧ t.stages = r.1.stages)
        ∧ (r.1.fileChecks b ⟨q.len, false, r.1.stageFor q.handle q.acc⟩ = none → r.1.flag Blk.BIT Reg.BIT_XCTRL_DRYRUN = true →
          ended t 0 0 ∧ t.stages = r.1.stages)
        ∧ (r.1.fileChecks b ⟨q.len, false, none⟩ = none → r.1.flag Blk.BIT Reg.BIT_XCTRL_DRYRUN = false → r.1.stageFor q.handle q.acc = none →
          ended t 0x20 0 ∧ t.stages = r.1.stages))
    ∧ (s.boot.phase ≠ .waitCistern → exec (.imageStreamStart dir image) s = .next s)
    ∧ (flashOk → src = 3 ∨ bootDirOk dir = false →
      exec (.imageStreamStart dir image) s = .next { s with boot := { s.boot with phase := rest, image := [] } })
    ∧ (flashOk → src ≠ 3 → bootDirOk dir = true → ∃ t, exec (.imageStreamStart dir image) s = .next t
      ∧ t.boot.phase = .streaming ∧ t.boot.image = image ∧ t.mem = (s.imageWrite image).mem)
    ∧ (s.boot.phase ≠ .streaming → exec (.imageVerifyDone file) s = .next s)
    ∧ (s.boot.phase = .streaming → ∃ t, exec (.imageVerifyDone file) s = .next t
      ∧ (s.imageChecks s.boot.image = none → t.boot.phase = .imageOk ∧ t.boot.entry = BitVec.ofNat 64 (leAt s.boot.image 32 8)
        ∧ t.boot.bitLen = leAt s.boot.image 44 4 ∧ t.fget Blk.PWR Reg.PWR_BOOT_COPY = 1 ∧ t.ready Rdy.bootimg = true ∧ t.mem = s.mem)
      ∧ (s.imageChecks s.boot.image ≠ none → file = [] → t.boot.phase = rest ∧ t.ready Rdy.bootimg = s.ready Rdy.bootimg ∧ t.mem = s.mem))
    ∧ (s.boot.phase ≠ .imageOk → exec (.bootBitstreamLoad file) s = .next s)
    ∧ (s.boot.phase = .imageOk → file.length < s.boot.bitLen → ∃ t, exec (.bootBitstreamLoad file) s = .next t
      ∧ t.plat = defaultPlatform ∧ t.cfgNow = [] ∧ t.boot.phase = .running)

/-- R100, R108, R127 to R130: the crossbar gives a frame to an eligible jet with cells for its output, and a checked output
waits to rejoin; a fault fences the jet and a spare takes its place; rotation, draining, self-tests and JET_CMD move a jet
through its states. -/
def Obligations.Jets : Prop :=
  ∀ (s : State) (c : ChanId) (j k : JetId) (f : Frame) (near : BitVec 10) (bank : Fin 4) (w : RegW), s.stopped = false → s.regsWf = true →
    w.high = false → (∀ g ∈ s.frames, g = f ∨ g.id ≠ f.id) →
    let b := Blk.jet j.val
    let p := s.jplace j
    let st := s.jst j
    let all := s.eligible f.d.basin
    let best := all.filter (fun x => bitAt near x.val)
    let choice := firstAfter (if best.isEmpty then all else best) (s.chan f.ch).lastJet
    let cross := s.frames.find? (fun g => g.ch == c && g.loc == .cross)
    let none_ := ∀ g ∈ s.frames, g.loc ≠ .jet j
    let quiet := ∀ m : PortId, s.borrows m.val = false
    let cmd := s.Takes w b Reg.JET_CMD_OP.off ∧ w.acc.world = .S
    let ms := s.fget Blk.JET0 Reg.JET_ROT_INTERVAL_MS
    let bit (v : BitVec 10) := bitAt v j.val
    (cross = none → exec (.jetDispatch c near bank) s = .next s)
    ∧ (cross = some f → choice = none → quiet → ∃ t, exec (.jetDispatch c near bank) s = .next t
      ∧ t.frames = s.frames.filter (fun g => g.id != f.id)
      ∧ t.rget (Blk.cas f.ch.val) Ctr.CAS_DROP_NOJET.off = s.rget (Blk.cas f.ch.val) Ctr.CAS_DROP_NOJET.off + 1)
    ∧ (cross = some f → choice = some j → s.pickCells (cellsFor f.jetLen) bank.val = none → exec (.jetDispatch c near bank) s = .next s)
    ∧ (cross = some f → choice = some j → quiet → ∀ l, s.pickCells (cellsFor f.jetLen) bank.val = some l →
      ∃ t, exec (.jetDispatch c near bank) s = .next t ∧ (∃ g ∈ t.frames, g.id = f.id ∧ g.loc = .jet j ∧ g.outCells = l ∧ g.bytes = f.bytes
        ∧ g.flip = s.flag b Reg.JET_INJECT_PARITY) ∧ (t.chan f.ch).lastJet = j ∧ t.flag b Reg.JET_INJECT_PARITY = false)
    ∧ (s.jetFirst j = none → exec (.jetOutputChecked j) s = .next s)
    ∧ (s.jetFirst j = some f → f ∈ s.frames → f.flip = false → ∃ t, exec (.jetOutputChecked j) s = .next t
      ∧ (∃ g ∈ t.frames, g.id = f.id ∧ g.loc = .rejoin ∧ g.again = false ∧ g.bytes = f.bytes)
      ∧ t.rget b Ctr.JET_FRAMES.off = s.rget b Ctr.JET_FRAMES.off + 1)
    ∧ (s.jetFirst j = some f → f.flip = true → exec (.jetOutputChecked j) s = .next (s.jetFault j))
    ∧ (st ≠ 1 → st ≠ 4 → exec (.jetFault j) s = .next s)
    ∧ (st = 1 → none_ → s.errs.length < 16 → s.flag Blk.ERR Reg.ERR_CTRL_ESC_EN = false → ∃ t, exec (.jetFault j) s = .next t
      ∧ t.jst j = 5 ∧ t.ready (Rdy.jet j.val) = false ∧ t.jplace j = 15 ∧ t.flag b Reg.JET_EVENT_FAULT = true ∧ t.frames = s.frames
      ∧ t.rget b Ctr.JET_FAULTS.off = s.rget b Ctr.JET_FAULTS.off + 1 ∧ (∃ e, t.errs = s.errs ++ [e] ∧ e.cls = 6 ∧ e.index = j.val)
      ∧ (s.spareJet true = some k → p ≠ 15 → t.jst k = 1 ∧ t.jplace k = p))
    ∧ (ms = 0 ∨ s.spareJet false = none ∨ s.jst 0 = 4 → exec .jetRotation s = .next s)
    ∧ (ms ≠ 0 → (∀ x, s.jst x ≠ 4) → s.spareJet false = some k → p ≠ 15 →
      firstAfter ((List.finRange 10).filter (fun x => decide (s.jst x = 1))) s.rotated = some j → ∃ t, exec .jetRotation s = .next t
        ∧ t.jst j = 4 ∧ t.jplace j = 15 ∧ t.jst k = 1 ∧ t.jplace k = p ∧ t.rotated = j ∧ t.flag b Reg.JET_EVENT_ROTATED = true)
    ∧ (st ≠ 4 ∨ ¬ none_ → exec (.jetDrainEnd j) s = .next s)
    ∧ (st = 4 → none_ → ∃ t, exec (.jetDrainEnd j) s = .next t ∧ t.jst j = (if bit s.jetFence then 5 else 3)
      ∧ (bit s.jetFence = false → bit t.jetTest = true) ∧ t.frames = s.frames)
    ∧ (bit s.jetTest = false → exec (.jetSelfTestDone j true) s = .next s ∧ exec (.jetSelfTestDone j false) s = .next s)
    ∧ (bit s.jetTest = true → st = 3 ∨ st = 5 ∨ st = 6 → s.errs.length < 16 →
      (∃ t, exec (.jetSelfTestDone j true) s = .next t ∧ t.jst j = 2 ∧ t.ready (Rdy.jet j.val) = true ∧ t.flag b Reg.JET_EVENT_TEST_PASS = true
        ∧ bit t.jetTest = false ∧ t.rget b Ctr.JET_TESTS.off = s.rget b Ctr.JET_TESTS.off + 1)
      ∧ ∃ t, exec (.jetSelfTestDone j false) s = .next t ∧ t.jst j = 6 ∧ t.ready (Rdy.jet j.val) = false
        ∧ t.flag b Reg.JET_EVENT_TEST_FAIL = true ∧ ∃ e, t.errs = s.errs ++ [e] ∧ e.cls = 7 ∧ e.index = j.val)
    ∧ (cmd → w.val = 1 → (st = 5 ∨ st = 6 → exec (.jetTest j w) s = .next { s with jetTest := setBit s.jetTest j.val true })
      ∧ (st < 5 → exec (.jetTest j w) s = .next s))
    ∧ (cmd → w.val = 2 → (st = 2 → ∃ t, exec (.jetFence j w) s = .next t ∧ t.jst j = 5 ∧ t.ready (Rdy.jet j.val) = false)
      ∧ (st = 1 → ¬ none_ → ∃ t, exec (.jetFence j w) s = .next t ∧ t.jst j = 4 ∧ t.jplace j = 15 ∧ bit t.jetFence = true)
      ∧ (2 < st → exec (.jetFence j w) s = .next s))
    ∧ (s.Takes w b Reg.JET_CMD_OP.off → w.acc.world = .N → exec (.jetTest j w) s = .next s ∧ exec (.jetFence j w) s = .next s)
    ∧ (s.Takes w b Reg.JET_INJECT_PARITY.off → s.expert b = true → w.val = 1 →
      ∃ t, exec (.jetInjectParity j w) s = .next t ∧ t.flag b Reg.JET_INJECT_PARITY = true ∧ t.frames = s.frames ∧ t.jetTest = s.jetTest)

/-- R146 to R151 and R157: an aligned read of SLU_OPEN opens the lowest free slot with its next handle; the Sluice takes its
oldest command, answers the first check that fails, stages a write list, seals a stage or discards it. -/
def Obligations.SluiceCommands : Prop :=
  ∀ (s : State) (r : RegR) (q : QCmd) (rest : List QCmd) (k : StageId), s.stopped = false → s.regsWf = true →
    let d := ({ s with sluQ := rest } : State).dmaRead q.acc q.addr 64
    let u := d.1
    let b := d.2.1
    let bad := sluOp b = 0 ∨ 4 < sluOp b
    let code (n : Nat) := (.next (u.sluAnswer q ⟨n, 0, false⟩) : Host.Outcome State Fault Refusal)
    let ops := [(Instr.write, 1), (.release, 2), (.arm, 3), (.discard, 4)]
    let good := s.ready Rdy.sluice = true ∧ s.sluQ = q :: rest ∧ d.2.2 = .ok
    let fields := u.sluFormBad b = false
    (s.frozen r.acc.src = false → r.wide = true → r.high = false → (∃ x y z, s.guard r.acc (regAddr Blk.SLU 0) 8 .read = .ok x y z) →
      s.devOk Blk.SLU 0 8 = true → (s.slotToOpen r.acc = none → exec (.sluOpenRead r) s = .next { s with rdata := 0 })
        ∧ (s.slotToOpen r.acc = some k → s.stg k Reg.SLU_STAGE_HANDLE < 2 ^ 16 → ∃ t, exec (.sluOpenRead r) s = .next t
          ∧ t.rdata = BitVec.ofNat 64 (2 ^ 63 + s.nextHandle k) ∧ t.stg k Reg.SLU_STAGE_HANDLE = s.nextHandle k ∧ t.sst4 k = stOPEN
          ∧ t.stg k Reg.SLU_STAGE_OWNER = r.acc.basin.val ∧ t.stage k = Stage.empty))
    ∧ (s.ready Rdy.sluice = false ∨ s.sluQ = [] → ∀ x ∈ ops, exec x.1 s = .next s)
    ∧ (good → ∀ x ∈ ops, sluOp b ≠ x.2 → exec x.1 s = .next s)
    ∧ (good → ∀ x ∈ ops, sluOp b = x.2 → u.sluFormBad b = true → exec x.1 s = code 0x11)
    ∧ (good → sluOp b = 1 → fields → (u.stageFor q.handle q.acc = none → exec .write s = code 0x20)
      ∧ (∀ x, u.stageFor q.handle q.acc = some x → ∀ n m, (u.stageList x q.acc (sluCount b) (sluList b) 0).2 = .code n m →
        exec .write s = .next ((u.stageList x q.acc (sluCount b) (sluList b) 0).1.sluAnswer q ⟨n, m, false⟩)))
    ∧ (good → sluOp b = 2 ∨ sluOp b = 3 → fields →
      let o := exec (if sluOp b = 2 then .release else .arm) s
      (u.stageFor q.handle q.acc = none → o = code 0x20)
      ∧ (∀ x, u.stageFor q.handle q.acc = some x → (u.sealCheck x b ≠ 0 → o = code (u.sealCheck x b))
        ∧ (u.sealCheck x b = 0 → o = .next ((u.sealStage x b).sluAnswer q ⟨0, 0, false⟩)
          ∧ (u.regsWf = true → (u.sealStage x b).sst4 x = stSEALING) ∧ ((u.sealStage x b).stage x).rows = (u.stage x).rows)))
    ∧ (good → sluOp b = 4 → fields →
      ((u.stageOfHandle q.handle).filter (fun k => u.ownsStage k q.acc || isS q.acc.world) = none → exec .discard s = code 0x20)
      ∧ (∀ x, (u.stageOfHandle q.handle).filter (fun k => u.ownsStage k q.acc || isS q.acc.world) = some x →
        (u.sst4 x = stOPEN ∨ u.sst4 x = stSEALING ∨ u.sst4 x = stARMED →
          exec .discard s = .next ((u.discardStage x 1).sluAnswer q ⟨0, 0, false⟩))
        ∧ (u.sst4 x = stDRAINING ∨ u.sst4 x = stPREPARED → exec .discard s = code 0x33)))
    ∧ (s.ready Rdy.sluice = true → s.sluQ = q :: rest → (d.2.2 = .ok → bad → exec .sluBadOp s = code 0x02) ∧ (d.2.2 = .ok → ¬ bad → exec .sluBadOp s = .next s)
      ∧ (d.2.2 = .poison → exec .sluBadOp s = code 0x01) ∧ (d.2.2 = .refused → exec .sluBadOp s = .next u))

/-- R151 to R153 and R156: sealing ends with the stage PENDING, ARMED or VOTING; at its instant the epoch switches and the
stages due drain; draining ends once no frame of the old epoch is in a chain; an armed stage no PREPARE named times out. -/
def Obligations.StageCourse : Prop :=
  ∀ (s : State) (k : StageId) (n : Nat), s.stopped = false → s.regsWf = true →
    let g := s.stage k
    let soon := s.tb.now + nsU 100
    let quit (t : State) (cause : Nat) := t.sst4 k = stDISCARDED ∧ t.stg k Reg.SLU_STAGE_CAUSE = cause ∧ (t.stage k).rows = []
      ∧ t.rget Blk.SLU Ctr.SLU_DISCARDED.off = s.rget Blk.SLU Ctr.SLU_DISCARDED.off + 1
    let bare := g.cfgs = [] ∧ g.sa = [] ∧ g.weir = []
    let only := ∀ x : StageId, x ≠ k → s.sst4 x ≠ stPENDING ∧ s.sst4 x ≠ stDRAINING
    (s.sst4 k ≠ stSEALING → exec (.sealComplete k) s = .next s)
    ∧ (s.sst4 k = stSEALING → g.scope = .localS →
      ∃ t, exec (.sealComplete k) s = .next t ∧ t.sst4 k = stPENDING
        ∧ (t.stage k).due = some (if g.atTime = true ∧ soon ≤ g.t then g.t else soon)
        ∧ (g.atTime = true → g.t < soon → t.stg k Reg.SLU_STAGE_LATE = 1) ∧ t.cfgNow = s.cfgNow ∧ t.epoch = s.epoch)
    ∧ (s.sst4 k = stSEALING → g.scope ≠ .localS → g.arm = true → ∃ t, exec (.sealComplete k) s = .next t ∧ t.sst4 k = stARMED
      ∧ t.cfgNow = s.cfgNow)
    ∧ (s.sst4 k = stSEALING → g.scope = .group → g.arm = false → g.atTime = true → g.cfgs = [] →
      g.t < s.tb.now + (s.sluTimes .group).1 + (s.sluTimes .group).2.1 + (s.sluTimes .group).2.2 →
      ∃ t, exec (.sealComplete k) s = .next t ∧ quit t 8)
    ∧ (s.draining = true ∨ s.nextRelease = none → exec .epochSwitch s = .next s)
    ∧ (s.draining = false → s.sst4 k = stPENDING → g.due = some n → n ≤ s.tb.now → bare → only → s.stg k Reg.SLU_STAGE_PRESUMED = 0 →
      ∃ t, exec .epochSwitch s = .next t ∧ t.epoch = !s.epoch ∧ t.cfgOld = s.cfgNow ∧ t.cfgNow = g.rows.foldl setRow s.cfgNow
        ∧ t.sst4 k = stDRAINING ∧ t.frames = s.frames
        ∧ t.rget Blk.SLU Ctr.SLU_SWITCHES.off = s.rget Blk.SLU Ctr.SLU_SWITCHES.off + 1)
    ∧ (s.draining = false → s.sst4 k = stPENDING → g.due = some n → s.tb.now < n → bare → only → s.stg k Reg.SLU_STAGE_PRESUMED = 0 →
      ∃ t, exec .epochSwitch s = .next t ∧ t.epoch = !s.epoch ∧ t.tb.now = n ∧ t.sst4 k = stDRAINING)
    ∧ (s.draining = false ∨ s.frames.any (fun f => s.oldInChain f) = true → exec .drainEnd s = .next s)
    ∧ (s.sst4 k = stDRAINING → s.frames = [] → only → ∃ t, exec .drainEnd s = .next t ∧ t.sst4 k = stRELEASED ∧ t.cfgOld = [] ∧ t.scOld = []
      ∧ t.cfgNow = s.cfgNow ∧ t.epoch = s.epoch
      ∧ t.rget Blk.SLU Ctr.SLU_RELEASED.off = s.rget Blk.SLU Ctr.SLU_RELEASED.off + 1)
    ∧ (s.sst4 k ≠ stARMED → exec (.armTimeout k) s = .next s)
    ∧ (s.sst4 k = stARMED → s.txns = [] → g.cfgs = [] → ∃ t, exec (.armTimeout k) s = .next t ∧ quit t 7)

/-- R158 to R162: a PREPARE opens a record with the stage armed for it and is answered with one VOTE; a DECIDE or ABORT of
the uplink acts once on the stage; at T less G a prepared stage becomes pending, and the record ends at T plus G; a
coordinator without its votes in time aborts. -/
def Obligations.SluiceTransactions : Prop :=
  ∀ (s : State) (m : SluMsg) (rest : List SluMsg) (k : StageId) (r : TxnRec), s.stopped = false → s.regsWf = true → s.sluIn = m :: rest →
    let u : State := { s with sluIn := rest }
    let g := s.stage k
    let unexp := (.next u.sluUnexp : Host.Outcome State Fault Refusal)
    let msgs := [(Instr.prepareMsg, 6), (.voteMsg, 7), (.decideMsg, 8), (.abortMsg, 9)]
    let ok (ty : Nat) := m.ty = ty ∧ sluFormOk ty m.body = true
    let mine := s.txns = [r] ∧ r.origin = m.origin ∧ r.txn = m.txn ∧ r.stage = some (k, s.stg k Reg.SLU_STAGE_HANDLE) ∧ r.edges = []
    let inTime := dtbOf96 m.at_ < r.t - r.g
    (∀ x ∈ msgs, (m.ty ≠ x.2 → exec x.1 s = .next s) ∧ (m.ty = x.2 → sluFormOk x.2 m.body = false → exec x.1 s = unexp))
    ∧ (ok 6 → (s.txnOf m.origin m.txn).isSome = true → exec .prepareMsg s = unexp)
    ∧ (ok 6 → beAt m.body 44 1 = 2 → s.uplink ≠ some m.edge → exec .prepareMsg s = unexp)
    ∧ (ok 6 → beAt m.body 44 1 = 2 → s.uplink = some m.edge → s.downEdges = [] → s.txnOf m.origin m.txn = none → s.txns.length < 16 →
      ∃ t, exec .prepareMsg s = .next t ∧ t.sluIn = rest ∧ t.cfgNow = s.cfgNow ∧ ∃ x, t.txns = s.txns ++ [x] ∧ x.origin = m.origin ∧ x.txn = m.txn
        ∧ x.t = dtbAt m.body 16 ∧ x.deadline = dtbAt m.body 28 ∧ x.up = m.edge ∧ x.stage = s.armedFor m.origin m.txn false ∧ x.voted = false)
    ∧ (ok 7 → s.coordFor m = none → s.txnOf m.origin m.txn = none → exec .voteMsg s = unexp)
    ∧ (∀ x, s.coordFor m = some x → ok 7 → s.sst4 x.1 ≠ stVOTING →
      ∃ t, exec .voteMsg s = .next t ∧ t.rget Blk.SLU Ctr.SLU_LATE_VOTE.off = s.rget Blk.SLU Ctr.SLU_LATE_VOTE.off + 1 ∧ t.sluIn = rest)
    ∧ (∀ x, s.coordFor m = some x → ok 7 → s.sst4 x.1 = stVOTING → (s.stage x.1).no = 0 → beAt m.body 20 4 = 0 →
      (s.stage x.1).yes + beAt m.body 16 4 < (s.stage x.1).parts →
      ∃ t, exec .voteMsg s = .next t ∧ (t.stage x.1).yes = (s.stage x.1).yes + beAt m.body 16 4 ∧ t.sst4 x.1 = stVOTING)
    ∧ (ok 8 ∨ ok 9 → s.txnOf m.origin m.txn = none ∨ (∃ x ∈ s.txnOf m.origin m.txn, x.decided = true) →
      exec (if m.ty = 8 then .decideMsg else .abortMsg) s = unexp)
    ∧ (ok 8 → mine → r.decided = false → r.up ∈ m.edges → s.sst4 k = stPREPARED →
      ∃ t, exec .decideMsg s = .next t ∧ t.stg k Reg.SLU_STAGE_DECIDED = 1 ∧ t.sst4 k = stPREPARED ∧ t.txns = [{ r with decided := true }])
    ∧ (ok 9 → mine → r.decided = false → r.up ∈ m.edges → s.sst4 k = stPREPARED → g.cfgs = [] → (inTime → ∃ t, exec .abortMsg s = .next t
        ∧ t.sst4 k = stDISCARDED ∧ t.stg k Reg.SLU_STAGE_CAUSE = 3)
      ∧ (¬ inTime → ∃ t, exec .abortMsg s = .next t ∧ t.sst4 k = stPREPARED ∧ t.stg k Reg.SLU_STAGE_DIVERGED = 1
        ∧ t.rget Blk.SLU Ctr.SLU_LATE_ABORT.off = s.rget Blk.SLU Ctr.SLU_LATE_ABORT.off + 1))
    ∧ (mine → r.origin < 2 ^ 64 → r.txn < 2 ^ 64 → r.voted = false → s.edgeUp r.up = false → s.sst4 k = stARMED → s.tb.now < r.t - r.g →
      ∃ t, exec (.prepareVoteSend (BitVec.ofNat 64 r.origin) (BitVec.ofNat 64 r.txn)) s = .next t ∧ t.sst4 k = stPREPARED
        ∧ t.txns = [{ r with voted := true }] ∧ (t.stage k).t = r.t ∧ (t.stage k).guardT = r.g)
    ∧ (s.txns = [] → exec (.prepareVoteSend 1 2) s = .next s ∧ exec (.txnRecordExpire 1 2) s = .next s)
    ∧ (s.txns = [r] → r.origin = 1 → r.txn = 2 → ∃ t, exec (.txnRecordExpire 1 2) s = .next t ∧ t.txns = [] ∧ r.t + r.g ≤ t.tb.now ∧ t.regs = s.regs)
    ∧ (s.sst4 k ≠ stPREPARED → exec (.presumeTimer k) s = .next s)
    ∧ (s.sst4 k = stPREPARED → ∃ t, exec (.presumeTimer k) s = .next t ∧ t.sst4 k = stPENDING ∧ (t.stage k).due = some g.t
      ∧ g.t - g.guardT ≤ t.tb.now ∧ (s.stg k Reg.SLU_STAGE_DECIDED = 0 → t.stg k Reg.SLU_STAGE_PRESUMED = 1))
    ∧ (s.sst4 k ≠ stVOTING → exec (.voteDeadline k) s = .next s)
    ∧ (s.sst4 k = stVOTING → g.edges = [] → g.cfgs = [] → ∃ t, exec (.voteDeadline k) s = .next t ∧ t.sst4 k = stDISCARDED
      ∧ t.stg k Reg.SLU_STAGE_CAUSE = 4 ∧ g.deadline ≤ t.tb.now)

/-- R168: lanes that detect signal lead to EXCHANGE, a TRAIN flit to EQUALISE, and CHECK to MISMATCH, FLOOR_FAIL or UP in the
highest mode both sides have; a training that runs out returns to DETECT; a write of RDG_LCTRL restarts training. -/
def Obligations.RidgeTraining : Prop :=
  ∀ (s : State) (l : LinkId) (lanes ln : BitVec 4) (ident : Word) (ix floor : BitVec 3) (tag : BitVec 32) (ab : BitVec 6) (w : RegW),
    s.regsWf = true → s.stopped = false → (∀ d, (s.core d).waiting = none) →
    let b := Blk.rdg l.val
    let k := s.link l
    let can := s.flag b Reg.RDG_LCTRL_ENABLE = true ∧ s.flag Blk.RDG0 Reg.RDG_GROUP_EN = true ∧ s.pwr 91 = 0
    let common := (bitList ((k.lanes &&& k.peerLanes).setWidth 64)).length
    let both := fun (c : Nat) => 1 ≤ c ∧ c ≤ 6 ∧ rlLanes c ≤ common ∧ k.peerAbility.getLsbD (c - 1) = true
      ∧ s.fget b Reg.RDG_LCTRL_ABILITY / 2 ^ (c - 1) % 2 = 1 ∧ floor.toNat ≤ c ∧ s.fget b Reg.RDG_LCTRL_FLOOR ≤ c
    let stranger := s.fget Blk.RDG0 Reg.RDG_GROUP_TAG ≠ k.peerTag.toNat ∨ s.myIndex = k.peerIndex.toNat
    (s.rls l = 1 → lanes ≠ 0 → ∃ t, exec (.rlDetect l lanes) s = .next t ∧ t.rls l = 2 ∧ (t.link l).lanes = lanes ∧ t.mem = s.mem)
    ∧ (s.rls l ≠ 1 ∨ lanes = 0 → exec (.rlDetect l lanes) s = .next s)
    ∧ (s.rls l = 2 → ∃ t, exec (.trainFlit l ident ix tag ab ln) s = .next t ∧ t.rls l = 3 ∧ t.rget b Reg.RDG_LPEER_PEER.off = ident
      ∧ (t.link l).peerTag = tag ∧ (t.link l).peerIndex = ix ∧ (t.link l).peerAbility = ab ∧ (t.link l).peerLanes = ln
      ∧ t.rget b Ctr.RDG_FLITS_RX.off = s.rget b Ctr.RDG_FLITS_RX.off + 1)
    ∧ (s.rls l ≠ 2 → exec (.trainFlit l ident ix tag ab ln) s = .next s)
    ∧ (s.rls l = 3 → stranger → ∃ t, exec (.rlEqualiseDone l floor) s = .next t ∧ t.rls l = 6
      ∧ t.flag b Reg.RDG_LEVENT_MISMATCH = true ∧ t.links = s.links)
    ∧ (s.rls l = 3 → ¬ stranger → (∀ c, ¬ both c) → ∃ t, exec (.rlEqualiseDone l floor) s = .next t ∧ t.rls l = 7
      ∧ t.flag b Reg.RDG_LEVENT_MISMATCH = true ∧ t.links = s.links)
    ∧ (∀ c, s.rls l = 3 → ¬ stranger → both c → (∀ d, both d → d ≤ c) → ∃ t, exec (.rlEqualiseDone l floor) s = .next t ∧ t.rls l = 5
      ∧ t.fget b Reg.RDG_LSTATUS_MODE = c ∧ t.fget b Reg.RDG_LSTATUS_NEIGHBOUR = k.peerIndex.toNat
      ∧ t.ready (Rdy.rl l.val) = true ∧ t.flag b Reg.RDG_LEVENT_UP = true
      ∧ (s.flag b Reg.RDG_LEVENT_DEGRADED = false → t.flag b Reg.RDG_LEVENT_DEGRADED = decide (c < k.lastMode)))
    ∧ (s.rls l ≠ 3 → exec (.rlEqualiseDone l floor) s = .next s)
    ∧ (1 ≤ s.rls l ∧ s.rls l ≤ 4 → ∃ t, exec (.rlTrainTimeout l) s = .next t ∧ t.rls l = 1 ∧ t.links = s.links)
    ∧ (s.rls l = 0 ∨ 5 ≤ s.rls l → exec (.rlTrainTimeout l) s = .next s)
    ∧ (s.rls l = 6 ∨ s.rls l = 7 → (can → ∃ t, exec (.rlRetryTimer l) s = .next t ∧ t.rls l = 1 ∧ t.links = s.links)
      ∧ (¬ can → ∃ t, exec (.rlRetryTimer l) s = .next t ∧ t.rls l = 0 ∧ t.links = s.links))
    ∧ (s.rls l < 6 → exec (.rlRetryTimer l) s = .next s)
    ∧ (s.rls l = 0 → can → ∃ t, exec (.rlRetrainTimer l) s = .next t ∧ t.rls l = 1 ∧ t.links = s.links)
    ∧ (s.rls l ≠ 0 → exec (.rlRetrainTimer l) s = .next s)
    ∧ (s.Takes w b 0x040 → w.wide = true → s.lockBit b = false → s.rls l ≠ 5 →
      (1 ≤ bits w.val.toNat 6 4 → bits w.val.toNat 6 4 ≤ 6 → ∃ t, exec (.rdgLctrlWrite l w) s = .next t
        ∧ t.fget b Reg.RDG_LCTRL_ABILITY = bits w.val.toNat 13 8 ∧ t.fget b Reg.RDG_LCTRL_FLOOR = bits w.val.toNat 6 4
        ∧ t.rls l = (if w.val.toNat % 2 = 1 ∧ s.flag Blk.RDG0 Reg.RDG_GROUP_EN = true ∧ s.pwr 91 = 0 then 1 else 0))
      ∧ (bits w.val.toNat 6 4 = 0 ∨ bits w.val.toNat 6 4 = 7 → exec (.rdgLctrlWrite l w) s = .next s))

/-- R169 to R177: a flit that arrives in order over an UP link is counted and acted on at its destination by its type, or
goes on with HOPS one more; after a gap it is discarded and a LINK flit names the last in order; a repeated one is dropped.
-/
def Obligations.RidgeFlits : Prop :=
  ∀ (s : State) (l : LinkId) (f : Flit) (bank : Fin 4), s.regsWf = true → s.stopped = false → s.rls l = 5 →
    (s.link l).replay = [] → f.len = f.payload.length → f.len ≤ 240 →
    let k := s.link l
    let d := Blk.RDG0
    let u := (s.modLink l (fun k => { k with rxSeq := f.seq })).bump (Blk.rdg l.val) Ctr.RDG_FLITS_RX
    let here := f.seq = k.rxSeq + 1 ∧ f.dst = s.myIndex
    let mine := fun (o : ROpen) => o.src == f.src && o.tag == f.tag
    let rest := u.ropen.filter (fun o => !(mine o))
    let ctr := fun (c : Fld) (x : State) => x.rget d c.off
    let rows := [(Instr.frameFlit l f bank, 1), (.reqFlit l f, 2), (.rspFlit l f, 3), (.doorbellFlit l f, 5)]
    let core : CoreId := s.leadOf (Fin.ofNat 32 (beAt f.payload 0 1))
    let basin : BasinId := Fin.ofNat 64 (beAt f.payload 1 1)
    let world := worldOf (beAt f.payload 1 1 / 128)
    (∀ x ∈ rows, f.ty ≠ x.2 → exec x.1 s = .next s)
    ∧ (here → f.ty = 1 →
      (f.isFirst = true → f.isLast = false → rest = u.ropen →
        exec (.frameFlit l f bank) s = .next { u with ropen := rest ++ [⟨f.src, f.tag, f.payload⟩] })
      ∧ (f.isFirst = false → rest = u.ropen → ∃ t, exec (.frameFlit l f bank) s = .next t
        ∧ ctr Ctr.RDG0_DROP_REROUTE t = ctr Ctr.RDG0_DROP_REROUTE u + 1 ∧ t.ropen = s.ropen ∧ t.frames = s.frames)
      ∧ (∀ o, u.ropen.find? mine = some o → f.isFirst = false → f.isLast = false →
        exec (.frameFlit l f bank) s = .next { u with ropen := rest ++ [⟨f.src, f.tag, o.bytes ++ f.payload⟩] })
      ∧ (∀ o, u.ropen.find? mine = some o → f.isFirst = false → f.isLast = true →
        exec (.frameFlit l f bank) s = .next (({ u with ropen := rest }).lentFrame f.src f.tag (o.bytes ++ f.payload) bank.val)))
    ∧ (here → f.ty = 2 → let r := u.serveReq l f.payload
      exec (.reqFlit l f) s = .next (r.1.sendRsp f s.myIndex r.2.1 r.2.2)
      ∧ (s.frozen (.ridge l) = true → r.2 = (1, []) ∧ ctr Ctr.RDG0_REQ_REFUSED r.1 = ctr Ctr.RDG0_REQ_REFUSED u + 1 ∧ r.1.mem = s.mem))
    ∧ (here → f.ty = 3 → (∀ c, (s.core c).waiting = none) → (s.rreqs.find? (fun r => r.tag == f.tag && r.dev == f.src) = none → exec (.rspFlit l f) s = .next u)
      ∧ ∀ r, s.rreqs.find? (fun r => r.tag == f.tag && r.dev == f.src) = some r →
        (r.op ≠ 2 → exec (.rspFlit l f) s = .next
          (({ u with rreqs := s.rreqs.filter (fun x => x.id != r.id) }).readDone r (beAt f.payload 0 1) (part f.payload 16 64)))
        ∧ (r.op = 2 → (guardOf r.acc.src).isSome = true → (∀ c ∈ List.finRange 32, r.acc.src ≠ .core c) → ∃ t, exec (.rspFlit l f) s = .next t ∧ t.rreqs = s.rreqs.filter (fun x => x.id != r.id)
          ∧ (beAt f.payload 0 1 = 0 → t.errs = s.errs)
          ∧ (beAt f.payload 0 1 ≠ 0 → s.errs.length < 16 → ∃ e, t.errs = s.errs ++ [e] ∧ e.cls = 19 ∧ e.basin = r.acc.basin)))
    ∧ (here → f.ty = 4 → beAt f.payload 0 1 ≠ 0 →
      (6 ≤ beAt f.payload 0 1 ∧ beAt f.payload 0 1 ≤ 9 → exec (.sluiceFlit l f) s = .next
        { u with sluIn := s.sluIn ++ [⟨.rl l, some (Fin.ofNat 8 f.src), beAt f.payload 0 1, f.payload.drop 8, s.dtb96⟩] })
      ∧ (beAt f.payload 0 1 < 6 ∨ 9 < beAt f.payload 0 1 → exec (.sluiceFlit l f) s = .next u))
    ∧ (here → f.ty = 4 → beAt f.payload 0 1 = 0 → exec (.sluiceFlit l f) s = .next s ∧
      (let p : PortId := Fin.ofNat 32 (beAt f.payload 1 1)
       (s.carries p.val = false ∨ (s.lending p.val).2.1 ≠ f.src → exec (.lentXoffFlit l f) s = .next u)
       ∧ (s.carries p.val = true → (s.lending p.val).2.1 = f.src → ∃ t, exec (.lentXoffFlit l f) s = .next t
        ∧ (t.mac (macOf p)).acct = BitVec.ofNat 8 (beAt f.payload 2 1) ∧ t.frames = s.frames)))
    ∧ (here → f.ty = 5 → sparseWf (fun _ => (⟨[], false⟩ : Dbq)) s.dbqs = true →
      (world = .S ∨ (s.pair (pairOf core)).basins.getLsbD basin.val = true → ∃ t, exec (.doorbellFlit l f) s = .next t
        ∧ t.dbq core.val = (if 16 ≤ (s.dbq core.val).q.length then { s.dbq core.val with lost := true }
          else { s.dbq core.val with q := (s.dbq core.val).q ++ [⟨world, f.src, basin, BitVec.ofNat 16 (leAt f.payload 2 2)⟩] })
        ∧ (∀ c : CoreId, c ≠ core → t.dbq c.val = s.dbq c.val) ∧ t.regs = u.regs)
      ∧ (world = .N → (s.pair (pairOf core)).basins.getLsbD basin.val = false → ∃ t, exec (.doorbellFlit l f) s = .next t
        ∧ ctr Ctr.RDG0_DB_REFUSED t = ctr Ctr.RDG0_DB_REFUSED u + 1 ∧ t.dbqs = s.dbqs))
    ∧ (∀ x ∈ rows, f.ty = x.2 → (∀ c, (s.core c).waiting = none) → f.seq = k.rxSeq + 1 → f.dst ≠ s.myIndex → exec x.1 s = .next (u.forwardFlit f)
      ∧ (f.hops = 3 → ∃ t, exec x.1 s = .next t ∧ ctr Ctr.RDG0_DROP_HOPS t = ctr Ctr.RDG0_DROP_HOPS u + 1
        ∧ t.out = s.out ∧ t.ropen = s.ropen ∧ t.rreqs = s.rreqs)
      ∧ ((List.range 4).all (fun i => !(s.linkUp i && (s.routeEntry f.dst >>> i) % 2 = 1)) = true → s.routeEntry f.dst / 64 % 2 = 0 →
        f.hops < 3 → f.ty ≠ 2 → ∃ t, exec x.1 s = .next t
        ∧ ctr Ctr.RDG0_DROP_REROUTE t = ctr Ctr.RDG0_DROP_REROUTE u + 1 ∧ t.out = s.out))
    ∧ (∀ x ∈ rows, f.ty = x.2 → (∀ c, (s.core c).waiting = none) → f.seq ≠ k.rxSeq + 1 → ∃ t, exec x.1 s = .next t ∧ t.link l = s.link l ∧ t.ropen = s.ropen ∧ t.rreqs = s.rreqs
      ∧ (f.seq = k.rxSeq ∨ 2048 ≤ (f.seq - k.rxSeq).toNat → t = s)
      ∧ (f.seq ≠ k.rxSeq → (f.seq - k.rxSeq).toNat < 2048 → ∃ g, t.out = Out.flit l g :: s.out ∧ g.ty = 6 ∧ g.ack = k.rxSeq))

/-- R169, R170, R173, R176 and R179: a flit discarded is counted and a LINK flit sent; a LINK flit has the unacknowledged
flits sent again, and the eighth without progress takes the link DOWN; a stream moves when it is quiet; doorbells. -/
def Obligations.RidgeLinksAndDoorbells : Prop :=
  ∀ (s : State) (l : LinkId) (f : Flit) (src dst : Fin 8) (cls : Fin 4) (tag : BitVec 16) (w : RegW) (r : RegR) (c : CoreId),
    s.regsWf = true → s.stopped = false → (∀ d, (s.core d).waiting = none) →
    let b := Blk.rdg l.val
    let k := s.link l
    let at_ := fun (n : Fld) (x : State) => x.rget b n.off
    let same := fun (r : RStream) => r.src == src.val && r.dst == dst.val && r.cls == cls.val && r.tag == tag
    let held := (s.links.toList.flatMap (fun k => k.replay ++ k.waitq)).any (fun f =>
      f.src == src.val && f.dst == dst.val && flitClass f.ty == cls.val && f.tag == tag)
    let quiet := k.replay = [] ∧ k.waitq = [] ∧ (∀ r ∈ s.rreqs, r.link ≠ l.val) ∧ (∀ m ∈ List.range 32, s.borrows m = false)
    let my := (f.ty = 6 ∧ f.len = f.payload.length ∧ f.len ≤ 240)
    (s.rls l = 5 → quiet → ∃ t, exec (.rlNoFlitTimeout l) s = .next t ∧ t.rls l = 0 ∧ t.flag b Reg.RDG_LEVENT_DOWN = true
      ∧ t.fget b Reg.RDG_LSTATUS_MODE = 0 ∧ t.ready (Rdy.rl l.val) = false ∧ (t.link l).lastMode = s.fget b Reg.RDG_LSTATUS_MODE
      ∧ at_ Ctr.RDG_DOWNS t = at_ Ctr.RDG_DOWNS s + 1)
    ∧ (s.rls l ≠ 5 → exec (.rlNoFlitTimeout l) s = .next s)
    ∧ (∀ r ∈ s.rreqs, s.rls l = 5 → k.replay = [] → k.waitq = [] → (∀ m ∈ List.range 32, s.borrows m = false) → s.rreqs = [r] →
      r.link = l.val → r.op = 2 → (guardOf r.acc.src).isSome = true → (∀ c ∈ List.finRange 32, r.acc.src ≠ .core c) → s.errs.length < 16 → ∃ t, exec (.rlNoFlitTimeout l) s = .next t
      ∧ t.rreqs = [] ∧ t.rget Blk.RDG0 Ctr.RDG0_REQ_REFUSED.off = s.rget Blk.RDG0 Ctr.RDG0_REQ_REFUSED.off + 1
      ∧ ∃ e, t.errs = s.errs ++ [e] ∧ e.cls = 19)
    ∧ (s.rls l = 5 → ∃ t, exec (.flitCrcError l) s = .next t ∧ at_ Ctr.RDG_CRC_ERR t = at_ Ctr.RDG_CRC_ERR s + 1
      ∧ at_ Ctr.RDG_FLITS_TX t = at_ Ctr.RDG_FLITS_TX s + 1 ∧ t.links = s.links
      ∧ ∃ g, t.out = Out.flit l g :: s.out ∧ g.ty = 6 ∧ g.ack = k.rxSeq)
    ∧ (s.rls l ≠ 5 → exec (.flitCrcError l) s = .next (s.bump b Ctr.RDG_CRC_ERR))
    ∧ (¬ my ∨ s.rls l ≠ 5 → exec (.linkFlit l f) s = .next s)
    ∧ (my → s.rls l = 5 → k.replay.findIdx? (fun g => g.seq == f.ack) = none →
      (k.replay = [] → exec (.linkFlit l f) s = .next ((s.bump b Ctr.RDG_FLITS_RX).bump b Ctr.RDG_RESENDS))
      ∧ (k.replay ≠ [] → k.resends < 7 → ∃ t, exec (.linkFlit l f) s = .next t
        ∧ t.out = (k.replay.map (fun g => Out.flit l g)).reverse ++ s.out ∧ t.link l = { k with resends := k.resends + 1 }
        ∧ at_ Ctr.RDG_RESENDS t = at_ Ctr.RDG_RESENDS s + 1
        ∧ at_ Ctr.RDG_FLITS_TX t = at_ Ctr.RDG_FLITS_TX s + BitVec.ofNat 64 k.replay.length)
      ∧ (k.replay ≠ [] → 7 ≤ k.resends → ∃ t, exec (.linkFlit l f) s = .next t ∧ t.rls l = 0
        ∧ t.flag b Reg.RDG_LEVENT_DOWN = true ∧ t.ready (Rdy.rl l.val) = false))
    ∧ (∀ i ∈ List.range 512, my → s.rls l = 5 → k.waitq = [] → k.replay.findIdx? (fun g => g.seq == f.ack) = some i →
      ∃ t, exec (.linkFlit l f) s = .next t ∧ (t.link l).replay = k.replay.drop (i + 1) ∧ (t.link l).acked = f.ack)
    ∧ (s.streams.find? same = none ∨ held = true → exec (.streamRouteMove src dst cls tag) s = .next s)
    ∧ (∀ x, s.streams.find? same = some x → held = false →
      (s.tb.ticks < x.lastTick + 5000 → exec (.streamRouteMove src dst cls tag) s = .next s)
      ∧ (∀ n, s.route dst.val tag = some n → x.lastTick + 5000 ≤ s.tb.ticks → exec (.streamRouteMove src dst cls tag) s = .next
        { s with streams := s.streams.map (fun x => if same x then { x with link := n } else x) }))
    ∧ (s.Takes w Blk.RDG0 0x010 → w.wide = true → let d := w.val.toNat % 8
      (d = s.myIndex → exec (.doorbellSend w) s = .next s)
      ∧ (∀ n, s.route d 0 = some n → d ≠ s.myIndex → s.streams = [] → n < 4 → (s.links.toList.all (fun k => decide (k.replay.length < 512))) = true →
        ∃ t, exec (.doorbellSend w) s = .next t ∧ ∃ g, t.out = Out.flit (Fin.ofNat 4 n) g :: s.out ∧ g.ty = 5 ∧ g.dst = d ∧ g.src = s.myIndex
          ∧ g.payload = [BitVec.ofNat 8 (bits w.val.toNat 44 40), BitVec.ofNat 8 (w.acc.basin.val + 128 * worldBit w.acc.world)]
            ++ leBytes 2 (bits w.val.toNat 63 48))
      ∧ (d ≠ s.myIndex → s.route d 0 = none → exec (.doorbellSend w) s = .next (s.bump Blk.RDG0 Ctr.RDG0_DROP_REROUTE)))
    ∧ (∀ q, (s.dbq (s.leadOf c).val).q.head? = some q → s.frozen r.acc.src = false → r.wide = true → r.high = false →
      s.devOk Blk.RDG0 (0x200 + 8 * c.val) 8 = true → (∃ x y z, s.guard r.acc (regAddr Blk.RDG0 (0x200 + 8 * c.val)) 8 .read = .ok x y z) →
      sparseWf (fun _ => (⟨[], false⟩ : Dbq)) s.dbqs = true → q.device < 8 → ∃ t, exec (.doorbellRead c r) s = .next t
        ∧ t.rdata = BitVec.ofNat 64 (2 ^ 63 + (if (s.dbq (s.leadOf c).val).lost then 2 ^ 62 else 0) + worldBit q.world * 2 ^ 61 + q.device * 2 ^ 58
          + q.basin.val * 2 ^ 48 + q.value.toNat) ∧ t.dbq (s.leadOf c).val = ⟨(s.dbq (s.leadOf c).val).q.tail, false⟩ ∧ t.regs = s.regs)

/-- R340, R342, R353, R354, R356 and R357: what each JTAG instruction captures, shifts out and does; FUSE and AUTH act as
their conditions allow, a certificate that passes every check ORs its grant, and the DAP reaches the DBG and TRC blocks. -/
def Obligations.JtagInstructions : Prop :=
  ∀ (s : State) (tdi pins load : List Bool) (cert image : List Byte) (k : Fin 4) (dg : BitVec 384) (deny : BitVec 12) (n : BitVec 32) (write trc : Bool) (off : BitVec 12) (data : Word),
    s.regsWf = true →
    let cap := Out.jtag [true, false, false, false, false, false, false, false]
    let tap := fun (code : BitVec 8) (driven highz : Bool) (o : List Out) =>
      ({ s with jtag := { s.jtag with ir := code, driven := driven, highz := highz }, out := o ++ cap :: s.out } : State)
    let one := Out.jtag ((false :: tdi).take tdi.length)
    let num := fun (n v : Nat) => (List.range n).map (fun i => v.testBit i)
    let scan := fun (x : State) => ({ x with jtag := { x.jtag with bscan := load } } : State)
    let f := s.fuses
    let may := s.fget Blk.DBG Reg.DBG_AUTH_GRANT / 2 ^ 12 = 1 ∨ f.programmed = 0
    let u := tap 0x22 false false [Out.jtag (num 8 s.jtag.authCode.toNat)]
    let code := u.certCheck cert
    let n0 := s.rget Blk.DBG 0x010
    let n1 := s.rget Blk.DBG 0x018
    let v := tap 0x20 false false [Out.jtag (num 64 s.jtag.dapData.toNat ++ num 2 s.jtag.dapStatus.toNat)]
    let b := if trc then Blk.TRC else Blk.DBG
    let acc : Access := ⟨.dap, .N, 0, false⟩
    (exec (.bypass tdi) s = .next (tap 0xFF false false [one]) ∧ exec .idcode s = .next (tap 0x01 false false [Out.jtag (num 32 0x13216001)])
      ∧ exec (.clamp tdi) s = .next (tap 0x04 true false [one, Out.pins s.jtag.bscan]) ∧ exec (.highz tdi) s = .next (tap 0x05 false true [one])
      ∧ exec (.samplePreload pins load) s = .next (scan (tap 0x02 false false [Out.jtag pins]))
      ∧ exec (.extest pins load) s = .next (scan (tap 0x03 true false [Out.pins load, Out.jtag pins]))
      ∧ exec (.extestPulse pins load) s = .next (scan (tap 0x08 true false [Out.pins load, Out.jtag pins]))
      ∧ exec (.extestTrain pins load) s = .next (scan (tap 0x09 true false [Out.pins load, Out.jtag pins]))
      ∧ exec .nonce s = .next (tap 0x21 false false [Out.jtag (num 64 n0.toNat ++ num 64 n1.toNat)]))
    ∧ (s.boot.phase ≠ .inReset → exec .jtagReset s = .next ((tap 0x25 false false []).deviceReset 8))
    ∧ (s.boot.phase ≠ .waitJtag ∨ s.stopped = true → exec (.jtagLoad image) s = .next (tap 0x23 false false []))
    ∧ (s.boot.phase = .waitJtag → s.stopped = false → let x := (tap 0x23 false false []).imageWrite image
      ∃ t, exec (.jtagLoad image) s = .next t ∧ (x.imageChecks image = none → t = x.imageAccept image 3)
        ∧ (∀ e, x.imageChecks image = some e → t.boot.phase = x.boot.phase ∧ t.fuses = x.fuses ∧ t.cores = x.cores))
    ∧ (¬ may → ∀ fw ∈ [FuseWord.digest k dg, .deny deny, .bitSvn n, .bootSvn n], exec (.fuse fw) s = .next (tap 0x24 false false []))
    ∧ (may → (∃ t, exec (.fuse (.digest k dg)) s = .next t ∧ t.jtag.ir = 0x24 ∧ t.regs = s.regs ∧ t.fuses.deny = f.deny
        ∧ t.fuses.digests.get k = f.digests.get k ||| dg ∧ t.fuses.programmed.getLsbD k.val = true)
      ∧ (∃ t, exec (.fuse (.deny deny)) s = .next t ∧ t.jtag.ir = 0x24 ∧ t.regs = s.regs ∧ t.fuses = { f with deny := f.deny ||| deny })
      ∧ (∃ t, exec (.fuse (.bitSvn n)) s = .next t ∧ t.regs = s.regs
        ∧ t.fuses = { f with bitSvnMin := if f.bitSvnMin < n then n else f.bitSvnMin })
      ∧ ∃ t, exec (.fuse (.bootSvn n)) s = .next t ∧ t.regs = s.regs
        ∧ t.fuses = { f with bootSvnMin := if f.bootSvnMin < n then n else f.bootSvnMin })
    ∧ (cert.length ≠ 7488 ∨ s.pwr 95 ≠ 0 → exec (.auth cert) s = .next u)
    ∧ (cert.length = 7488 → s.pwr 95 = 0 → ∃ t, exec (.auth cert) s = .next t ∧ t.jtag.authCode = BitVec.ofNat 8 code
      ∧ t.rget Blk.DBG 0x010 = Config.rng s.free ∧ t.rget Blk.DBG 0x018 = Config.rng (s.free + 1) ∧ t.out = u.out
      ∧ (code ≠ 0 → t.fget Blk.DBG Reg.DBG_AUTH_GRANT = s.fget Blk.DBG Reg.DBG_AUTH_GRANT)
      ∧ (code = 0 → t.fget Blk.DBG Reg.DBG_AUTH_GRANT = s.fget Blk.DBG Reg.DBG_AUTH_GRANT ||| leAt cert 12 2))
    ∧ (part cert 0 4 ≠ [0x53, 0x4E, 0x42, 0x43] ∨ leAt cert 4 8 ≠ s.sppId ∨ leAt cert 4 8 = 0 ∨ 2 ^ 13 ≤ leAt cert 12 2
      ∨ part cert 15 1 ≠ [0] ∨ part cert 16 16 ≠ leBytes 8 n0.toNat ++ leBytes 8 n1.toNat → cert.length = 7488 → code = 1)
    ∧ (f.slotOk (beAt cert 14 1) (keyDigest cert 64) = false ∨ sigChecks cert 64 ≠ none → code ≠ 0)
    ∧ (s.stopped = true ∨ off.toNat % 8 ≠ 0 ∨ s.devOk b off.toNat 8 = false →
      exec (.dap write trc off data) s = .next { v with jtag := { v.jtag with dapStatus := 2 } })
    ∧ (s.stopped = false → off.toNat % 8 = 0 → s.devOk b off.toNat 8 = true → write = false → ∃ t, exec (.dap write trc off data) s = .next t
      ∧ t.jtag.dapStatus = 0 ∧ t.jtag.dapData = (v.busRead acc b off.toNat 8).2 ∧ t.regs = s.regs ∧ t.cores = s.cores)
    ∧ (s.stopped = false → off.toNat % 8 = 0 → s.devOk b off.toNat 8 = true → write = true → (trc = true ∨ off ≠ 0x038) →
      (∀ c, (s.core c).dbg.itr = none) → exec (.dap write trc off data) s =
        .next (let t := v.busWrite acc b off.toNat 8 data
               { t with jtag := { t.jtag with dapStatus := 0 } }))

/-- R353, R355, R358 to R360: DBG_AUTH is written from M; HALT waits until the core may halt, RESUME and STEP go on from a
halt; matches halt the core; an injected bundle runs on a halted core, which stays halted; T2n+1 of a locked pair acts on
T2n. -/
def Obligations.DebugHalting : Prop :=
  ∀ (s : State) (c : CoreId) (w : RegW) (i : Fin 6) (d a b : BitVec 6), s.regsWf = true → w.high = false →
    let k := s.core c
    let g := k.dbg
    let old := s.fget Blk.DBG Reg.DBG_AUTH_GRANT
    let lock := s.flag Blk.DBG Reg.DBG_AUTH_LOCK
    let may := w.acc.world = .S ∨ s.invasive c = true
    let mark := fun (h : CoreDbg → CoreDbg) => (Host.Outcome.next (s.modCore c (fun k => { k with dbg := h k.dbg })) : Host.Outcome State Fault Refusal)
    let untraced := s.traceOn c = false ∧ (s.trace.get c).live = false
    let between := s.coreRuns c = true ∧ s.invasive c = true ∧ s.ridgeOpen c = false ∧ k.undo = none ∧ k.waiting = none ∧ k.bundle = Bundle.empty
    let split := s.locked (pairOf c) = false
    let hit := fun (i : Fin 6) => i.val < 4 ∧ bits (g.matches_.get i).toNat 63 62 = 1 ∧ bits (g.matches_.get i).toNat 47 2 * 4 = k.arch.pc.toNat % 2 ^ 48
    let halted := fun (t : State) => (t.core c).dbg = { g with halt := false, halted := true, stepping := false, watched := 0 }
      ∧ (t.core c).pend = [] ∧ (t.core c).longs = [] ∧ (t.core c).arch.pc = k.arch.pc ∧ ∀ e, e ≠ c → t.core e = s.core e
    let syl : BitVec 32 := BitVec.ofNat 32 ((g.itr.getD 0).toNat)
    let idle := s.crnState c = 1 ∧ s.pwr c.val = 0 ∧ s.frozen (.core c) = false ∧ s.stopped = false
    (s.Takes w Blk.DBG 0x008 → w.wide = true → (w.acc.mbit = false → exec (.dbgAuthWrite w) s = .next s)
      ∧ (w.acc.mbit = true → ∃ t, exec (.dbgAuthWrite w) s = .next t
        ∧ t.fget Blk.DBG Reg.DBG_AUTH_GRANT = (if lock then old else w.val.toNat % 2 ^ 13)
        ∧ t.flag Blk.DBG Reg.DBG_AUTH_LOCK = (lock || w.val.getLsbD 31)
        ∧ (g.halted = true → t.invasive c = false → (t.core c).dbg.halted = false ∧ (t.core c).dbg.forced = true)
        ∧ (g.halted = true → t.invasive c = true → (t.core c).dbg = g)))
    ∧ (s.Takes w Blk.DBG 0x028 → s.dbgCore w.acc.src = c → let op := w.val.toNat % 4
      (op = 1 → may → g.halted = false → exec (.halt w) s = mark (fun d => { d with halt := true }))
      ∧ (op = 1 → g.halted = true → exec (.halt w) s = .next s)
      ∧ (op ≠ 2 ∨ g.halted = false → exec (.resume w) s = .next s) ∧ (op ≠ 3 ∨ g.halted = false → exec (.debugStep w) s = .next s)
      ∧ (op ≠ 1 → exec (.halt w) s = .next s)
      ∧ (op = 2 → may → g.halted = true → untraced → exec (.resume w) s = mark (fun d => { d with halted := false, itr := none }))
      ∧ (op = 3 → may → g.halted = true → untraced → exec (.debugStep w) s = mark (fun d => { d with halted := false, itr := none, stepping := true }))
      ∧ (¬ may → exec (.halt w) s = .next s ∧ exec (.resume w) s = .next s ∧ exec (.debugStep w) s = .next s))
    ∧ (exec (.haltAccept c) s = exec (.haltAccept (s.leadOf c)) s ∧ exec (.itrInject c none) s = exec (.itrInject (s.leadOf c) none) s
      ∧ exec (.breakpointHit c) s = exec (.breakpointHit (s.leadOf c)) s ∧ exec (.watchpointHit c i) s = exec (.watchpointHit (s.leadOf c) i) s)
    ∧ (split → untraced → between → g.halt = true → ∃ t, exec (.haltAccept c) s = .next t ∧ halted t)
    ∧ (split → ¬ between ∨ g.halt = false → exec (.haltAccept c) s = .next s)
    ∧ (split → untraced → between → g.watched = 0 → g.stepping = false → g.inject = false → hit i →
      ∃ t, exec (.breakpointHit c) s = .next t ∧ halted t)
    ∧ (split → s.issues c = false ∨ s.invasive c = false ∨ (∀ j ∈ List.finRange 6, ¬ hit j) → exec (.breakpointHit c) s = .next s)
    ∧ (split → untraced → between → g.watched.getLsbD i.val = true → ∃ t, exec (.watchpointHit c i) s = .next t ∧ halted t)
    ∧ (split → g.watched.getLsbD i.val = false → exec (.watchpointHit c i) s = .next s)
    ∧ (split → g.halted = false ∨ g.itr = none → exec (.itrInject c none) s = .next s)
    ∧ (split → g.halted = true → s.stopped = false → k.undo = none → g.itr ≠ none → itrRefused (itrWords (g.itr.getD 0)) = true →
      exec (.itrInject c none) s = mark (fun d => { d with itr := none, errcode := 1 }))
    ∧ (split → untraced → idle → g.halted = true → g.itr.isSome = true → sylStop syl = true → decodeSyl ⟨c, true, []⟩ syl = some (.aluRRR ⟨c, true, []⟩ .add d a b) →
      k.bundle = Bundle.empty → k.pend = [] → k.ctl = [] → k.longs = [] → k.undo = none → k.fetched = [] → k.waiting = none → k.txn = none → g.watched = 0 → g.stepping = false →
      s.invasive c = true → g.inject = false → k.arch.lpc = 0 → ∃ t, exec (.itrInject c none) s = .next t
        ∧ t.arch c = (s.arch c).gput d ((s.arch c).gval a + (s.arch c).gval b) ∧ t.mem = s.mem
        ∧ (t.core c).dbg = { g with itr := none, errcode := 0 })
    ∧ (s.Takes w Blk.DBG 0x038 → w.wide = true → s.dbgCore w.acc.src ≠ s.leadOf c → exec (.itrInject c (some w)) s = .next s)
    ∧ (split → s.Takes w Blk.DBG 0x038 → w.wide = true → s.dbgCore w.acc.src = c → may → g.halted = true → k.undo = none →
      itrRefused (itrWords w.val) = true → exec (.itrInject c (some w)) s = mark (fun d => { d with itr := none, errcode := 1 }))

/-- R362, R363, R365 and R366: with 1 KiB free a unit that discards emits OVERFLOW, ALIGN and SYNC and counts it in LOST; the
timer gives ALIGN and SYNC; the trace DMA writes the next 32-byte frame at PTR, which wraps, or stops at the end. -/
def Obligations.TraceCommands : Prop :=
  ∀ (s : State) (c : CoreId), s.regsWf = true → s.stopped = false →
    let u := s.trace.get c
    let r := s.arch c
    let sync : List Byte := List.replicate 7 0 ++ [0x80, 0x40] ++ leBytes 6 r.pc.toNat ++ leBytes 4 r.context.toNat
      ++ leBytes 6 s.sec ++ leBytes 4 s.ns
    let lost := fun (x : State) => x.rget Blk.TRC Ctr.TRC_LOST.off
    let frames := fun (x : State) => x.rget Blk.TRC Ctr.TRC_FRAMES.off
    let n := min 30 u.buf.length
    let frame : List Byte := leBytes 1 c.val ++ leBytes 1 n ++ u.buf.take 30 ++ List.replicate (30 - n) 0
    let v := s.modTrace c (fun u => { u with buf := u.buf.drop 30 })
    let x := v.dmaWrite s.traceAcc s.tracePtr frame
    let y := x.1
    let stop := y.traceBase + y.traceSize
    (u.discarding = true → u.buf.length ≤ 3072 → s.pwr 95 = 0 → ∃ t, exec (.traceOverflow c) s = .next t ∧ lost t = lost s + 1
      ∧ t.flag Blk.TRC Reg.TRC_STATUS_OVERFLOW = true ∧ (t.trace.get c).discarding = false
      ∧ (t.trace.get c).buf = u.buf ++ [0x70] ++ (if s.tracing c then sync else []) ∧ t.cores = s.cores)
    ∧ (u.discarding = false ∨ 3072 < u.buf.length ∨ s.pwr 95 ≠ 0 → exec (.traceOverflow c) s = .next s)
    ∧ (s.tracing c = true → u.atoms = [] → u.discarding = false → u.buf.length + 29 ≤ 4096 → ∃ t, exec (.traceSyncTimer c) s = .next t
      ∧ (t.trace.get c).buf = u.buf ++ sync ∧ (t.trace.get c).bytes = 0 ∧ t.regs = s.regs ∧ t.cores = s.cores)
    ∧ (s.tracing c = false → exec (.traceSyncTimer c) s = .next s)
    ∧ (s.fget Blk.TRC Reg.TRC_CTRL_OUT ≠ 3 ∨ s.pwr 95 ≠ 0 ∨ u.buf = [] → exec (.traceDmaWrite c) s = .next s)
    ∧ (s.fget Blk.TRC Reg.TRC_CTRL_OUT = 3 → s.pwr 95 = 0 → u.buf ≠ [] →
      (s.traceSize = 0 ∨ s.traceBase + s.traceSize ≤ s.tracePtr → exec (.traceDmaWrite c) s = .next v)
      ∧ (s.traceSize ≠ 0 → s.tracePtr < s.traceBase + s.traceSize → s.frozen .trace = false → x.2 = .ok →
        y.regsWf = true → y.traceBase ≤ s.tracePtr → s.tracePtr < 2 ^ 45 → stop < 2 ^ 46 → frame.length = 32
        ∧ ∃ t, exec (.traceDmaWrite c) s = .next t ∧ frames t = frames y + 1 ∧ t.mem = y.mem ∧ t.trace = y.trace
          ∧ t.fget Blk.TRC Reg.TRC_BUF_PTR_PTR = (if s.tracePtr + 32 < stop then s.tracePtr + 32
            else if y.flag Blk.TRC Reg.TRC_BUF_SIZE_MODE then stop else y.traceBase)
          ∧ (s.tracePtr + 32 = stop → t.flag Blk.TRC Reg.TRC_STATUS_HALF = true
            ∧ (y.flag Blk.TRC Reg.TRC_BUF_SIZE_MODE = true → t.flag Blk.TRC Reg.TRC_STATUS_STOPPED = true)
            ∧ (y.flag Blk.TRC Reg.TRC_BUF_SIZE_MODE = false → t.flag Blk.TRC Reg.TRC_BUF_PTR_WRAPPED = true)))
      ∧ (s.traceSize ≠ 0 → s.tracePtr < s.traceBase + s.traceSize → s.frozen .trace = true → ∃ t, exec (.traceDmaWrite c) s = .next t
        ∧ (u.live = true → (t.trace.get c).discarding = true) ∧ t.regs = s.regs ∧ t.mem = s.mem))

/-- R7 to R9, R18 and R295: a write that its master's guard refuses freezes the master; one that no block serves is recorded;
one that arrives changes what the access type of each field lets it, in the bits it covers. -/
def Obligations.RegisterWrites : Prop :=
  ∀ (s : State) (acc : Access) (addr : BitVec 46) (val : Word) (m : MacId) (size : Nat), s.regsWf = true → s.stopped = false →
    let a := addr.toNat
    let mac := Blk.mac m.val
    let spp := Blk.SPP
    let row := fun (n : Nat) => exec (.regWrite acc addr n val) s
    let free := s.frozen acc.src = false
    let granted := fun (n : Nat) => ∃ r w x, s.guard acc a n .write = .ok r w x
    let at_ := fun (b off n : Nat) => a = 0x200000000000 + b * 0x1000 + off ∧ free ∧ granted n ∧ s.devOk b (off % 0x1000) n = true
    let mode := s.rget mac 0x3F8
    (a < 0x200000000000 ∨ 0x200000400000 ≤ a ∨ s.frozen acc.src = true → row size = .next s)
    ∧ (0x200000000000 ≤ a → a < 0x200000400000 → free →
      (∀ e, s.guard acc a size .write = .refuse e → acc.src = .trace → ∃ t, row size = .next t ∧ t.frozen acc.src = true ∧ t.mem = s.mem)
      ∧ (granted size → s.devOk ((a - 0x200000000000) / 0x1000) (a % 0x1000) size = false → acc.src = .trace → s.errs.length < 16 →
        ∃ t, row size = .next t ∧ t.mem = s.mem ∧ ∃ e, t.errs = s.errs ++ [e] ∧ e.cls = 18 ∧ e.basin = acc.basin))
    ∧ (at_ mac 0x018 8 → m.val < 32 → ∃ t, row 8 = .next t ∧ t.rget mac 0x018 = s.rget mac 0x018 &&& ~~~(val &&& 0x3F) ∧ t.macs = s.macs)
    ∧ (at_ mac 0x010 8 → m.val < 32 → ∃ t, row 8 = .next t ∧ t.rget mac 0x010 = s.rget mac 0x010 ∧ t.macs = s.macs)
    ∧ (at_ mac 0x400 8 → m.val < 32 → s.expert mac = true → ∃ t, row 8 = .next t ∧ t.rget mac 0x400 = val &&& 0xFFFFFFFF
      ∧ t.rget mac 0x3F8 = mode)
    ∧ (at_ mac 0x400 8 → m.val < 32 → s.expert mac = false → ∃ t, row 8 = .next t ∧ t.rget mac 0x400 = s.rget mac 0x400
      ∧ t.rget mac 0x3F8 = mode ||| 2)
    ∧ (at_ mac 0x3F8 8 → ∃ t, row 8 = .next t
      ∧ t.rget mac 0x3F8 = (((mode &&& ~~~1) ||| (val &&& 1)) &&& ~~~(val &&& 2)) ||| (val &&& 4) ∧ t.macs = s.macs)
    ∧ (at_ spp 0x020 8 → (s.lockBit spp = true ∨ val.getLsbD 40 = true → ∃ t, row 8 = .next t ∧ t.rget spp 0x020 = s.rget spp 0x020)
      ∧ (s.lockBit spp = false → val.getLsbD 40 = false → ∃ t, row 8 = .next t ∧ t.rget spp 0x020 = val &&& 0xFFFFFFFFFFFF))
    ∧ (at_ spp 0x024 4 → s.lockBit spp = false → val.getLsbD 8 = false → ∃ t, row 4 = .next t
      ∧ t.rget spp 0x020 = ((val &&& 0xFFFF) <<< 32) ||| (s.rget spp 0x020 &&& 0xFFFFFFFF))
    ∧ (∀ off ∈ [0x038, 0x1F8, 0x2A0, 0x7F8], at_ spp off 8 → ∃ t, row 8 = .next t ∧ t.rget spp off = s.rget spp off ∧ t.rget spp 0x3F8 = s.rget spp 0x3F8)

/-- R189, R204 to R207: the word that the tables give a syllable, its stop bit included, reads back as that syllable, for
every operation and every operand that its fields can hold. -/
def Obligations.SyllableWords : Prop :=
  ∀ (i : Instr) (y : Syl), sylOf i = some y → ∃ w, encodeSyl i = some w ∧ decodeSyl y w = some i ∧ sylStop w = y.stop

/-- No command stops the block: whatever the state, each answers a next state (what a condition keeps from acting changes
nothing). -/
def Obligations.NoCommandStops : Prop :=
  ∀ (c : Instr) (s : State), ∃ t, exec c s = .next t

/-- With no command waiting a step is a tick of the DTB master (model's choice, notes/assumptions/1.md): R347 and R348, the
time base advances by 1 ns × (1 + ADJ / 10^12), of which what a unit of 2^-16 ns does not hold is kept. -/
def Obligations.TickOfTime : Prop :=
  ∀ (s : State), s.pending = [] → s.regsWf = true →
    ∃ t, Machine.step s = .next t ∧ t.tb.ticks = s.tb.ticks + 1 ∧ t.pending = [] ∧ t.cores = s.cores
      ∧ (s.tb.adjRem = 0 → s.rget Blk.DTB Reg.DTB_ADJ_ADJ.off = 0 → t.tb.now = s.tb.now + 65536)
      ∧ (0 ≤ s.tb.adjRem → s.tb.adjRem < 1000000000000 → 0 ≤ t.tb.adjRem ∧ t.tb.adjRem < 1000000000000
        ∧ ((t.tb.now : Int) - s.tb.now) * 1000000000000 + t.tb.adjRem = 65536 * (1000000000000 + s.adjNow) + s.tb.adjRem)

/-- R8, R353 and the registers' reset values: the state after reset has an empty queue, its stores in their one form, no
register away from its reset value, no core in service, no debug granted, no link up. -/
def Obligations.ResetState : Prop :=
  State.reset.wf = true ∧ State.reset.pending = [] ∧ State.reset.regs = [] ∧ State.reset.mem = [] ∧ State.reset.frames = []
    ∧ (∀ b off, State.reset.rget b off = regDefault (regKey b off))
    ∧ (∀ c : CoreId, State.reset.crnState c = 0 ∧ State.reset.invasive c = false ∧ State.reset.tracing c = false)
    ∧ (∀ m : MacId, State.reset.macUp m = false) ∧ (∀ l : LinkId, State.reset.rls l = 0)
    ∧ (∀ n ∈ List.range 1024, State.reset.ready n = false)

/-- An invariant that every step keeps: the cistern's bytes, the registers and the sources stay in their one form (rising
keys, nothing listed at the value it has unlisted), whatever command is at the front. R342, R352: no step takes back a
revocation or a DENY bit, or lowers a minimum version. -/
def Obligations.StepKeeps : Prop :=
  (∀ (s t : State), s.wf = true → Machine.step s = .next t → t.wf = true)
  ∧ (∀ (s t : State), Machine.step s = .next t → s.fuses.keeps t.fuses)

/-- R353: a write of DBG_AUTH with M bit 1 sets GRANT to the value it carries while LOCK = 0, and not after; any other write
is ignored; an accepted certificate ORs its grant, whatever LOCK is; a device reset returns GRANT to 0. -/
def Obligations.DebugGrants : Prop :=
  ∀ (s : State) (w : RegW) (cert : List Byte), s.regsWf = true →
    let grant := fun (x : State) => x.fget Blk.DBG Reg.DBG_AUTH_GRANT
    let lock := s.flag Blk.DBG Reg.DBG_AUTH_LOCK
    let u : State := { s with jtag := { s.jtag with ir := 0x22, driven := false, highz := false } }
    (s.Takes w Blk.DBG 0x008 → w.acc.mbit = true → ∃ t, exec (.dbgAuthWrite w) s = .next t
      ∧ (lock = false → w.high = false → grant t = w.val.toNat % 2 ^ 13)
      ∧ (lock = true ∨ w.high = true → grant t = grant s)
      ∧ t.flag Blk.DBG Reg.DBG_AUTH_LOCK = (lock || (!w.high && w.val.getLsbD 31)))
    ∧ (s.Takes w Blk.DBG 0x008 → w.acc.mbit = false → exec (.dbgAuthWrite w) s = .next s)
    ∧ (cert.length = 7488 → s.pwr 95 = 0 → ∃ t, exec (.auth cert) s = .next t ∧ t.flag Blk.DBG Reg.DBG_AUTH_LOCK = lock
      ∧ grant t = (if u.certCheck cert = 0 then grant s ||| leAt cert 12 2 else grant s))
    ∧ (∀ c ∈ [Instr.resetN, .jtagReset, .powerOn, .meshUe, .controlParity, .supply], s.stopped = false ∨ c ≠ .meshUe ∧ c ≠ .controlParity →
      ∃ t, exec c s = .next t ∧ grant t = 0)

/-- R349: a rising edge of PPS_IN puts the time base into DTB_PPS0 and DTB_PPS1 and sets DTB_EVENT.PPS; one within 100 ms of
the edge before it only sets PPS_GLITCH; source 39 is raised while any bit of DTB_EVENT is 1. -/
def Obligations.PpsEdges : Prop :=
  ∀ (s : State), s.regsWf = true →
    let d := Blk.DTB
    let near := ∃ n, s.tb.ppsTick = some n ∧ s.tb.ticks < n + 100000000
    (¬ near → ∃ t, exec .ppsEdge s = .next t ∧ t.fget d Reg.DTB_PPS0_NS = s.tb.now % (10 ^ 9 * 2 ^ 16) / 2 ^ 16
      ∧ t.fget d Reg.DTB_PPS0_FRAC = s.tb.now % 2 ^ 16 ∧ t.fget d Reg.DTB_PPS1_SECONDS = s.tb.now / (10 ^ 9 * 2 ^ 16) % 2 ^ 48
      ∧ t.fget d Reg.DTB_EVENT_PPS = 1 ∧ t.fget d Reg.DTB_EVENT_PPS_GLITCH = s.fget d Reg.DTB_EVENT_PPS_GLITCH
      ∧ t.tb = { s.tb with ppsTick := some s.tb.ticks } ∧ t.srcInput 39 = true)
    ∧ (near → ∃ t, exec .ppsEdge s = .next t ∧ t.fget d Reg.DTB_EVENT_PPS_GLITCH = 1
      ∧ t.fget d Reg.DTB_EVENT_PPS = s.fget d Reg.DTB_EVENT_PPS ∧ t.rget d Reg.DTB_PPS0_NS.off = s.rget d Reg.DTB_PPS0_NS.off
      ∧ t.rget d Reg.DTB_PPS1_SECONDS.off = s.rget d Reg.DTB_PPS1_SECONDS.off ∧ t.srcInput 39 = true)
    ∧ (s.srcInput 39 = true ↔ s.rget d Reg.DTB_EVENT_PPS.off ≠ 0)

/-- R291: an MTCR to VMCTL whose VMID is not in the BASINS mask of the core's pair raises PRIVILEGED with no effect, at every
level; at H and M the exception enters the level's own handler, and VMCTL keeps its value. -/
def Obligations.VmctlBasins : Prop :=
  ∀ (s : State) (y : Syl) (d : BitVec 6), s.Quiet y.core → WholeSyl y s → y.ext = [] →
    let c := y.core
    let r := s.arch c
    (s.pair (pairOf c)).basins.getLsbD ((r.gval d).toNat % 64) = false →
      exec (.mtcr y d 0x137) s = .next (s.raise c (Exc.mk0 .privileged 0 .read) r.pc)
      ∧ ∃ t, exec (.mtcr y d 0x137) s = .next t ∧ (t.arch c).vmctl = r.vmctl ∧ t.mem = s.mem ∧ (t.arch c).g = r.g
        ∧ (r.level = .H → r.world = .N → r.hs.busy = false → (t.arch c).level = .H ∧ (t.arch c).pc = r.hs.evec
          ∧ (t.arch c).hs.ecause.toNat % 2 ^ 8 = 2 ∧ (t.arch c).hs.epc = r.pc &&& 0xFFFFFFFFFFFFFFFC)
        ∧ (r.level = .M → r.world = .S → r.ms.busy = false → (t.arch c).level = .M ∧ (t.arch c).pc = r.ms.evec
          ∧ (t.arch c).ms.ecause.toNat % 2 ^ 8 = 2 ∧ (t.arch c).ms.epc = r.pc &&& 0xFFFFFFFFFFFFFFFC)

/-- R278: after a core reset or a device reset a core is in state M, with translation off in every regime, every BUSY bit 0,
VMCTL.VMID 0 and MCTL.XW_EN 0. -/
def Obligations.CoreResetState : Prop :=
  ∀ (s : State) (c : CoreId) (g : Fin 113) (w : RegW),
    let fresh := fun (a : CoreArch) => a.level = .M ∧ a.world = .S
      ∧ [a.s1tb0N, a.s1tb1N, a.s1tb0S, a.s1tb1S, a.htb, a.mtb, a.s2tb].all (fun v => !(v.getLsbD 0)) = true
      ∧ a.nk.busy = false ∧ a.sk.busy = false ∧ a.hs.busy = false ∧ a.ms.busy = false ∧ a.vmctl.toNat % 64 = 0 ∧ a.mctl.getLsbD 0 = false
    (∀ x ∈ [Instr.resetN, .jtagReset, .powerOn, .meshUe, .controlParity, .supply], s.stopped = false ∨ x ≠ .meshUe ∧ x ≠ .controlParity →
      ∃ t, exec x s = .next t ∧ fresh (t.arch c))
    ∧ fresh ((s.coreReset c).arch c)
    ∧ (s.Takes w (Blk.grd g.val) 0x018 → w.high = false → w.val = 0x32 → w.acc.mbit = true → g.val = c.val →
      s.flag (Blk.grd g.val) Reg.GRD_STATUS_FROZEN = true → s.locked (pairOf c) = false → s.regsWf = true →
      ∃ t, exec (.thawReset g w) s = .next t ∧ fresh (t.arch c))
end

