-- ==== Sys2Proof/Laws/State.lean ====
section
/-! SUPPORT. The small lemmas of the state: reading a unit after writing it, true by unfolding once. -/

namespace Sys2Proof.Machine
set_option Elab.async false

/-- A vector entry read after a write of the same entry. -/
@[simp] theorem vector_get_set_self {α : Type} {n : Nat} (v : Vector α n) (i : Fin n) (x : α) :
    (v.set i.val x i.isLt).get i = x := by
  change (v.set i.val x i.isLt)[i.val] = x
  simp

/-- A vector entry read after a write of another entry. -/
theorem vector_get_set_ne {α : Type} {n : Nat} (v : Vector α n) (i j : Fin n) (x : α) (h : j ≠ i) :
    (v.set i.val x i.isLt).get j = v.get j := by
  change (v.set i.val x i.isLt)[j.val] = v[j.val]
  have : i.val ≠ j.val := fun e => h (Fin.ext e.symm)
  simp [Vector.getElem_set_ne, this]

/-- A vector entry written with what it holds. -/
@[simp] theorem vector_set_get_self {α : Type} {n : Nat} (v : Vector α n) (i : Fin n) :
    v.set i.val (v.get i) i.isLt = v := by
  change v.set i.val v[i.val] i.isLt = v
  simp

@[simp] theorem State.core_setCore (s : State) (c : CoreId) (k : Core) : (s.setCore c k).core c = k := by
  simp [State.core, State.setCore]

theorem State.core_setCore_ne (s : State) (c d : CoreId) (k : Core) (h : d ≠ c) : (s.setCore c k).core d = s.core d := by
  simp [State.core, State.setCore, vector_get_set_ne _ _ _ _ h]

@[simp] theorem State.setCore_setCore (s : State) (c : CoreId) (k l : Core) : (s.setCore c k).setCore c l = s.setCore c l := by
  simp [State.setCore]

@[simp] theorem State.setCore_core (s : State) (c : CoreId) : s.setCore c (s.core c) = s := by
  simp [State.setCore, State.core]

/-! What each update leaves, field by field. -/

/-! `rput` leaves every field but regs. -/

section
variable (s : State) (b o : Nat) (v : Word)

@[simp] theorem State.rput_rdata : (s.rput b o v).rdata = s.rdata := rfl
@[simp] theorem State.rput_mem : (s.rput b o v).mem = s.mem := rfl
@[simp] theorem State.rput_sram : (s.rput b o v).sram = s.sram := rfl
@[simp] theorem State.rput_spill : (s.rput b o v).spill = s.spill := rfl
@[simp] theorem State.rput_spillGen : (s.rput b o v).spillGen = s.spillGen := rfl
@[simp] theorem State.rput_poison : (s.rput b o v).poison = s.poison := rfl
@[simp] theorem State.rput_resvClean : (s.rput b o v).resvClean = s.resvClean := rfl
@[simp] theorem State.rput_cis : (s.rput b o v).cis = s.cis := rfl
@[simp] theorem State.rput_tb : (s.rput b o v).tb = s.tb := rfl
@[simp] theorem State.rput_fuses : (s.rput b o v).fuses = s.fuses := rfl
@[simp] theorem State.rput_pins : (s.rput b o v).pins = s.pins := rfl
@[simp] theorem State.rput_boot : (s.rput b o v).boot = s.boot := rfl
@[simp] theorem State.rput_bankFenced : (s.rput b o v).bankFenced = s.bankFenced := rfl
@[simp] theorem State.rput_avs : (s.rput b o v).avs = s.avs := rfl
@[simp] theorem State.rput_pwrWait : (s.rput b o v).pwrWait = s.pwrWait := rfl
@[simp] theorem State.rput_offPds : (s.rput b o v).offPds = s.offPds := rfl
@[simp] theorem State.rput_cores : (s.rput b o v).cores = s.cores := rfl
@[simp] theorem State.rput_pairs : (s.rput b o v).pairs = s.pairs := rfl
@[simp] theorem State.rput_slices : (s.rput b o v).slices = s.slices := rfl
@[simp] theorem State.rput_srcs : (s.rput b o v).srcs = s.srcs := rfl
@[simp] theorem State.rput_selOther : (s.rput b o v).selOther = s.selOther := rfl
@[simp] theorem State.rput_errs : (s.rput b o v).errs = s.errs := rfl
@[simp] theorem State.rput_errSeq : (s.rput b o v).errSeq = s.errSeq := rfl
@[simp] theorem State.rput_errLost : (s.rput b o v).errLost = s.errLost := rfl
@[simp] theorem State.rput_saEvts : (s.rput b o v).saEvts = s.saEvts := rfl
@[simp] theorem State.rput_dbqs : (s.rput b o v).dbqs = s.dbqs := rfl
@[simp] theorem State.rput_plat : (s.rput b o v).plat = s.plat := rfl
@[simp] theorem State.rput_cfgNow : (s.rput b o v).cfgNow = s.cfgNow := rfl
@[simp] theorem State.rput_cfgOld : (s.rput b o v).cfgOld = s.cfgOld := rfl
@[simp] theorem State.rput_epoch : (s.rput b o v).epoch = s.epoch := rfl
@[simp] theorem State.rput_stages : (s.rput b o v).stages = s.stages := rfl
@[simp] theorem State.rput_txns : (s.rput b o v).txns = s.txns := rfl
@[simp] theorem State.rput_sluQ : (s.rput b o v).sluQ = s.sluQ := rfl
@[simp] theorem State.rput_saQ : (s.rput b o v).saQ = s.saQ := rfl
@[simp] theorem State.rput_bitLoad : (s.rput b o v).bitLoad = s.bitLoad := rfl
@[simp] theorem State.rput_macs : (s.rput b o v).macs = s.macs := rfl
@[simp] theorem State.rput_chans : (s.rput b o v).chans = s.chans := rfl
@[simp] theorem State.rput_frames : (s.rput b o v).frames = s.frames := rfl
@[simp] theorem State.rput_frameSeq : (s.rput b o v).frameSeq = s.frameSeq := rfl
@[simp] theorem State.rput_cells : (s.rput b o v).cells = s.cells := rfl
@[simp] theorem State.rput_cellTrig : (s.rput b o v).cellTrig = s.cellTrig := rfl
@[simp] theorem State.rput_scNow : (s.rput b o v).scNow = s.scNow := rfl
@[simp] theorem State.rput_scOld : (s.rput b o v).scOld = s.scOld := rfl
@[simp] theorem State.rput_runs : (s.rput b o v).runs = s.runs := rfl
@[simp] theorem State.rput_saUid : (s.rput b o v).saUid = s.saUid := rfl
@[simp] theorem State.rput_leases : (s.rput b o v).leases = s.leases := rfl
@[simp] theorem State.rput_saCache : (s.rput b o v).saCache = s.saCache := rfl
@[simp] theorem State.rput_meters : (s.rput b o v).meters = s.meters := rfl
@[simp] theorem State.rput_switched : (s.rput b o v).switched = s.switched := rfl
@[simp] theorem State.rput_mover : (s.rput b o v).mover = s.mover := rfl
@[simp] theorem State.rput_rotated : (s.rput b o v).rotated = s.rotated := rfl
@[simp] theorem State.rput_jetTest : (s.rput b o v).jetTest = s.jetTest := rfl
@[simp] theorem State.rput_jetFence : (s.rput b o v).jetFence = s.jetFence := rfl
@[simp] theorem State.rput_sluIn : (s.rput b o v).sluIn = s.sluIn := rfl
@[simp] theorem State.rput_trace : (s.rput b o v).trace = s.trace := rfl
@[simp] theorem State.rput_jtag : (s.rput b o v).jtag = s.jtag := rfl
@[simp] theorem State.rput_links : (s.rput b o v).links = s.links := rfl
@[simp] theorem State.rput_streams : (s.rput b o v).streams = s.streams := rfl
@[simp] theorem State.rput_ropen : (s.rput b o v).ropen = s.ropen := rfl
@[simp] theorem State.rput_rreqs : (s.rput b o v).rreqs = s.rreqs := rfl
@[simp] theorem State.rput_ridgeReq : (s.rput b o v).ridgeReq = s.ridgeReq := rfl
@[simp] theorem State.rput_out : (s.rput b o v).out = s.out := rfl
@[simp] theorem State.rput_free : (s.rput b o v).free = s.free := rfl
@[simp] theorem State.rput_stopped : (s.rput b o v).stopped = s.stopped := rfl
@[simp] theorem State.rput_pending : (s.rput b o v).pending = s.pending := rfl

end

/-! `fset` leaves every field but regs. -/

section
variable (s : State) (b : Nat) (f : Fld) (v : Nat)

@[simp] theorem State.fset_rdata : (s.fset b f v).rdata = s.rdata := rfl
@[simp] theorem State.fset_mem : (s.fset b f v).mem = s.mem := rfl
@[simp] theorem State.fset_sram : (s.fset b f v).sram = s.sram := rfl
@[simp] theorem State.fset_spill : (s.fset b f v).spill = s.spill := rfl
@[simp] theorem State.fset_spillGen : (s.fset b f v).spillGen = s.spillGen := rfl
@[simp] theorem State.fset_poison : (s.fset b f v).poison = s.poison := rfl
@[simp] theorem State.fset_resvClean : (s.fset b f v).resvClean = s.resvClean := rfl
@[simp] theorem State.fset_cis : (s.fset b f v).cis = s.cis := rfl
@[simp] theorem State.fset_tb : (s.fset b f v).tb = s.tb := rfl
@[simp] theorem State.fset_fuses : (s.fset b f v).fuses = s.fuses := rfl
@[simp] theorem State.fset_pins : (s.fset b f v).pins = s.pins := rfl
@[simp] theorem State.fset_boot : (s.fset b f v).boot = s.boot := rfl
@[simp] theorem State.fset_bankFenced : (s.fset b f v).bankFenced = s.bankFenced := rfl
@[simp] theorem State.fset_avs : (s.fset b f v).avs = s.avs := rfl
@[simp] theorem State.fset_pwrWait : (s.fset b f v).pwrWait = s.pwrWait := rfl
@[simp] theorem State.fset_offPds : (s.fset b f v).offPds = s.offPds := rfl
@[simp] theorem State.fset_cores : (s.fset b f v).cores = s.cores := rfl
@[simp] theorem State.fset_pairs : (s.fset b f v).pairs = s.pairs := rfl
@[simp] theorem State.fset_slices : (s.fset b f v).slices = s.slices := rfl
@[simp] theorem State.fset_srcs : (s.fset b f v).srcs = s.srcs := rfl
@[simp] theorem State.fset_selOther : (s.fset b f v).selOther = s.selOther := rfl
@[simp] theorem State.fset_errs : (s.fset b f v).errs = s.errs := rfl
@[simp] theorem State.fset_errSeq : (s.fset b f v).errSeq = s.errSeq := rfl
@[simp] theorem State.fset_errLost : (s.fset b f v).errLost = s.errLost := rfl
@[simp] theorem State.fset_saEvts : (s.fset b f v).saEvts = s.saEvts := rfl
@[simp] theorem State.fset_dbqs : (s.fset b f v).dbqs = s.dbqs := rfl
@[simp] theorem State.fset_plat : (s.fset b f v).plat = s.plat := rfl
@[simp] theorem State.fset_cfgNow : (s.fset b f v).cfgNow = s.cfgNow := rfl
@[simp] theorem State.fset_cfgOld : (s.fset b f v).cfgOld = s.cfgOld := rfl
@[simp] theorem State.fset_epoch : (s.fset b f v).epoch = s.epoch := rfl
@[simp] theorem State.fset_stages : (s.fset b f v).stages = s.stages := rfl
@[simp] theorem State.fset_txns : (s.fset b f v).txns = s.txns := rfl
@[simp] theorem State.fset_sluQ : (s.fset b f v).sluQ = s.sluQ := rfl
@[simp] theorem State.fset_saQ : (s.fset b f v).saQ = s.saQ := rfl
@[simp] theorem State.fset_bitLoad : (s.fset b f v).bitLoad = s.bitLoad := rfl
@[simp] theorem State.fset_macs : (s.fset b f v).macs = s.macs := rfl
@[simp] theorem State.fset_chans : (s.fset b f v).chans = s.chans := rfl
@[simp] theorem State.fset_frames : (s.fset b f v).frames = s.frames := rfl
@[simp] theorem State.fset_frameSeq : (s.fset b f v).frameSeq = s.frameSeq := rfl
@[simp] theorem State.fset_cells : (s.fset b f v).cells = s.cells := rfl
@[simp] theorem State.fset_cellTrig : (s.fset b f v).cellTrig = s.cellTrig := rfl
@[simp] theorem State.fset_scNow : (s.fset b f v).scNow = s.scNow := rfl
@[simp] theorem State.fset_scOld : (s.fset b f v).scOld = s.scOld := rfl
@[simp] theorem State.fset_runs : (s.fset b f v).runs = s.runs := rfl
@[simp] theorem State.fset_saUid : (s.fset b f v).saUid = s.saUid := rfl
@[simp] theorem State.fset_leases : (s.fset b f v).leases = s.leases := rfl
@[simp] theorem State.fset_saCache : (s.fset b f v).saCache = s.saCache := rfl
@[simp] theorem State.fset_meters : (s.fset b f v).meters = s.meters := rfl
@[simp] theorem State.fset_switched : (s.fset b f v).switched = s.switched := rfl
@[simp] theorem State.fset_mover : (s.fset b f v).mover = s.mover := rfl
@[simp] theorem State.fset_rotated : (s.fset b f v).rotated = s.rotated := rfl
@[simp] theorem State.fset_jetTest : (s.fset b f v).jetTest = s.jetTest := rfl
@[simp] theorem State.fset_jetFence : (s.fset b f v).jetFence = s.jetFence := rfl
@[simp] theorem State.fset_sluIn : (s.fset b f v).sluIn = s.sluIn := rfl
@[simp] theorem State.fset_trace : (s.fset b f v).trace = s.trace := rfl
@[simp] theorem State.fset_jtag : (s.fset b f v).jtag = s.jtag := rfl
@[simp] theorem State.fset_links : (s.fset b f v).links = s.links := rfl
@[simp] theorem State.fset_streams : (s.fset b f v).streams = s.streams := rfl
@[simp] theorem State.fset_ropen : (s.fset b f v).ropen = s.ropen := rfl
@[simp] theorem State.fset_rreqs : (s.fset b f v).rreqs = s.rreqs := rfl
@[simp] theorem State.fset_ridgeReq : (s.fset b f v).ridgeReq = s.ridgeReq := rfl
@[simp] theorem State.fset_out : (s.fset b f v).out = s.out := rfl
@[simp] theorem State.fset_free : (s.fset b f v).free = s.free := rfl
@[simp] theorem State.fset_stopped : (s.fset b f v).stopped = s.stopped := rfl
@[simp] theorem State.fset_pending : (s.fset b f v).pending = s.pending := rfl

end

/-! `setLocByte` leaves every field but mem. -/

section
variable (s : State) (l : Nat) (v : Byte)

@[simp] theorem State.setLocByte_regs : (s.setLocByte l v).regs = s.regs := rfl
@[simp] theorem State.setLocByte_rdata : (s.setLocByte l v).rdata = s.rdata := rfl
@[simp] theorem State.setLocByte_sram : (s.setLocByte l v).sram = s.sram := rfl
@[simp] theorem State.setLocByte_spill : (s.setLocByte l v).spill = s.spill := rfl
@[simp] theorem State.setLocByte_spillGen : (s.setLocByte l v).spillGen = s.spillGen := rfl
@[simp] theorem State.setLocByte_poison : (s.setLocByte l v).poison = s.poison := rfl
@[simp] theorem State.setLocByte_resvClean : (s.setLocByte l v).resvClean = s.resvClean := rfl
@[simp] theorem State.setLocByte_cis : (s.setLocByte l v).cis = s.cis := rfl
@[simp] theorem State.setLocByte_tb : (s.setLocByte l v).tb = s.tb := rfl
@[simp] theorem State.setLocByte_fuses : (s.setLocByte l v).fuses = s.fuses := rfl
@[simp] theorem State.setLocByte_pins : (s.setLocByte l v).pins = s.pins := rfl
@[simp] theorem State.setLocByte_boot : (s.setLocByte l v).boot = s.boot := rfl
@[simp] theorem State.setLocByte_bankFenced : (s.setLocByte l v).bankFenced = s.bankFenced := rfl
@[simp] theorem State.setLocByte_avs : (s.setLocByte l v).avs = s.avs := rfl
@[simp] theorem State.setLocByte_pwrWait : (s.setLocByte l v).pwrWait = s.pwrWait := rfl
@[simp] theorem State.setLocByte_offPds : (s.setLocByte l v).offPds = s.offPds := rfl
@[simp] theorem State.setLocByte_cores : (s.setLocByte l v).cores = s.cores := rfl
@[simp] theorem State.setLocByte_pairs : (s.setLocByte l v).pairs = s.pairs := rfl
@[simp] theorem State.setLocByte_slices : (s.setLocByte l v).slices = s.slices := rfl
@[simp] theorem State.setLocByte_srcs : (s.setLocByte l v).srcs = s.srcs := rfl
@[simp] theorem State.setLocByte_selOther : (s.setLocByte l v).selOther = s.selOther := rfl
@[simp] theorem State.setLocByte_errs : (s.setLocByte l v).errs = s.errs := rfl
@[simp] theorem State.setLocByte_errSeq : (s.setLocByte l v).errSeq = s.errSeq := rfl
@[simp] theorem State.setLocByte_errLost : (s.setLocByte l v).errLost = s.errLost := rfl
@[simp] theorem State.setLocByte_saEvts : (s.setLocByte l v).saEvts = s.saEvts := rfl
@[simp] theorem State.setLocByte_dbqs : (s.setLocByte l v).dbqs = s.dbqs := rfl
@[simp] theorem State.setLocByte_plat : (s.setLocByte l v).plat = s.plat := rfl
@[simp] theorem State.setLocByte_cfgNow : (s.setLocByte l v).cfgNow = s.cfgNow := rfl
@[simp] theorem State.setLocByte_cfgOld : (s.setLocByte l v).cfgOld = s.cfgOld := rfl
@[simp] theorem State.setLocByte_epoch : (s.setLocByte l v).epoch = s.epoch := rfl
@[simp] theorem State.setLocByte_stages : (s.setLocByte l v).stages = s.stages := rfl
@[simp] theorem State.setLocByte_txns : (s.setLocByte l v).txns = s.txns := rfl
@[simp] theorem State.setLocByte_sluQ : (s.setLocByte l v).sluQ = s.sluQ := rfl
@[simp] theorem State.setLocByte_saQ : (s.setLocByte l v).saQ = s.saQ := rfl
@[simp] theorem State.setLocByte_bitLoad : (s.setLocByte l v).bitLoad = s.bitLoad := rfl
@[simp] theorem State.setLocByte_macs : (s.setLocByte l v).macs = s.macs := rfl
@[simp] theorem State.setLocByte_chans : (s.setLocByte l v).chans = s.chans := rfl
@[simp] theorem State.setLocByte_frames : (s.setLocByte l v).frames = s.frames := rfl
@[simp] theorem State.setLocByte_frameSeq : (s.setLocByte l v).frameSeq = s.frameSeq := rfl
@[simp] theorem State.setLocByte_cells : (s.setLocByte l v).cells = s.cells := rfl
@[simp] theorem State.setLocByte_cellTrig : (s.setLocByte l v).cellTrig = s.cellTrig := rfl
@[simp] theorem State.setLocByte_scNow : (s.setLocByte l v).scNow = s.scNow := rfl
@[simp] theorem State.setLocByte_scOld : (s.setLocByte l v).scOld = s.scOld := rfl
@[simp] theorem State.setLocByte_runs : (s.setLocByte l v).runs = s.runs := rfl
@[simp] theorem State.setLocByte_saUid : (s.setLocByte l v).saUid = s.saUid := rfl
@[simp] theorem State.setLocByte_leases : (s.setLocByte l v).leases = s.leases := rfl
@[simp] theorem State.setLocByte_saCache : (s.setLocByte l v).saCache = s.saCache := rfl
@[simp] theorem State.setLocByte_meters : (s.setLocByte l v).meters = s.meters := rfl
@[simp] theorem State.setLocByte_switched : (s.setLocByte l v).switched = s.switched := rfl
@[simp] theorem State.setLocByte_mover : (s.setLocByte l v).mover = s.mover := rfl
@[simp] theorem State.setLocByte_rotated : (s.setLocByte l v).rotated = s.rotated := rfl
@[simp] theorem State.setLocByte_jetTest : (s.setLocByte l v).jetTest = s.jetTest := rfl
@[simp] theorem State.setLocByte_jetFence : (s.setLocByte l v).jetFence = s.jetFence := rfl
@[simp] theorem State.setLocByte_sluIn : (s.setLocByte l v).sluIn = s.sluIn := rfl
@[simp] theorem State.setLocByte_trace : (s.setLocByte l v).trace = s.trace := rfl
@[simp] theorem State.setLocByte_jtag : (s.setLocByte l v).jtag = s.jtag := rfl
@[simp] theorem State.setLocByte_links : (s.setLocByte l v).links = s.links := rfl
@[simp] theorem State.setLocByte_streams : (s.setLocByte l v).streams = s.streams := rfl
@[simp] theorem State.setLocByte_ropen : (s.setLocByte l v).ropen = s.ropen := rfl
@[simp] theorem State.setLocByte_rreqs : (s.setLocByte l v).rreqs = s.rreqs := rfl
@[simp] theorem State.setLocByte_ridgeReq : (s.setLocByte l v).ridgeReq = s.ridgeReq := rfl
@[simp] theorem State.setLocByte_out : (s.setLocByte l v).out = s.out := rfl
@[simp] theorem State.setLocByte_free : (s.setLocByte l v).free = s.free := rfl
@[simp] theorem State.setLocByte_stopped : (s.setLocByte l v).stopped = s.stopped := rfl
@[simp] theorem State.setLocByte_pending : (s.setLocByte l v).pending = s.pending := rfl

end

/-! `setCore` leaves every field but cores. -/

section
variable (s : State) (c : CoreId) (k : Core)

@[simp] theorem State.setCore_regs : (s.setCore c k).regs = s.regs := rfl
@[simp] theorem State.setCore_rdata : (s.setCore c k).rdata = s.rdata := rfl
@[simp] theorem State.setCore_mem : (s.setCore c k).mem = s.mem := rfl
@[simp] theorem State.setCore_sram : (s.setCore c k).sram = s.sram := rfl
@[simp] theorem State.setCore_spill : (s.setCore c k).spill = s.spill := rfl
@[simp] theorem State.setCore_spillGen : (s.setCore c k).spillGen = s.spillGen := rfl
@[simp] theorem State.setCore_poison : (s.setCore c k).poison = s.poison := rfl
@[simp] theorem State.setCore_resvClean : (s.setCore c k).resvClean = s.resvClean := rfl
@[simp] theorem State.setCore_cis : (s.setCore c k).cis = s.cis := rfl
@[simp] theorem State.setCore_tb : (s.setCore c k).tb = s.tb := rfl
@[simp] theorem State.setCore_fuses : (s.setCore c k).fuses = s.fuses := rfl
@[simp] theorem State.setCore_pins : (s.setCore c k).pins = s.pins := rfl
@[simp] theorem State.setCore_boot : (s.setCore c k).boot = s.boot := rfl
@[simp] theorem State.setCore_bankFenced : (s.setCore c k).bankFenced = s.bankFenced := rfl
@[simp] theorem State.setCore_avs : (s.setCore c k).avs = s.avs := rfl
@[simp] theorem State.setCore_pwrWait : (s.setCore c k).pwrWait = s.pwrWait := rfl
@[simp] theorem State.setCore_offPds : (s.setCore c k).offPds = s.offPds := rfl
@[simp] theorem State.setCore_pairs : (s.setCore c k).pairs = s.pairs := rfl
@[simp] theorem State.setCore_slices : (s.setCore c k).slices = s.slices := rfl
@[simp] theorem State.setCore_srcs : (s.setCore c k).srcs = s.srcs := rfl
@[simp] theorem State.setCore_selOther : (s.setCore c k).selOther = s.selOther := rfl
@[simp] theorem State.setCore_errs : (s.setCore c k).errs = s.errs := rfl
@[simp] theorem State.setCore_errSeq : (s.setCore c k).errSeq = s.errSeq := rfl
@[simp] theorem State.setCore_errLost : (s.setCore c k).errLost = s.errLost := rfl
@[simp] theorem State.setCore_saEvts : (s.setCore c k).saEvts = s.saEvts := rfl
@[simp] theorem State.setCore_dbqs : (s.setCore c k).dbqs = s.dbqs := rfl
@[simp] theorem State.setCore_plat : (s.setCore c k).plat = s.plat := rfl
@[simp] theorem State.setCore_cfgNow : (s.setCore c k).cfgNow = s.cfgNow := rfl
@[simp] theorem State.setCore_cfgOld : (s.setCore c k).cfgOld = s.cfgOld := rfl
@[simp] theorem State.setCore_epoch : (s.setCore c k).epoch = s.epoch := rfl
@[simp] theorem State.setCore_stages : (s.setCore c k).stages = s.stages := rfl
@[simp] theorem State.setCore_txns : (s.setCore c k).txns = s.txns := rfl
@[simp] theorem State.setCore_sluQ : (s.setCore c k).sluQ = s.sluQ := rfl
@[simp] theorem State.setCore_saQ : (s.setCore c k).saQ = s.saQ := rfl
@[simp] theorem State.setCore_bitLoad : (s.setCore c k).bitLoad = s.bitLoad := rfl
@[simp] theorem State.setCore_macs : (s.setCore c k).macs = s.macs := rfl
@[simp] theorem State.setCore_chans : (s.setCore c k).chans = s.chans := rfl
@[simp] theorem State.setCore_frames : (s.setCore c k).frames = s.frames := rfl
@[simp] theorem State.setCore_frameSeq : (s.setCore c k).frameSeq = s.frameSeq := rfl
@[simp] theorem State.setCore_cells : (s.setCore c k).cells = s.cells := rfl
@[simp] theorem State.setCore_cellTrig : (s.setCore c k).cellTrig = s.cellTrig := rfl
@[simp] theorem State.setCore_scNow : (s.setCore c k).scNow = s.scNow := rfl
@[simp] theorem State.setCore_scOld : (s.setCore c k).scOld = s.scOld := rfl
@[simp] theorem State.setCore_runs : (s.setCore c k).runs = s.runs := rfl
@[simp] theorem State.setCore_saUid : (s.setCore c k).saUid = s.saUid := rfl
@[simp] theorem State.setCore_leases : (s.setCore c k).leases = s.leases := rfl
@[simp] theorem State.setCore_saCache : (s.setCore c k).saCache = s.saCache := rfl
@[simp] theorem State.setCore_meters : (s.setCore c k).meters = s.meters := rfl
@[simp] theorem State.setCore_switched : (s.setCore c k).switched = s.switched := rfl
@[simp] theorem State.setCore_mover : (s.setCore c k).mover = s.mover := rfl
@[simp] theorem State.setCore_rotated : (s.setCore c k).rotated = s.rotated := rfl
@[simp] theorem State.setCore_jetTest : (s.setCore c k).jetTest = s.jetTest := rfl
@[simp] theorem State.setCore_jetFence : (s.setCore c k).jetFence = s.jetFence := rfl
@[simp] theorem State.setCore_sluIn : (s.setCore c k).sluIn = s.sluIn := rfl
@[simp] theorem State.setCore_trace : (s.setCore c k).trace = s.trace := rfl
@[simp] theorem State.setCore_jtag : (s.setCore c k).jtag = s.jtag := rfl
@[simp] theorem State.setCore_links : (s.setCore c k).links = s.links := rfl
@[simp] theorem State.setCore_streams : (s.setCore c k).streams = s.streams := rfl
@[simp] theorem State.setCore_ropen : (s.setCore c k).ropen = s.ropen := rfl
@[simp] theorem State.setCore_rreqs : (s.setCore c k).rreqs = s.rreqs := rfl
@[simp] theorem State.setCore_ridgeReq : (s.setCore c k).ridgeReq = s.ridgeReq := rfl
@[simp] theorem State.setCore_out : (s.setCore c k).out = s.out := rfl
@[simp] theorem State.setCore_free : (s.setCore c k).free = s.free := rfl
@[simp] theorem State.setCore_stopped : (s.setCore c k).stopped = s.stopped := rfl
@[simp] theorem State.setCore_pending : (s.setCore c k).pending = s.pending := rfl

end

/-! `modCore` leaves every field but cores. -/

section
variable (s : State) (c : CoreId) (f : Core → Core)

@[simp] theorem State.modCore_regs : (s.modCore c f).regs = s.regs := rfl
@[simp] theorem State.modCore_rdata : (s.modCore c f).rdata = s.rdata := rfl
@[simp] theorem State.modCore_mem : (s.modCore c f).mem = s.mem := rfl
@[simp] theorem State.modCore_sram : (s.modCore c f).sram = s.sram := rfl
@[simp] theorem State.modCore_spill : (s.modCore c f).spill = s.spill := rfl
@[simp] theorem State.modCore_spillGen : (s.modCore c f).spillGen = s.spillGen := rfl
@[simp] theorem State.modCore_poison : (s.modCore c f).poison = s.poison := rfl
@[simp] theorem State.modCore_resvClean : (s.modCore c f).resvClean = s.resvClean := rfl
@[simp] theorem State.modCore_cis : (s.modCore c f).cis = s.cis := rfl
@[simp] theorem State.modCore_tb : (s.modCore c f).tb = s.tb := rfl
@[simp] theorem State.modCore_fuses : (s.modCore c f).fuses = s.fuses := rfl
@[simp] theorem State.modCore_pins : (s.modCore c f).pins = s.pins := rfl
@[simp] theorem State.modCore_boot : (s.modCore c f).boot = s.boot := rfl
@[simp] theorem State.modCore_bankFenced : (s.modCore c f).bankFenced = s.bankFenced := rfl
@[simp] theorem State.modCore_avs : (s.modCore c f).avs = s.avs := rfl
@[simp] theorem State.modCore_pwrWait : (s.modCore c f).pwrWait = s.pwrWait := rfl
@[simp] theorem State.modCore_offPds : (s.modCore c f).offPds = s.offPds := rfl
@[simp] theorem State.modCore_pairs : (s.modCore c f).pairs = s.pairs := rfl
@[simp] theorem State.modCore_slices : (s.modCore c f).slices = s.slices := rfl
@[simp] theorem State.modCore_srcs : (s.modCore c f).srcs = s.srcs := rfl
@[simp] theorem State.modCore_selOther : (s.modCore c f).selOther = s.selOther := rfl
@[simp] theorem State.modCore_errs : (s.modCore c f).errs = s.errs := rfl
@[simp] theorem State.modCore_errSeq : (s.modCore c f).errSeq = s.errSeq := rfl
@[simp] theorem State.modCore_errLost : (s.modCore c f).errLost = s.errLost := rfl
@[simp] theorem State.modCore_saEvts : (s.modCore c f).saEvts = s.saEvts := rfl
@[simp] theorem State.modCore_dbqs : (s.modCore c f).dbqs = s.dbqs := rfl
@[simp] theorem State.modCore_plat : (s.modCore c f).plat = s.plat := rfl
@[simp] theorem State.modCore_cfgNow : (s.modCore c f).cfgNow = s.cfgNow := rfl
@[simp] theorem State.modCore_cfgOld : (s.modCore c f).cfgOld = s.cfgOld := rfl
@[simp] theorem State.modCore_epoch : (s.modCore c f).epoch = s.epoch := rfl
@[simp] theorem State.modCore_stages : (s.modCore c f).stages = s.stages := rfl
@[simp] theorem State.modCore_txns : (s.modCore c f).txns = s.txns := rfl
@[simp] theorem State.modCore_sluQ : (s.modCore c f).sluQ = s.sluQ := rfl
@[simp] theorem State.modCore_saQ : (s.modCore c f).saQ = s.saQ := rfl
@[simp] theorem State.modCore_bitLoad : (s.modCore c f).bitLoad = s.bitLoad := rfl
@[simp] theorem State.modCore_macs : (s.modCore c f).macs = s.macs := rfl
@[simp] theorem State.modCore_chans : (s.modCore c f).chans = s.chans := rfl
@[simp] theorem State.modCore_frames : (s.modCore c f).frames = s.frames := rfl
@[simp] theorem State.modCore_frameSeq : (s.modCore c f).frameSeq = s.frameSeq := rfl
@[simp] theorem State.modCore_cells : (s.modCore c f).cells = s.cells := rfl
@[simp] theorem State.modCore_cellTrig : (s.modCore c f).cellTrig = s.cellTrig := rfl
@[simp] theorem State.modCore_scNow : (s.modCore c f).scNow = s.scNow := rfl
@[simp] theorem State.modCore_scOld : (s.modCore c f).scOld = s.scOld := rfl
@[simp] theorem State.modCore_runs : (s.modCore c f).runs = s.runs := rfl
@[simp] theorem State.modCore_saUid : (s.modCore c f).saUid = s.saUid := rfl
@[simp] theorem State.modCore_leases : (s.modCore c f).leases = s.leases := rfl
@[simp] theorem State.modCore_saCache : (s.modCore c f).saCache = s.saCache := rfl
@[simp] theorem State.modCore_meters : (s.modCore c f).meters = s.meters := rfl
@[simp] theorem State.modCore_switched : (s.modCore c f).switched = s.switched := rfl
@[simp] theorem State.modCore_mover : (s.modCore c f).mover = s.mover := rfl
@[simp] theorem State.modCore_rotated : (s.modCore c f).rotated = s.rotated := rfl
@[simp] theorem State.modCore_jetTest : (s.modCore c f).jetTest = s.jetTest := rfl
@[simp] theorem State.modCore_jetFence : (s.modCore c f).jetFence = s.jetFence := rfl
@[simp] theorem State.modCore_sluIn : (s.modCore c f).sluIn = s.sluIn := rfl
@[simp] theorem State.modCore_trace : (s.modCore c f).trace = s.trace := rfl
@[simp] theorem State.modCore_jtag : (s.modCore c f).jtag = s.jtag := rfl
@[simp] theorem State.modCore_links : (s.modCore c f).links = s.links := rfl
@[simp] theorem State.modCore_streams : (s.modCore c f).streams = s.streams := rfl
@[simp] theorem State.modCore_ropen : (s.modCore c f).ropen = s.ropen := rfl
@[simp] theorem State.modCore_rreqs : (s.modCore c f).rreqs = s.rreqs := rfl
@[simp] theorem State.modCore_ridgeReq : (s.modCore c f).ridgeReq = s.ridgeReq := rfl
@[simp] theorem State.modCore_out : (s.modCore c f).out = s.out := rfl
@[simp] theorem State.modCore_free : (s.modCore c f).free = s.free := rfl
@[simp] theorem State.modCore_stopped : (s.modCore c f).stopped = s.stopped := rfl
@[simp] theorem State.modCore_pending : (s.modCore c f).pending = s.pending := rfl

end

/-! `modPair` leaves every field but pairs. -/

section
variable (s : State) (p : Fin 16) (f : Pair → Pair)

@[simp] theorem State.modPair_regs : (s.modPair p f).regs = s.regs := rfl
@[simp] theorem State.modPair_rdata : (s.modPair p f).rdata = s.rdata := rfl
@[simp] theorem State.modPair_mem : (s.modPair p f).mem = s.mem := rfl
@[simp] theorem State.modPair_sram : (s.modPair p f).sram = s.sram := rfl
@[simp] theorem State.modPair_spill : (s.modPair p f).spill = s.spill := rfl
@[simp] theorem State.modPair_spillGen : (s.modPair p f).spillGen = s.spillGen := rfl
@[simp] theorem State.modPair_poison : (s.modPair p f).poison = s.poison := rfl
@[simp] theorem State.modPair_resvClean : (s.modPair p f).resvClean = s.resvClean := rfl
@[simp] theorem State.modPair_cis : (s.modPair p f).cis = s.cis := rfl
@[simp] theorem State.modPair_tb : (s.modPair p f).tb = s.tb := rfl
@[simp] theorem State.modPair_fuses : (s.modPair p f).fuses = s.fuses := rfl
@[simp] theorem State.modPair_pins : (s.modPair p f).pins = s.pins := rfl
@[simp] theorem State.modPair_boot : (s.modPair p f).boot = s.boot := rfl
@[simp] theorem State.modPair_bankFenced : (s.modPair p f).bankFenced = s.bankFenced := rfl
@[simp] theorem State.modPair_avs : (s.modPair p f).avs = s.avs := rfl
@[simp] theorem State.modPair_pwrWait : (s.modPair p f).pwrWait = s.pwrWait := rfl
@[simp] theorem State.modPair_offPds : (s.modPair p f).offPds = s.offPds := rfl
@[simp] theorem State.modPair_cores : (s.modPair p f).cores = s.cores := rfl
@[simp] theorem State.modPair_slices : (s.modPair p f).slices = s.slices := rfl
@[simp] theorem State.modPair_srcs : (s.modPair p f).srcs = s.srcs := rfl
@[simp] theorem State.modPair_selOther : (s.modPair p f).selOther = s.selOther := rfl
@[simp] theorem State.modPair_errs : (s.modPair p f).errs = s.errs := rfl
@[simp] theorem State.modPair_errSeq : (s.modPair p f).errSeq = s.errSeq := rfl
@[simp] theorem State.modPair_errLost : (s.modPair p f).errLost = s.errLost := rfl
@[simp] theorem State.modPair_saEvts : (s.modPair p f).saEvts = s.saEvts := rfl
@[simp] theorem State.modPair_dbqs : (s.modPair p f).dbqs = s.dbqs := rfl
@[simp] theorem State.modPair_plat : (s.modPair p f).plat = s.plat := rfl
@[simp] theorem State.modPair_cfgNow : (s.modPair p f).cfgNow = s.cfgNow := rfl
@[simp] theorem State.modPair_cfgOld : (s.modPair p f).cfgOld = s.cfgOld := rfl
@[simp] theorem State.modPair_epoch : (s.modPair p f).epoch = s.epoch := rfl
@[simp] theorem State.modPair_stages : (s.modPair p f).stages = s.stages := rfl
@[simp] theorem State.modPair_txns : (s.modPair p f).txns = s.txns := rfl
@[simp] theorem State.modPair_sluQ : (s.modPair p f).sluQ = s.sluQ := rfl
@[simp] theorem State.modPair_saQ : (s.modPair p f).saQ = s.saQ := rfl
@[simp] theorem State.modPair_bitLoad : (s.modPair p f).bitLoad = s.bitLoad := rfl
@[simp] theorem State.modPair_macs : (s.modPair p f).macs = s.macs := rfl
@[simp] theorem State.modPair_chans : (s.modPair p f).chans = s.chans := rfl
@[simp] theorem State.modPair_frames : (s.modPair p f).frames = s.frames := rfl
@[simp] theorem State.modPair_frameSeq : (s.modPair p f).frameSeq = s.frameSeq := rfl
@[simp] theorem State.modPair_cells : (s.modPair p f).cells = s.cells := rfl
@[simp] theorem State.modPair_cellTrig : (s.modPair p f).cellTrig = s.cellTrig := rfl
@[simp] theorem State.modPair_scNow : (s.modPair p f).scNow = s.scNow := rfl
@[simp] theorem State.modPair_scOld : (s.modPair p f).scOld = s.scOld := rfl
@[simp] theorem State.modPair_runs : (s.modPair p f).runs = s.runs := rfl
@[simp] theorem State.modPair_saUid : (s.modPair p f).saUid = s.saUid := rfl
@[simp] theorem State.modPair_leases : (s.modPair p f).leases = s.leases := rfl
@[simp] theorem State.modPair_saCache : (s.modPair p f).saCache = s.saCache := rfl
@[simp] theorem State.modPair_meters : (s.modPair p f).meters = s.meters := rfl
@[simp] theorem State.modPair_switched : (s.modPair p f).switched = s.switched := rfl
@[simp] theorem State.modPair_mover : (s.modPair p f).mover = s.mover := rfl
@[simp] theorem State.modPair_rotated : (s.modPair p f).rotated = s.rotated := rfl
@[simp] theorem State.modPair_jetTest : (s.modPair p f).jetTest = s.jetTest := rfl
@[simp] theorem State.modPair_jetFence : (s.modPair p f).jetFence = s.jetFence := rfl
@[simp] theorem State.modPair_sluIn : (s.modPair p f).sluIn = s.sluIn := rfl
@[simp] theorem State.modPair_trace : (s.modPair p f).trace = s.trace := rfl
@[simp] theorem State.modPair_jtag : (s.modPair p f).jtag = s.jtag := rfl
@[simp] theorem State.modPair_links : (s.modPair p f).links = s.links := rfl
@[simp] theorem State.modPair_streams : (s.modPair p f).streams = s.streams := rfl
@[simp] theorem State.modPair_ropen : (s.modPair p f).ropen = s.ropen := rfl
@[simp] theorem State.modPair_rreqs : (s.modPair p f).rreqs = s.rreqs := rfl
@[simp] theorem State.modPair_ridgeReq : (s.modPair p f).ridgeReq = s.ridgeReq := rfl
@[simp] theorem State.modPair_out : (s.modPair p f).out = s.out := rfl
@[simp] theorem State.modPair_free : (s.modPair p f).free = s.free := rfl
@[simp] theorem State.modPair_stopped : (s.modPair p f).stopped = s.stopped := rfl
@[simp] theorem State.modPair_pending : (s.modPair p f).pending = s.pending := rfl

end

/-! `modSlice` leaves every field but slices. -/

section
variable (s : State) (h : SliceId) (f : Slice → Slice)

@[simp] theorem State.modSlice_regs : (s.modSlice h f).regs = s.regs := rfl
@[simp] theorem State.modSlice_rdata : (s.modSlice h f).rdata = s.rdata := rfl
@[simp] theorem State.modSlice_mem : (s.modSlice h f).mem = s.mem := rfl
@[simp] theorem State.modSlice_sram : (s.modSlice h f).sram = s.sram := rfl
@[simp] theorem State.modSlice_spill : (s.modSlice h f).spill = s.spill := rfl
@[simp] theorem State.modSlice_spillGen : (s.modSlice h f).spillGen = s.spillGen := rfl
@[simp] theorem State.modSlice_poison : (s.modSlice h f).poison = s.poison := rfl
@[simp] theorem State.modSlice_resvClean : (s.modSlice h f).resvClean = s.resvClean := rfl
@[simp] theorem State.modSlice_cis : (s.modSlice h f).cis = s.cis := rfl
@[simp] theorem State.modSlice_tb : (s.modSlice h f).tb = s.tb := rfl
@[simp] theorem State.modSlice_fuses : (s.modSlice h f).fuses = s.fuses := rfl
@[simp] theorem State.modSlice_pins : (s.modSlice h f).pins = s.pins := rfl
@[simp] theorem State.modSlice_boot : (s.modSlice h f).boot = s.boot := rfl
@[simp] theorem State.modSlice_bankFenced : (s.modSlice h f).bankFenced = s.bankFenced := rfl
@[simp] theorem State.modSlice_avs : (s.modSlice h f).avs = s.avs := rfl
@[simp] theorem State.modSlice_pwrWait : (s.modSlice h f).pwrWait = s.pwrWait := rfl
@[simp] theorem State.modSlice_offPds : (s.modSlice h f).offPds = s.offPds := rfl
@[simp] theorem State.modSlice_cores : (s.modSlice h f).cores = s.cores := rfl
@[simp] theorem State.modSlice_pairs : (s.modSlice h f).pairs = s.pairs := rfl
@[simp] theorem State.modSlice_srcs : (s.modSlice h f).srcs = s.srcs := rfl
@[simp] theorem State.modSlice_selOther : (s.modSlice h f).selOther = s.selOther := rfl
@[simp] theorem State.modSlice_errs : (s.modSlice h f).errs = s.errs := rfl
@[simp] theorem State.modSlice_errSeq : (s.modSlice h f).errSeq = s.errSeq := rfl
@[simp] theorem State.modSlice_errLost : (s.modSlice h f).errLost = s.errLost := rfl
@[simp] theorem State.modSlice_saEvts : (s.modSlice h f).saEvts = s.saEvts := rfl
@[simp] theorem State.modSlice_dbqs : (s.modSlice h f).dbqs = s.dbqs := rfl
@[simp] theorem State.modSlice_plat : (s.modSlice h f).plat = s.plat := rfl
@[simp] theorem State.modSlice_cfgNow : (s.modSlice h f).cfgNow = s.cfgNow := rfl
@[simp] theorem State.modSlice_cfgOld : (s.modSlice h f).cfgOld = s.cfgOld := rfl
@[simp] theorem State.modSlice_epoch : (s.modSlice h f).epoch = s.epoch := rfl
@[simp] theorem State.modSlice_stages : (s.modSlice h f).stages = s.stages := rfl
@[simp] theorem State.modSlice_txns : (s.modSlice h f).txns = s.txns := rfl
@[simp] theorem State.modSlice_sluQ : (s.modSlice h f).sluQ = s.sluQ := rfl
@[simp] theorem State.modSlice_saQ : (s.modSlice h f).saQ = s.saQ := rfl
@[simp] theorem State.modSlice_bitLoad : (s.modSlice h f).bitLoad = s.bitLoad := rfl
@[simp] theorem State.modSlice_macs : (s.modSlice h f).macs = s.macs := rfl
@[simp] theorem State.modSlice_chans : (s.modSlice h f).chans = s.chans := rfl
@[simp] theorem State.modSlice_frames : (s.modSlice h f).frames = s.frames := rfl
@[simp] theorem State.modSlice_frameSeq : (s.modSlice h f).frameSeq = s.frameSeq := rfl
@[simp] theorem State.modSlice_cells : (s.modSlice h f).cells = s.cells := rfl
@[simp] theorem State.modSlice_cellTrig : (s.modSlice h f).cellTrig = s.cellTrig := rfl
@[simp] theorem State.modSlice_scNow : (s.modSlice h f).scNow = s.scNow := rfl
@[simp] theorem State.modSlice_scOld : (s.modSlice h f).scOld = s.scOld := rfl
@[simp] theorem State.modSlice_runs : (s.modSlice h f).runs = s.runs := rfl
@[simp] theorem State.modSlice_saUid : (s.modSlice h f).saUid = s.saUid := rfl
@[simp] theorem State.modSlice_leases : (s.modSlice h f).leases = s.leases := rfl
@[simp] theorem State.modSlice_saCache : (s.modSlice h f).saCache = s.saCache := rfl
@[simp] theorem State.modSlice_meters : (s.modSlice h f).meters = s.meters := rfl
@[simp] theorem State.modSlice_switched : (s.modSlice h f).switched = s.switched := rfl
@[simp] theorem State.modSlice_mover : (s.modSlice h f).mover = s.mover := rfl
@[simp] theorem State.modSlice_rotated : (s.modSlice h f).rotated = s.rotated := rfl
@[simp] theorem State.modSlice_jetTest : (s.modSlice h f).jetTest = s.jetTest := rfl
@[simp] theorem State.modSlice_jetFence : (s.modSlice h f).jetFence = s.jetFence := rfl
@[simp] theorem State.modSlice_sluIn : (s.modSlice h f).sluIn = s.sluIn := rfl
@[simp] theorem State.modSlice_trace : (s.modSlice h f).trace = s.trace := rfl
@[simp] theorem State.modSlice_jtag : (s.modSlice h f).jtag = s.jtag := rfl
@[simp] theorem State.modSlice_links : (s.modSlice h f).links = s.links := rfl
@[simp] theorem State.modSlice_streams : (s.modSlice h f).streams = s.streams := rfl
@[simp] theorem State.modSlice_ropen : (s.modSlice h f).ropen = s.ropen := rfl
@[simp] theorem State.modSlice_rreqs : (s.modSlice h f).rreqs = s.rreqs := rfl
@[simp] theorem State.modSlice_ridgeReq : (s.modSlice h f).ridgeReq = s.ridgeReq := rfl
@[simp] theorem State.modSlice_out : (s.modSlice h f).out = s.out := rfl
@[simp] theorem State.modSlice_free : (s.modSlice h f).free = s.free := rfl
@[simp] theorem State.modSlice_stopped : (s.modSlice h f).stopped = s.stopped := rfl
@[simp] theorem State.modSlice_pending : (s.modSlice h f).pending = s.pending := rfl

end

/-! `modStage` leaves every field but stages. -/

section
variable (s : State) (k : StageId) (f : Stage → Stage)

@[simp] theorem State.modStage_regs : (s.modStage k f).regs = s.regs := rfl
@[simp] theorem State.modStage_rdata : (s.modStage k f).rdata = s.rdata := rfl
@[simp] theorem State.modStage_mem : (s.modStage k f).mem = s.mem := rfl
@[simp] theorem State.modStage_sram : (s.modStage k f).sram = s.sram := rfl
@[simp] theorem State.modStage_spill : (s.modStage k f).spill = s.spill := rfl
@[simp] theorem State.modStage_spillGen : (s.modStage k f).spillGen = s.spillGen := rfl
@[simp] theorem State.modStage_poison : (s.modStage k f).poison = s.poison := rfl
@[simp] theorem State.modStage_resvClean : (s.modStage k f).resvClean = s.resvClean := rfl
@[simp] theorem State.modStage_cis : (s.modStage k f).cis = s.cis := rfl
@[simp] theorem State.modStage_tb : (s.modStage k f).tb = s.tb := rfl
@[simp] theorem State.modStage_fuses : (s.modStage k f).fuses = s.fuses := rfl
@[simp] theorem State.modStage_pins : (s.modStage k f).pins = s.pins := rfl
@[simp] theorem State.modStage_boot : (s.modStage k f).boot = s.boot := rfl
@[simp] theorem State.modStage_bankFenced : (s.modStage k f).bankFenced = s.bankFenced := rfl
@[simp] theorem State.modStage_avs : (s.modStage k f).avs = s.avs := rfl
@[simp] theorem State.modStage_pwrWait : (s.modStage k f).pwrWait = s.pwrWait := rfl
@[simp] theorem State.modStage_offPds : (s.modStage k f).offPds = s.offPds := rfl
@[simp] theorem State.modStage_cores : (s.modStage k f).cores = s.cores := rfl
@[simp] theorem State.modStage_pairs : (s.modStage k f).pairs = s.pairs := rfl
@[simp] theorem State.modStage_slices : (s.modStage k f).slices = s.slices := rfl
@[simp] theorem State.modStage_srcs : (s.modStage k f).srcs = s.srcs := rfl
@[simp] theorem State.modStage_selOther : (s.modStage k f).selOther = s.selOther := rfl
@[simp] theorem State.modStage_errs : (s.modStage k f).errs = s.errs := rfl
@[simp] theorem State.modStage_errSeq : (s.modStage k f).errSeq = s.errSeq := rfl
@[simp] theorem State.modStage_errLost : (s.modStage k f).errLost = s.errLost := rfl
@[simp] theorem State.modStage_saEvts : (s.modStage k f).saEvts = s.saEvts := rfl
@[simp] theorem State.modStage_dbqs : (s.modStage k f).dbqs = s.dbqs := rfl
@[simp] theorem State.modStage_plat : (s.modStage k f).plat = s.plat := rfl
@[simp] theorem State.modStage_cfgNow : (s.modStage k f).cfgNow = s.cfgNow := rfl
@[simp] theorem State.modStage_cfgOld : (s.modStage k f).cfgOld = s.cfgOld := rfl
@[simp] theorem State.modStage_epoch : (s.modStage k f).epoch = s.epoch := rfl
@[simp] theorem State.modStage_txns : (s.modStage k f).txns = s.txns := rfl
@[simp] theorem State.modStage_sluQ : (s.modStage k f).sluQ = s.sluQ := rfl
@[simp] theorem State.modStage_saQ : (s.modStage k f).saQ = s.saQ := rfl
@[simp] theorem State.modStage_bitLoad : (s.modStage k f).bitLoad = s.bitLoad := rfl
@[simp] theorem State.modStage_macs : (s.modStage k f).macs = s.macs := rfl
@[simp] theorem State.modStage_chans : (s.modStage k f).chans = s.chans := rfl
@[simp] theorem State.modStage_frames : (s.modStage k f).frames = s.frames := rfl
@[simp] theorem State.modStage_frameSeq : (s.modStage k f).frameSeq = s.frameSeq := rfl
@[simp] theorem State.modStage_cells : (s.modStage k f).cells = s.cells := rfl
@[simp] theorem State.modStage_cellTrig : (s.modStage k f).cellTrig = s.cellTrig := rfl
@[simp] theorem State.modStage_scNow : (s.modStage k f).scNow = s.scNow := rfl
@[simp] theorem State.modStage_scOld : (s.modStage k f).scOld = s.scOld := rfl
@[simp] theorem State.modStage_runs : (s.modStage k f).runs = s.runs := rfl
@[simp] theorem State.modStage_saUid : (s.modStage k f).saUid = s.saUid := rfl
@[simp] theorem State.modStage_leases : (s.modStage k f).leases = s.leases := rfl
@[simp] theorem State.modStage_saCache : (s.modStage k f).saCache = s.saCache := rfl
@[simp] theorem State.modStage_meters : (s.modStage k f).meters = s.meters := rfl
@[simp] theorem State.modStage_switched : (s.modStage k f).switched = s.switched := rfl
@[simp] theorem State.modStage_mover : (s.modStage k f).mover = s.mover := rfl
@[simp] theorem State.modStage_rotated : (s.modStage k f).rotated = s.rotated := rfl
@[simp] theorem State.modStage_jetTest : (s.modStage k f).jetTest = s.jetTest := rfl
@[simp] theorem State.modStage_jetFence : (s.modStage k f).jetFence = s.jetFence := rfl
@[simp] theorem State.modStage_sluIn : (s.modStage k f).sluIn = s.sluIn := rfl
@[simp] theorem State.modStage_trace : (s.modStage k f).trace = s.trace := rfl
@[simp] theorem State.modStage_jtag : (s.modStage k f).jtag = s.jtag := rfl
@[simp] theorem State.modStage_links : (s.modStage k f).links = s.links := rfl
@[simp] theorem State.modStage_streams : (s.modStage k f).streams = s.streams := rfl
@[simp] theorem State.modStage_ropen : (s.modStage k f).ropen = s.ropen := rfl
@[simp] theorem State.modStage_rreqs : (s.modStage k f).rreqs = s.rreqs := rfl
@[simp] theorem State.modStage_ridgeReq : (s.modStage k f).ridgeReq = s.ridgeReq := rfl
@[simp] theorem State.modStage_out : (s.modStage k f).out = s.out := rfl
@[simp] theorem State.modStage_free : (s.modStage k f).free = s.free := rfl
@[simp] theorem State.modStage_stopped : (s.modStage k f).stopped = s.stopped := rfl
@[simp] theorem State.modStage_pending : (s.modStage k f).pending = s.pending := rfl

end

/-! `modMac` leaves every field but macs. -/

section
variable (s : State) (m : MacId) (f : Mac → Mac)

@[simp] theorem State.modMac_regs : (s.modMac m f).regs = s.regs := rfl
@[simp] theorem State.modMac_rdata : (s.modMac m f).rdata = s.rdata := rfl
@[simp] theorem State.modMac_mem : (s.modMac m f).mem = s.mem := rfl
@[simp] theorem State.modMac_sram : (s.modMac m f).sram = s.sram := rfl
@[simp] theorem State.modMac_spill : (s.modMac m f).spill = s.spill := rfl
@[simp] theorem State.modMac_spillGen : (s.modMac m f).spillGen = s.spillGen := rfl
@[simp] theorem State.modMac_poison : (s.modMac m f).poison = s.poison := rfl
@[simp] theorem State.modMac_resvClean : (s.modMac m f).resvClean = s.resvClean := rfl
@[simp] theorem State.modMac_cis : (s.modMac m f).cis = s.cis := rfl
@[simp] theorem State.modMac_tb : (s.modMac m f).tb = s.tb := rfl
@[simp] theorem State.modMac_fuses : (s.modMac m f).fuses = s.fuses := rfl
@[simp] theorem State.modMac_pins : (s.modMac m f).pins = s.pins := rfl
@[simp] theorem State.modMac_boot : (s.modMac m f).boot = s.boot := rfl
@[simp] theorem State.modMac_bankFenced : (s.modMac m f).bankFenced = s.bankFenced := rfl
@[simp] theorem State.modMac_avs : (s.modMac m f).avs = s.avs := rfl
@[simp] theorem State.modMac_pwrWait : (s.modMac m f).pwrWait = s.pwrWait := rfl
@[simp] theorem State.modMac_offPds : (s.modMac m f).offPds = s.offPds := rfl
@[simp] theorem State.modMac_cores : (s.modMac m f).cores = s.cores := rfl
@[simp] theorem State.modMac_pairs : (s.modMac m f).pairs = s.pairs := rfl
@[simp] theorem State.modMac_slices : (s.modMac m f).slices = s.slices := rfl
@[simp] theorem State.modMac_srcs : (s.modMac m f).srcs = s.srcs := rfl
@[simp] theorem State.modMac_selOther : (s.modMac m f).selOther = s.selOther := rfl
@[simp] theorem State.modMac_errs : (s.modMac m f).errs = s.errs := rfl
@[simp] theorem State.modMac_errSeq : (s.modMac m f).errSeq = s.errSeq := rfl
@[simp] theorem State.modMac_errLost : (s.modMac m f).errLost = s.errLost := rfl
@[simp] theorem State.modMac_saEvts : (s.modMac m f).saEvts = s.saEvts := rfl
@[simp] theorem State.modMac_dbqs : (s.modMac m f).dbqs = s.dbqs := rfl
@[simp] theorem State.modMac_plat : (s.modMac m f).plat = s.plat := rfl
@[simp] theorem State.modMac_cfgNow : (s.modMac m f).cfgNow = s.cfgNow := rfl
@[simp] theorem State.modMac_cfgOld : (s.modMac m f).cfgOld = s.cfgOld := rfl
@[simp] theorem State.modMac_epoch : (s.modMac m f).epoch = s.epoch := rfl
@[simp] theorem State.modMac_stages : (s.modMac m f).stages = s.stages := rfl
@[simp] theorem State.modMac_txns : (s.modMac m f).txns = s.txns := rfl
@[simp] theorem State.modMac_sluQ : (s.modMac m f).sluQ = s.sluQ := rfl
@[simp] theorem State.modMac_saQ : (s.modMac m f).saQ = s.saQ := rfl
@[simp] theorem State.modMac_bitLoad : (s.modMac m f).bitLoad = s.bitLoad := rfl
@[simp] theorem State.modMac_chans : (s.modMac m f).chans = s.chans := rfl
@[simp] theorem State.modMac_frames : (s.modMac m f).frames = s.frames := rfl
@[simp] theorem State.modMac_frameSeq : (s.modMac m f).frameSeq = s.frameSeq := rfl
@[simp] theorem State.modMac_cells : (s.modMac m f).cells = s.cells := rfl
@[simp] theorem State.modMac_cellTrig : (s.modMac m f).cellTrig = s.cellTrig := rfl
@[simp] theorem State.modMac_scNow : (s.modMac m f).scNow = s.scNow := rfl
@[simp] theorem State.modMac_scOld : (s.modMac m f).scOld = s.scOld := rfl
@[simp] theorem State.modMac_runs : (s.modMac m f).runs = s.runs := rfl
@[simp] theorem State.modMac_saUid : (s.modMac m f).saUid = s.saUid := rfl
@[simp] theorem State.modMac_leases : (s.modMac m f).leases = s.leases := rfl
@[simp] theorem State.modMac_saCache : (s.modMac m f).saCache = s.saCache := rfl
@[simp] theorem State.modMac_meters : (s.modMac m f).meters = s.meters := rfl
@[simp] theorem State.modMac_switched : (s.modMac m f).switched = s.switched := rfl
@[simp] theorem State.modMac_mover : (s.modMac m f).mover = s.mover := rfl
@[simp] theorem State.modMac_rotated : (s.modMac m f).rotated = s.rotated := rfl
@[simp] theorem State.modMac_jetTest : (s.modMac m f).jetTest = s.jetTest := rfl
@[simp] theorem State.modMac_jetFence : (s.modMac m f).jetFence = s.jetFence := rfl
@[simp] theorem State.modMac_sluIn : (s.modMac m f).sluIn = s.sluIn := rfl
@[simp] theorem State.modMac_trace : (s.modMac m f).trace = s.trace := rfl
@[simp] theorem State.modMac_jtag : (s.modMac m f).jtag = s.jtag := rfl
@[simp] theorem State.modMac_links : (s.modMac m f).links = s.links := rfl
@[simp] theorem State.modMac_streams : (s.modMac m f).streams = s.streams := rfl
@[simp] theorem State.modMac_ropen : (s.modMac m f).ropen = s.ropen := rfl
@[simp] theorem State.modMac_rreqs : (s.modMac m f).rreqs = s.rreqs := rfl
@[simp] theorem State.modMac_ridgeReq : (s.modMac m f).ridgeReq = s.ridgeReq := rfl
@[simp] theorem State.modMac_out : (s.modMac m f).out = s.out := rfl
@[simp] theorem State.modMac_free : (s.modMac m f).free = s.free := rfl
@[simp] theorem State.modMac_stopped : (s.modMac m f).stopped = s.stopped := rfl
@[simp] theorem State.modMac_pending : (s.modMac m f).pending = s.pending := rfl

end

/-! `modChan` leaves every field but chans. -/

section
variable (s : State) (c : ChanId) (f : Chan → Chan)

@[simp] theorem State.modChan_regs : (s.modChan c f).regs = s.regs := rfl
@[simp] theorem State.modChan_rdata : (s.modChan c f).rdata = s.rdata := rfl
@[simp] theorem State.modChan_mem : (s.modChan c f).mem = s.mem := rfl
@[simp] theorem State.modChan_sram : (s.modChan c f).sram = s.sram := rfl
@[simp] theorem State.modChan_spill : (s.modChan c f).spill = s.spill := rfl
@[simp] theorem State.modChan_spillGen : (s.modChan c f).spillGen = s.spillGen := rfl
@[simp] theorem State.modChan_poison : (s.modChan c f).poison = s.poison := rfl
@[simp] theorem State.modChan_resvClean : (s.modChan c f).resvClean = s.resvClean := rfl
@[simp] theorem State.modChan_cis : (s.modChan c f).cis = s.cis := rfl
@[simp] theorem State.modChan_tb : (s.modChan c f).tb = s.tb := rfl
@[simp] theorem State.modChan_fuses : (s.modChan c f).fuses = s.fuses := rfl
@[simp] theorem State.modChan_pins : (s.modChan c f).pins = s.pins := rfl
@[simp] theorem State.modChan_boot : (s.modChan c f).boot = s.boot := rfl
@[simp] theorem State.modChan_bankFenced : (s.modChan c f).bankFenced = s.bankFenced := rfl
@[simp] theorem State.modChan_avs : (s.modChan c f).avs = s.avs := rfl
@[simp] theorem State.modChan_pwrWait : (s.modChan c f).pwrWait = s.pwrWait := rfl
@[simp] theorem State.modChan_offPds : (s.modChan c f).offPds = s.offPds := rfl
@[simp] theorem State.modChan_cores : (s.modChan c f).cores = s.cores := rfl
@[simp] theorem State.modChan_pairs : (s.modChan c f).pairs = s.pairs := rfl
@[simp] theorem State.modChan_slices : (s.modChan c f).slices = s.slices := rfl
@[simp] theorem State.modChan_srcs : (s.modChan c f).srcs = s.srcs := rfl
@[simp] theorem State.modChan_selOther : (s.modChan c f).selOther = s.selOther := rfl
@[simp] theorem State.modChan_errs : (s.modChan c f).errs = s.errs := rfl
@[simp] theorem State.modChan_errSeq : (s.modChan c f).errSeq = s.errSeq := rfl
@[simp] theorem State.modChan_errLost : (s.modChan c f).errLost = s.errLost := rfl
@[simp] theorem State.modChan_saEvts : (s.modChan c f).saEvts = s.saEvts := rfl
@[simp] theorem State.modChan_dbqs : (s.modChan c f).dbqs = s.dbqs := rfl
@[simp] theorem State.modChan_plat : (s.modChan c f).plat = s.plat := rfl
@[simp] theorem State.modChan_cfgNow : (s.modChan c f).cfgNow = s.cfgNow := rfl
@[simp] theorem State.modChan_cfgOld : (s.modChan c f).cfgOld = s.cfgOld := rfl
@[simp] theorem State.modChan_epoch : (s.modChan c f).epoch = s.epoch := rfl
@[simp] theorem State.modChan_stages : (s.modChan c f).stages = s.stages := rfl
@[simp] theorem State.modChan_txns : (s.modChan c f).txns = s.txns := rfl
@[simp] theorem State.modChan_sluQ : (s.modChan c f).sluQ = s.sluQ := rfl
@[simp] theorem State.modChan_saQ : (s.modChan c f).saQ = s.saQ := rfl
@[simp] theorem State.modChan_bitLoad : (s.modChan c f).bitLoad = s.bitLoad := rfl
@[simp] theorem State.modChan_macs : (s.modChan c f).macs = s.macs := rfl
@[simp] theorem State.modChan_frames : (s.modChan c f).frames = s.frames := rfl
@[simp] theorem State.modChan_frameSeq : (s.modChan c f).frameSeq = s.frameSeq := rfl
@[simp] theorem State.modChan_cells : (s.modChan c f).cells = s.cells := rfl
@[simp] theorem State.modChan_cellTrig : (s.modChan c f).cellTrig = s.cellTrig := rfl
@[simp] theorem State.modChan_scNow : (s.modChan c f).scNow = s.scNow := rfl
@[simp] theorem State.modChan_scOld : (s.modChan c f).scOld = s.scOld := rfl
@[simp] theorem State.modChan_runs : (s.modChan c f).runs = s.runs := rfl
@[simp] theorem State.modChan_saUid : (s.modChan c f).saUid = s.saUid := rfl
@[simp] theorem State.modChan_leases : (s.modChan c f).leases = s.leases := rfl
@[simp] theorem State.modChan_saCache : (s.modChan c f).saCache = s.saCache := rfl
@[simp] theorem State.modChan_meters : (s.modChan c f).meters = s.meters := rfl
@[simp] theorem State.modChan_switched : (s.modChan c f).switched = s.switched := rfl
@[simp] theorem State.modChan_mover : (s.modChan c f).mover = s.mover := rfl
@[simp] theorem State.modChan_rotated : (s.modChan c f).rotated = s.rotated := rfl
@[simp] theorem State.modChan_jetTest : (s.modChan c f).jetTest = s.jetTest := rfl
@[simp] theorem State.modChan_jetFence : (s.modChan c f).jetFence = s.jetFence := rfl
@[simp] theorem State.modChan_sluIn : (s.modChan c f).sluIn = s.sluIn := rfl
@[simp] theorem State.modChan_trace : (s.modChan c f).trace = s.trace := rfl
@[simp] theorem State.modChan_jtag : (s.modChan c f).jtag = s.jtag := rfl
@[simp] theorem State.modChan_links : (s.modChan c f).links = s.links := rfl
@[simp] theorem State.modChan_streams : (s.modChan c f).streams = s.streams := rfl
@[simp] theorem State.modChan_ropen : (s.modChan c f).ropen = s.ropen := rfl
@[simp] theorem State.modChan_rreqs : (s.modChan c f).rreqs = s.rreqs := rfl
@[simp] theorem State.modChan_ridgeReq : (s.modChan c f).ridgeReq = s.ridgeReq := rfl
@[simp] theorem State.modChan_out : (s.modChan c f).out = s.out := rfl
@[simp] theorem State.modChan_free : (s.modChan c f).free = s.free := rfl
@[simp] theorem State.modChan_stopped : (s.modChan c f).stopped = s.stopped := rfl
@[simp] theorem State.modChan_pending : (s.modChan c f).pending = s.pending := rfl

end

/-! `modLink` leaves every field but links. -/

section
variable (s : State) (l : LinkId) (f : RLink → RLink)

@[simp] theorem State.modLink_regs : (s.modLink l f).regs = s.regs := rfl
@[simp] theorem State.modLink_rdata : (s.modLink l f).rdata = s.rdata := rfl
@[simp] theorem State.modLink_mem : (s.modLink l f).mem = s.mem := rfl
@[simp] theorem State.modLink_sram : (s.modLink l f).sram = s.sram := rfl
@[simp] theorem State.modLink_spill : (s.modLink l f).spill = s.spill := rfl
@[simp] theorem State.modLink_spillGen : (s.modLink l f).spillGen = s.spillGen := rfl
@[simp] theorem State.modLink_poison : (s.modLink l f).poison = s.poison := rfl
@[simp] theorem State.modLink_resvClean : (s.modLink l f).resvClean = s.resvClean := rfl
@[simp] theorem State.modLink_cis : (s.modLink l f).cis = s.cis := rfl
@[simp] theorem State.modLink_tb : (s.modLink l f).tb = s.tb := rfl
@[simp] theorem State.modLink_fuses : (s.modLink l f).fuses = s.fuses := rfl
@[simp] theorem State.modLink_pins : (s.modLink l f).pins = s.pins := rfl
@[simp] theorem State.modLink_boot : (s.modLink l f).boot = s.boot := rfl
@[simp] theorem State.modLink_bankFenced : (s.modLink l f).bankFenced = s.bankFenced := rfl
@[simp] theorem State.modLink_avs : (s.modLink l f).avs = s.avs := rfl
@[simp] theorem State.modLink_pwrWait : (s.modLink l f).pwrWait = s.pwrWait := rfl
@[simp] theorem State.modLink_offPds : (s.modLink l f).offPds = s.offPds := rfl
@[simp] theorem State.modLink_cores : (s.modLink l f).cores = s.cores := rfl
@[simp] theorem State.modLink_pairs : (s.modLink l f).pairs = s.pairs := rfl
@[simp] theorem State.modLink_slices : (s.modLink l f).slices = s.slices := rfl
@[simp] theorem State.modLink_srcs : (s.modLink l f).srcs = s.srcs := rfl
@[simp] theorem State.modLink_selOther : (s.modLink l f).selOther = s.selOther := rfl
@[simp] theorem State.modLink_errs : (s.modLink l f).errs = s.errs := rfl
@[simp] theorem State.modLink_errSeq : (s.modLink l f).errSeq = s.errSeq := rfl
@[simp] theorem State.modLink_errLost : (s.modLink l f).errLost = s.errLost := rfl
@[simp] theorem State.modLink_saEvts : (s.modLink l f).saEvts = s.saEvts := rfl
@[simp] theorem State.modLink_dbqs : (s.modLink l f).dbqs = s.dbqs := rfl
@[simp] theorem State.modLink_plat : (s.modLink l f).plat = s.plat := rfl
@[simp] theorem State.modLink_cfgNow : (s.modLink l f).cfgNow = s.cfgNow := rfl
@[simp] theorem State.modLink_cfgOld : (s.modLink l f).cfgOld = s.cfgOld := rfl
@[simp] theorem State.modLink_epoch : (s.modLink l f).epoch = s.epoch := rfl
@[simp] theorem State.modLink_stages : (s.modLink l f).stages = s.stages := rfl
@[simp] theorem State.modLink_txns : (s.modLink l f).txns = s.txns := rfl
@[simp] theorem State.modLink_sluQ : (s.modLink l f).sluQ = s.sluQ := rfl
@[simp] theorem State.modLink_saQ : (s.modLink l f).saQ = s.saQ := rfl
@[simp] theorem State.modLink_bitLoad : (s.modLink l f).bitLoad = s.bitLoad := rfl
@[simp] theorem State.modLink_macs : (s.modLink l f).macs = s.macs := rfl
@[simp] theorem State.modLink_chans : (s.modLink l f).chans = s.chans := rfl
@[simp] theorem State.modLink_frames : (s.modLink l f).frames = s.frames := rfl
@[simp] theorem State.modLink_frameSeq : (s.modLink l f).frameSeq = s.frameSeq := rfl
@[simp] theorem State.modLink_cells : (s.modLink l f).cells = s.cells := rfl
@[simp] theorem State.modLink_cellTrig : (s.modLink l f).cellTrig = s.cellTrig := rfl
@[simp] theorem State.modLink_scNow : (s.modLink l f).scNow = s.scNow := rfl
@[simp] theorem State.modLink_scOld : (s.modLink l f).scOld = s.scOld := rfl
@[simp] theorem State.modLink_runs : (s.modLink l f).runs = s.runs := rfl
@[simp] theorem State.modLink_saUid : (s.modLink l f).saUid = s.saUid := rfl
@[simp] theorem State.modLink_leases : (s.modLink l f).leases = s.leases := rfl
@[simp] theorem State.modLink_saCache : (s.modLink l f).saCache = s.saCache := rfl
@[simp] theorem State.modLink_meters : (s.modLink l f).meters = s.meters := rfl
@[simp] theorem State.modLink_switched : (s.modLink l f).switched = s.switched := rfl
@[simp] theorem State.modLink_mover : (s.modLink l f).mover = s.mover := rfl
@[simp] theorem State.modLink_rotated : (s.modLink l f).rotated = s.rotated := rfl
@[simp] theorem State.modLink_jetTest : (s.modLink l f).jetTest = s.jetTest := rfl
@[simp] theorem State.modLink_jetFence : (s.modLink l f).jetFence = s.jetFence := rfl
@[simp] theorem State.modLink_sluIn : (s.modLink l f).sluIn = s.sluIn := rfl
@[simp] theorem State.modLink_trace : (s.modLink l f).trace = s.trace := rfl
@[simp] theorem State.modLink_jtag : (s.modLink l f).jtag = s.jtag := rfl
@[simp] theorem State.modLink_streams : (s.modLink l f).streams = s.streams := rfl
@[simp] theorem State.modLink_ropen : (s.modLink l f).ropen = s.ropen := rfl
@[simp] theorem State.modLink_rreqs : (s.modLink l f).rreqs = s.rreqs := rfl
@[simp] theorem State.modLink_ridgeReq : (s.modLink l f).ridgeReq = s.ridgeReq := rfl
@[simp] theorem State.modLink_out : (s.modLink l f).out = s.out := rfl
@[simp] theorem State.modLink_free : (s.modLink l f).free = s.free := rfl
@[simp] theorem State.modLink_stopped : (s.modLink l f).stopped = s.stopped := rfl
@[simp] theorem State.modLink_pending : (s.modLink l f).pending = s.pending := rfl

end

/-! `modTrace` leaves every field but trace. -/

section
variable (s : State) (c : CoreId) (f : TraceUnit → TraceUnit)

@[simp] theorem State.modTrace_regs : (s.modTrace c f).regs = s.regs := rfl
@[simp] theorem State.modTrace_rdata : (s.modTrace c f).rdata = s.rdata := rfl
@[simp] theorem State.modTrace_mem : (s.modTrace c f).mem = s.mem := rfl
@[simp] theorem State.modTrace_sram : (s.modTrace c f).sram = s.sram := rfl
@[simp] theorem State.modTrace_spill : (s.modTrace c f).spill = s.spill := rfl
@[simp] theorem State.modTrace_spillGen : (s.modTrace c f).spillGen = s.spillGen := rfl
@[simp] theorem State.modTrace_poison : (s.modTrace c f).poison = s.poison := rfl
@[simp] theorem State.modTrace_resvClean : (s.modTrace c f).resvClean = s.resvClean := rfl
@[simp] theorem State.modTrace_cis : (s.modTrace c f).cis = s.cis := rfl
@[simp] theorem State.modTrace_tb : (s.modTrace c f).tb = s.tb := rfl
@[simp] theorem State.modTrace_fuses : (s.modTrace c f).fuses = s.fuses := rfl
@[simp] theorem State.modTrace_pins : (s.modTrace c f).pins = s.pins := rfl
@[simp] theorem State.modTrace_boot : (s.modTrace c f).boot = s.boot := rfl
@[simp] theorem State.modTrace_bankFenced : (s.modTrace c f).bankFenced = s.bankFenced := rfl
@[simp] theorem State.modTrace_avs : (s.modTrace c f).avs = s.avs := rfl
@[simp] theorem State.modTrace_pwrWait : (s.modTrace c f).pwrWait = s.pwrWait := rfl
@[simp] theorem State.modTrace_offPds : (s.modTrace c f).offPds = s.offPds := rfl
@[simp] theorem State.modTrace_cores : (s.modTrace c f).cores = s.cores := rfl
@[simp] theorem State.modTrace_pairs : (s.modTrace c f).pairs = s.pairs := rfl
@[simp] theorem State.modTrace_slices : (s.modTrace c f).slices = s.slices := rfl
@[simp] theorem State.modTrace_srcs : (s.modTrace c f).srcs = s.srcs := rfl
@[simp] theorem State.modTrace_selOther : (s.modTrace c f).selOther = s.selOther := rfl
@[simp] theorem State.modTrace_errs : (s.modTrace c f).errs = s.errs := rfl
@[simp] theorem State.modTrace_errSeq : (s.modTrace c f).errSeq = s.errSeq := rfl
@[simp] theorem State.modTrace_errLost : (s.modTrace c f).errLost = s.errLost := rfl
@[simp] theorem State.modTrace_saEvts : (s.modTrace c f).saEvts = s.saEvts := rfl
@[simp] theorem State.modTrace_dbqs : (s.modTrace c f).dbqs = s.dbqs := rfl
@[simp] theorem State.modTrace_plat : (s.modTrace c f).plat = s.plat := rfl
@[simp] theorem State.modTrace_cfgNow : (s.modTrace c f).cfgNow = s.cfgNow := rfl
@[simp] theorem State.modTrace_cfgOld : (s.modTrace c f).cfgOld = s.cfgOld := rfl
@[simp] theorem State.modTrace_epoch : (s.modTrace c f).epoch = s.epoch := rfl
@[simp] theorem State.modTrace_stages : (s.modTrace c f).stages = s.stages := rfl
@[simp] theorem State.modTrace_txns : (s.modTrace c f).txns = s.txns := rfl
@[simp] theorem State.modTrace_sluQ : (s.modTrace c f).sluQ = s.sluQ := rfl
@[simp] theorem State.modTrace_saQ : (s.modTrace c f).saQ = s.saQ := rfl
@[simp] theorem State.modTrace_bitLoad : (s.modTrace c f).bitLoad = s.bitLoad := rfl
@[simp] theorem State.modTrace_macs : (s.modTrace c f).macs = s.macs := rfl
@[simp] theorem State.modTrace_chans : (s.modTrace c f).chans = s.chans := rfl
@[simp] theorem State.modTrace_frames : (s.modTrace c f).frames = s.frames := rfl
@[simp] theorem State.modTrace_frameSeq : (s.modTrace c f).frameSeq = s.frameSeq := rfl
@[simp] theorem State.modTrace_cells : (s.modTrace c f).cells = s.cells := rfl
@[simp] theorem State.modTrace_cellTrig : (s.modTrace c f).cellTrig = s.cellTrig := rfl
@[simp] theorem State.modTrace_scNow : (s.modTrace c f).scNow = s.scNow := rfl
@[simp] theorem State.modTrace_scOld : (s.modTrace c f).scOld = s.scOld := rfl
@[simp] theorem State.modTrace_runs : (s.modTrace c f).runs = s.runs := rfl
@[simp] theorem State.modTrace_saUid : (s.modTrace c f).saUid = s.saUid := rfl
@[simp] theorem State.modTrace_leases : (s.modTrace c f).leases = s.leases := rfl
@[simp] theorem State.modTrace_saCache : (s.modTrace c f).saCache = s.saCache := rfl
@[simp] theorem State.modTrace_meters : (s.modTrace c f).meters = s.meters := rfl
@[simp] theorem State.modTrace_switched : (s.modTrace c f).switched = s.switched := rfl
@[simp] theorem State.modTrace_mover : (s.modTrace c f).mover = s.mover := rfl
@[simp] theorem State.modTrace_rotated : (s.modTrace c f).rotated = s.rotated := rfl
@[simp] theorem State.modTrace_jetTest : (s.modTrace c f).jetTest = s.jetTest := rfl
@[simp] theorem State.modTrace_jetFence : (s.modTrace c f).jetFence = s.jetFence := rfl
@[simp] theorem State.modTrace_sluIn : (s.modTrace c f).sluIn = s.sluIn := rfl
@[simp] theorem State.modTrace_jtag : (s.modTrace c f).jtag = s.jtag := rfl
@[simp] theorem State.modTrace_links : (s.modTrace c f).links = s.links := rfl
@[simp] theorem State.modTrace_streams : (s.modTrace c f).streams = s.streams := rfl
@[simp] theorem State.modTrace_ropen : (s.modTrace c f).ropen = s.ropen := rfl
@[simp] theorem State.modTrace_rreqs : (s.modTrace c f).rreqs = s.rreqs := rfl
@[simp] theorem State.modTrace_ridgeReq : (s.modTrace c f).ridgeReq = s.ridgeReq := rfl
@[simp] theorem State.modTrace_out : (s.modTrace c f).out = s.out := rfl
@[simp] theorem State.modTrace_free : (s.modTrace c f).free = s.free := rfl
@[simp] theorem State.modTrace_stopped : (s.modTrace c f).stopped = s.stopped := rfl
@[simp] theorem State.modTrace_pending : (s.modTrace c f).pending = s.pending := rfl

end

/-! `setSrc` leaves every field but srcs. -/

section
variable (s : State) (n : Nat) (v : Source)

@[simp] theorem State.setSrc_regs : (s.setSrc n v).regs = s.regs := rfl
@[simp] theorem State.setSrc_rdata : (s.setSrc n v).rdata = s.rdata := rfl
@[simp] theorem State.setSrc_mem : (s.setSrc n v).mem = s.mem := rfl
@[simp] theorem State.setSrc_sram : (s.setSrc n v).sram = s.sram := rfl
@[simp] theorem State.setSrc_spill : (s.setSrc n v).spill = s.spill := rfl
@[simp] theorem State.setSrc_spillGen : (s.setSrc n v).spillGen = s.spillGen := rfl
@[simp] theorem State.setSrc_poison : (s.setSrc n v).poison = s.poison := rfl
@[simp] theorem State.setSrc_resvClean : (s.setSrc n v).resvClean = s.resvClean := rfl
@[simp] theorem State.setSrc_cis : (s.setSrc n v).cis = s.cis := rfl
@[simp] theorem State.setSrc_tb : (s.setSrc n v).tb = s.tb := rfl
@[simp] theorem State.setSrc_fuses : (s.setSrc n v).fuses = s.fuses := rfl
@[simp] theorem State.setSrc_pins : (s.setSrc n v).pins = s.pins := rfl
@[simp] theorem State.setSrc_boot : (s.setSrc n v).boot = s.boot := rfl
@[simp] theorem State.setSrc_bankFenced : (s.setSrc n v).bankFenced = s.bankFenced := rfl
@[simp] theorem State.setSrc_avs : (s.setSrc n v).avs = s.avs := rfl
@[simp] theorem State.setSrc_pwrWait : (s.setSrc n v).pwrWait = s.pwrWait := rfl
@[simp] theorem State.setSrc_offPds : (s.setSrc n v).offPds = s.offPds := rfl
@[simp] theorem State.setSrc_cores : (s.setSrc n v).cores = s.cores := rfl
@[simp] theorem State.setSrc_pairs : (s.setSrc n v).pairs = s.pairs := rfl
@[simp] theorem State.setSrc_slices : (s.setSrc n v).slices = s.slices := rfl
@[simp] theorem State.setSrc_selOther : (s.setSrc n v).selOther = s.selOther := rfl
@[simp] theorem State.setSrc_errs : (s.setSrc n v).errs = s.errs := rfl
@[simp] theorem State.setSrc_errSeq : (s.setSrc n v).errSeq = s.errSeq := rfl
@[simp] theorem State.setSrc_errLost : (s.setSrc n v).errLost = s.errLost := rfl
@[simp] theorem State.setSrc_saEvts : (s.setSrc n v).saEvts = s.saEvts := rfl
@[simp] theorem State.setSrc_dbqs : (s.setSrc n v).dbqs = s.dbqs := rfl
@[simp] theorem State.setSrc_plat : (s.setSrc n v).plat = s.plat := rfl
@[simp] theorem State.setSrc_cfgNow : (s.setSrc n v).cfgNow = s.cfgNow := rfl
@[simp] theorem State.setSrc_cfgOld : (s.setSrc n v).cfgOld = s.cfgOld := rfl
@[simp] theorem State.setSrc_epoch : (s.setSrc n v).epoch = s.epoch := rfl
@[simp] theorem State.setSrc_stages : (s.setSrc n v).stages = s.stages := rfl
@[simp] theorem State.setSrc_txns : (s.setSrc n v).txns = s.txns := rfl
@[simp] theorem State.setSrc_sluQ : (s.setSrc n v).sluQ = s.sluQ := rfl
@[simp] theorem State.setSrc_saQ : (s.setSrc n v).saQ = s.saQ := rfl
@[simp] theorem State.setSrc_bitLoad : (s.setSrc n v).bitLoad = s.bitLoad := rfl
@[simp] theorem State.setSrc_macs : (s.setSrc n v).macs = s.macs := rfl
@[simp] theorem State.setSrc_chans : (s.setSrc n v).chans = s.chans := rfl
@[simp] theorem State.setSrc_frames : (s.setSrc n v).frames = s.frames := rfl
@[simp] theorem State.setSrc_frameSeq : (s.setSrc n v).frameSeq = s.frameSeq := rfl
@[simp] theorem State.setSrc_cells : (s.setSrc n v).cells = s.cells := rfl
@[simp] theorem State.setSrc_cellTrig : (s.setSrc n v).cellTrig = s.cellTrig := rfl
@[simp] theorem State.setSrc_scNow : (s.setSrc n v).scNow = s.scNow := rfl
@[simp] theorem State.setSrc_scOld : (s.setSrc n v).scOld = s.scOld := rfl
@[simp] theorem State.setSrc_runs : (s.setSrc n v).runs = s.runs := rfl
@[simp] theorem State.setSrc_saUid : (s.setSrc n v).saUid = s.saUid := rfl
@[simp] theorem State.setSrc_leases : (s.setSrc n v).leases = s.leases := rfl
@[simp] theorem State.setSrc_saCache : (s.setSrc n v).saCache = s.saCache := rfl
@[simp] theorem State.setSrc_meters : (s.setSrc n v).meters = s.meters := rfl
@[simp] theorem State.setSrc_switched : (s.setSrc n v).switched = s.switched := rfl
@[simp] theorem State.setSrc_mover : (s.setSrc n v).mover = s.mover := rfl
@[simp] theorem State.setSrc_rotated : (s.setSrc n v).rotated = s.rotated := rfl
@[simp] theorem State.setSrc_jetTest : (s.setSrc n v).jetTest = s.jetTest := rfl
@[simp] theorem State.setSrc_jetFence : (s.setSrc n v).jetFence = s.jetFence := rfl
@[simp] theorem State.setSrc_sluIn : (s.setSrc n v).sluIn = s.sluIn := rfl
@[simp] theorem State.setSrc_trace : (s.setSrc n v).trace = s.trace := rfl
@[simp] theorem State.setSrc_jtag : (s.setSrc n v).jtag = s.jtag := rfl
@[simp] theorem State.setSrc_links : (s.setSrc n v).links = s.links := rfl
@[simp] theorem State.setSrc_streams : (s.setSrc n v).streams = s.streams := rfl
@[simp] theorem State.setSrc_ropen : (s.setSrc n v).ropen = s.ropen := rfl
@[simp] theorem State.setSrc_rreqs : (s.setSrc n v).rreqs = s.rreqs := rfl
@[simp] theorem State.setSrc_ridgeReq : (s.setSrc n v).ridgeReq = s.ridgeReq := rfl
@[simp] theorem State.setSrc_out : (s.setSrc n v).out = s.out := rfl
@[simp] theorem State.setSrc_free : (s.setSrc n v).free = s.free := rfl
@[simp] theorem State.setSrc_stopped : (s.setSrc n v).stopped = s.stopped := rfl
@[simp] theorem State.setSrc_pending : (s.setSrc n v).pending = s.pending := rfl

end

/-! `draw` leaves every field but free. -/

section
variable (s : State) (n : Nat)

@[simp] theorem State.draw_regs : (s.draw n).regs = s.regs := rfl
@[simp] theorem State.draw_rdata : (s.draw n).rdata = s.rdata := rfl
@[simp] theorem State.draw_mem : (s.draw n).mem = s.mem := rfl
@[simp] theorem State.draw_sram : (s.draw n).sram = s.sram := rfl
@[simp] theorem State.draw_spill : (s.draw n).spill = s.spill := rfl
@[simp] theorem State.draw_spillGen : (s.draw n).spillGen = s.spillGen := rfl
@[simp] theorem State.draw_poison : (s.draw n).poison = s.poison := rfl
@[simp] theorem State.draw_resvClean : (s.draw n).resvClean = s.resvClean := rfl
@[simp] theorem State.draw_cis : (s.draw n).cis = s.cis := rfl
@[simp] theorem State.draw_tb : (s.draw n).tb = s.tb := rfl
@[simp] theorem State.draw_fuses : (s.draw n).fuses = s.fuses := rfl
@[simp] theorem State.draw_pins : (s.draw n).pins = s.pins := rfl
@[simp] theorem State.draw_boot : (s.draw n).boot = s.boot := rfl
@[simp] theorem State.draw_bankFenced : (s.draw n).bankFenced = s.bankFenced := rfl
@[simp] theorem State.draw_avs : (s.draw n).avs = s.avs := rfl
@[simp] theorem State.draw_pwrWait : (s.draw n).pwrWait = s.pwrWait := rfl
@[simp] theorem State.draw_offPds : (s.draw n).offPds = s.offPds := rfl
@[simp] theorem State.draw_cores : (s.draw n).cores = s.cores := rfl
@[simp] theorem State.draw_pairs : (s.draw n).pairs = s.pairs := rfl
@[simp] theorem State.draw_slices : (s.draw n).slices = s.slices := rfl
@[simp] theorem State.draw_srcs : (s.draw n).srcs = s.srcs := rfl
@[simp] theorem State.draw_selOther : (s.draw n).selOther = s.selOther := rfl
@[simp] theorem State.draw_errs : (s.draw n).errs = s.errs := rfl
@[simp] theorem State.draw_errSeq : (s.draw n).errSeq = s.errSeq := rfl
@[simp] theorem State.draw_errLost : (s.draw n).errLost = s.errLost := rfl
@[simp] theorem State.draw_saEvts : (s.draw n).saEvts = s.saEvts := rfl
@[simp] theorem State.draw_dbqs : (s.draw n).dbqs = s.dbqs := rfl
@[simp] theorem State.draw_plat : (s.draw n).plat = s.plat := rfl
@[simp] theorem State.draw_cfgNow : (s.draw n).cfgNow = s.cfgNow := rfl
@[simp] theorem State.draw_cfgOld : (s.draw n).cfgOld = s.cfgOld := rfl
@[simp] theorem State.draw_epoch : (s.draw n).epoch = s.epoch := rfl
@[simp] theorem State.draw_stages : (s.draw n).stages = s.stages := rfl
@[simp] theorem State.draw_txns : (s.draw n).txns = s.txns := rfl
@[simp] theorem State.draw_sluQ : (s.draw n).sluQ = s.sluQ := rfl
@[simp] theorem State.draw_saQ : (s.draw n).saQ = s.saQ := rfl
@[simp] theorem State.draw_bitLoad : (s.draw n).bitLoad = s.bitLoad := rfl
@[simp] theorem State.draw_macs : (s.draw n).macs = s.macs := rfl
@[simp] theorem State.draw_chans : (s.draw n).chans = s.chans := rfl
@[simp] theorem State.draw_frames : (s.draw n).frames = s.frames := rfl
@[simp] theorem State.draw_frameSeq : (s.draw n).frameSeq = s.frameSeq := rfl
@[simp] theorem State.draw_cells : (s.draw n).cells = s.cells := rfl
@[simp] theorem State.draw_cellTrig : (s.draw n).cellTrig = s.cellTrig := rfl
@[simp] theorem State.draw_scNow : (s.draw n).scNow = s.scNow := rfl
@[simp] theorem State.draw_scOld : (s.draw n).scOld = s.scOld := rfl
@[simp] theorem State.draw_runs : (s.draw n).runs = s.runs := rfl
@[simp] theorem State.draw_saUid : (s.draw n).saUid = s.saUid := rfl
@[simp] theorem State.draw_leases : (s.draw n).leases = s.leases := rfl
@[simp] theorem State.draw_saCache : (s.draw n).saCache = s.saCache := rfl
@[simp] theorem State.draw_meters : (s.draw n).meters = s.meters := rfl
@[simp] theorem State.draw_switched : (s.draw n).switched = s.switched := rfl
@[simp] theorem State.draw_mover : (s.draw n).mover = s.mover := rfl
@[simp] theorem State.draw_rotated : (s.draw n).rotated = s.rotated := rfl
@[simp] theorem State.draw_jetTest : (s.draw n).jetTest = s.jetTest := rfl
@[simp] theorem State.draw_jetFence : (s.draw n).jetFence = s.jetFence := rfl
@[simp] theorem State.draw_sluIn : (s.draw n).sluIn = s.sluIn := rfl
@[simp] theorem State.draw_trace : (s.draw n).trace = s.trace := rfl
@[simp] theorem State.draw_jtag : (s.draw n).jtag = s.jtag := rfl
@[simp] theorem State.draw_links : (s.draw n).links = s.links := rfl
@[simp] theorem State.draw_streams : (s.draw n).streams = s.streams := rfl
@[simp] theorem State.draw_ropen : (s.draw n).ropen = s.ropen := rfl
@[simp] theorem State.draw_rreqs : (s.draw n).rreqs = s.rreqs := rfl
@[simp] theorem State.draw_ridgeReq : (s.draw n).ridgeReq = s.ridgeReq := rfl
@[simp] theorem State.draw_out : (s.draw n).out = s.out := rfl
@[simp] theorem State.draw_stopped : (s.draw n).stopped = s.stopped := rfl
@[simp] theorem State.draw_pending : (s.draw n).pending = s.pending := rfl

end

end Sys2Proof.Machine
end

