-- ==== Sys2Proof/Laws/Access.lean ====
section
/-! SUPPORT. What a register access by a master does once it arrives at its block. -/

namespace Sys2Proof.Machine

/-- A write that arrives is the block's own write of the bits it covers. -/
theorem regWrite_takes (s : State) (w : RegW) (b off : Nat) (h : s.Takes w b off) :
    s.regWrite b off w = s.blockWrite w.acc b off (regMask w) (regBits w) := by
  obtain ⟨h1, h2, ⟨r, wr, x, h3⟩, h4, h5, h6⟩ := h
  simp only [State.regWrite, State.busWrite, h1, h2, h3, h4, State.devWrite, Bool.or_self, Bool.false_eq_true, ↓reduceIte]
  rcases w with ⟨acc, wide, high, val⟩
  simp only [RegW.wf] at h6
  have e : (off + 4) % 8 = 4 := by omega
  have e4 : off % 4 = 0 := by omega
  have e44 : (off + 4) % 4 = 0 := by omega
  have e8 : (off + 4) / 8 * 8 = off := by omega
  have e9 : off / 8 * 8 = off := by omega
  cases wide <;> cases high <;>
    simp_all [regForm, regOff, regSize, regMask, regBits]

/-- A command that names what its write carries does nothing with another value, and is that write with it. -/
theorem regWriteIf_true (s : State) (w : RegW) (b off : Nat) : s.regWriteIf b off w true = s.regWrite b off w := rfl

theorem regWriteIf_false (s : State) (w : RegW) (b off : Nat) : s.regWriteIf b off w false = s := rfl

end Sys2Proof.Machine
end

