-- ==== Sys2Proof/Laws/Bundle.lean ====
section
/-! SUPPORT. What a bundle of one syllable does on a still core: nothing but its own registers changes. -/

namespace Sys2Proof.Machine

theorem Bundle.ordered_plain (b : Bundle) (n : Word) (h : b.mem = []) : b.ordered n = b := by
  cases b; simp_all [Bundle.ordered, orderMem]

theorem watchHits_off (k : Core) (ms : List MemOp) : k.watchHits false ms = 0#6 := by
  simp [Core.watchHits]
  decide

theorem watch_zero (s : State) (c : CoreId) : s.watch c 0#6 = s := by simp [State.watch]

theorem bundleStop_none (s : State) (c : CoreId) (k : Core) (b : Bundle) (hi : k.dbg.inject = false)
    (h : b.isIllegal k.arch.pc true = false) (he : b.exc = none) (ho : b.bop = none) :
    s.bundleStop c k b true = none := by
  simp [State.bundleStop, hi, h, he, ho]

theorem bundleRun_plain (s : State) (c : CoreId) (k : Core) (b : Bundle) (w : BitVec 6)
    (hl : s.locked (pairOf c) = false) (hm : b.mem = []) :
    s.bundleRun c k b w = State.bundleDone ⟨s, none, [], [], none, none, false⟩ c k b false w := by
  simp [State.bundleRun, State.outside, hl, hm, State.performAll]

theorem traceBundle_off (s : State) (c : CoreId) (h1 : s.traceOn c = false) (h2 : (s.trace.get c).live = false) :
    s.traceBundle c = s := by
  simp [State.traceBundle, State.tracing, State.traceCheck, h1, h2]

/-- A bundle end on a core that nothing watches. -/
theorem bundleEnd_plain (s : State) (c : CoreId) (k : Core) (b : Bundle) (wrote : Bool)
    (hl : s.locked (pairOf c) = false) (h1 : s.traceOn c = false) (h2 : (s.trace.get c).live = false)
    (hc : k.ctl = []) (hi : b.ind = false) : s.bundleEnd c k b false wrote 0#6 = s := by
  simp [State.bundleEnd, State.injected, hl, hc, hi, traceBundle_off s c h1 h2, watch_zero]

theorem modCore_modCore (s : State) (c : CoreId) (f g : Core → Core) : (s.modCore c f).modCore c g = s.modCore c (fun k => g (f k)) := by
  simp [State.modCore]

theorem modArch_eq (s : State) (c : CoreId) (f : CoreArch → CoreArch) : s.modArch c f = s.modCore c (fun k => { k with arch := f k.arch }) := rfl

@[simp] theorem core_modCore (s : State) (c : CoreId) (f : Core → Core) : (s.modCore c f).core c = f (s.core c) := by simp [State.modCore]

theorem locked_modCore (s : State) (c p f) : (s.modCore c f).locked p = s.locked p := rfl
theorem traceOn_modCore (s : State) (c d f) : (s.modCore c f).traceOn d = s.traceOn d := rfl
theorem trace_modCore (s : State) (c f) : (s.modCore c f).trace = s.trace := rfl

theorem commitBundle_plain (s : State) (c : CoreId) (b : Bundle) 
    (split : s.locked (pairOf c) = false) (ctl : (s.core c).ctl = []) (loop : (s.core c).arch.lpc = 0)
    (inject : (s.core c).dbg.inject = false) (debug : s.invasive c = false) (trace : s.traceOn c = false)
    (stream : (s.trace.get c).live = false) (hb : (s.core c).bundle = b)
    (h : b.isIllegal (s.arch c).pc true = false)
    (he : b.exc = none) (hm : b.mem = []) (ho : b.bop = none) (ha : b.atom = none) (hi : b.ind = false) :
    s.commitBundle c true =
      some (s.modCore c (fun k => Core.tick { (k.clear.issue b [] [] none) with arch := { k.arch.setFl b.fl with pc := k.nextPc } })) := by
  have hn : b.ordered (s.core c).nextPc = b := Bundle.ordered_plain b _ hm
  simp only [State.commitBundle, hb, hn, hm, debug, watchHits_off]
  rw [bundleStop_none _ c _ b inject h he ho]
  simp only
  rw [bundleRun_plain _ c _ b 0#6 (by simpa [locked_modCore] using split) hm]
  simp only [State.bundleDone, Done.undo, State.bundleNext, ho, ha, loop, State.bundleB, modArch_eq, inject, modCore_modCore]
  simp only [Option.map_some, Option.map_none, Option.getD_none, Bool.false_or, ne_eq, not_true_eq_false, decide_false,
    Bool.false_and, Option.isSome_none, Bool.false_eq_true, ↓reduceIte, State.bundlePoison, List.any_nil]
  rw [bundleEnd_plain _ c _ b _ (by simpa [locked_modCore] using split) (by simpa [traceOn_modCore] using trace)
    (by simpa [trace_modCore] using stream) ctl hi]
  have e1 : ((s.core c).arch.setFl b.fl).lpc = 0 := by rcases b.fl with _ | ⟨x, y⟩ <;> exact loop
  simp only [State.modCore, State.core_setCore, State.setCore_setCore]
  congr 3
  simp [Core.issue, Core.clear, CoreArch.advance, e1]

theorem invasive_setCore (s : State) (c : CoreId) (k : Core) (h : k.arch = (s.core c).arch) : (s.setCore c k).invasive c = s.invasive c := by
  simp only [State.invasive, State.core_setCore, h]
  rfl

/-- A bundle counted on a core without control writes on their way. -/
theorem tick_noctl (k : Core) (h : k.ctl = []) : k.tick = Core.landDue { k with bn := k.bn + 1 } := by
  cases k; simp_all [Core.tick, Core.ctlDue, Core.landDue]

theorem owed_none (k : Core) (h : k.longs = []) : k.owed = none := by simp [Core.owed, h]

theorem stallFor_none (k : Core) (ds : List Dst) (u : Option LUnit) (h : k.longs = []) : k.stallFor ds u = some k := by
  cases k; simp_all [Core.stallFor, Core.landHit]

theorem holdFor_none (k : Core) (ds : List Dst) (h : k.longs = []) : k.holdFor ds = some k := by
  cases k; simp_all [Core.holdFor, Core.landHit]

/-- A core that waits for nothing has nothing to go on with. -/
theorem goOn_none (s : State) (c : CoreId) (h : (s.core c).waiting = none) : s.goOn c = s := by
  simp [State.goOn, h]

/-- A bundle without memory accesses needs nothing from a ridge window and comes about at once. -/
theorem complete_plain (s t old : State) (c : CoreId) (stopped : Bool) (hm : (s.core c).bundle.mem = [])
    (hf : (s.core c).fetched = []) (hc : s.commitBundle c stopped = some t) :
    s.complete c stopped old = t.stepEnd c := by
  have ha : s.ahead c stopped = (s, true) := by
    simp [State.ahead, Bundle.ordered, orderMem, hm]
  simp [State.complete, ha, hc, hf]

/-- Nothing of a bundle under way is illegal but what its one syllable asks. -/
theorem syllable_plain (s : State) (y : Syl) (info : CoreArch → SylInfo) (eff : Core → Bundle → Bundle) (b : Bundle)
    (q : s.Still y.core) (w : WholeSyl y s) (hl : (info (s.arch y.core)).legal = true) (hf : (info (s.arch y.core)).fpSync = false)
    (hb : eff (s.core y.core) (Bundle.empty.count y (info (s.arch y.core))) = b)
    (h : b.isIllegal (s.arch y.core).pc true = false)
    (he : b.exc = none) (hm : b.mem = []) (ho : b.bop = none) (ha : b.atom = none) (hi : b.ind = false) :
    s.syllable y info eff =
      s.modCore y.core (fun k => Core.tick { (k.clear.issue b [] [] none) with
        arch := { k.arch.setFl b.fl with pc := k.arch.pc + BitVec.ofNat 64 (4 * b.syls) } }) := by
  obtain ⟨runs, split, bundle, pend, ctl, longs, undo, fetched, waiting, loop, inject, step, watched, debug, trace, stream⟩ := q
  have hlead : s.leadOf y.core = y.core := by simp [State.leadOf, split]
  have hiss : s.issues y.core = true := by
    simp [State.issues, runs, hlead, State.outsideWait, split, undo, waiting, watched]
  have hbr : s.breakHere y.core = false := by simp [State.breakHere, debug]
  simp only [State.arch] at hl hf hb h
  simp only [State.syllable, goOn_none s _ waiting, hiss, hbr, inject, owed_none _ longs, stallFor_none _ _ _ longs, holdFor_none _ _ longs, hf, hl, bundle, hb, w.stop,
    Bool.not_true, Bool.false_or, Bool.true_or, Bool.false_eq_true, ↓reduceIte]
  have key := commitBundle_plain (s.setCore y.core { s.core y.core with bundle := b }) y.core b
    split (by simpa using ctl) (by simpa using loop) (by simpa using inject)
    ((invasive_setCore s y.core { s.core y.core with bundle := b } rfl).trans debug) trace stream
    (by simp) (by simpa [State.arch] using h) he hm ho ha hi
  rw [complete_plain _ _ s y.core true (by simpa using hm) (by simpa using fetched) key]
  simp only [State.modCore, State.core_setCore, State.setCore_setCore]
  have hst : ∀ t : State, (t.core y.core).dbg.stepping = false → t.stepEnd y.core = t := by
    intro t ht; simp [State.stepEnd, ht]
  rw [hst]
  · congr 3
    simp [Core.nextPc, inject]
  · rw [State.core_setCore, tick_noctl]
    · exact step
    · exact ctl

/-- A result lands without touching the pc. -/
theorem put_pc (a : CoreArch) (d : Dst) (v : BitVec 128) (p : Word) :
    CoreArch.put { a with pc := p } d v = { CoreArch.put a d v with pc := p } := by
  cases d <;> simp [CoreArch.put]
  split <;> rfl

theorem landAll_pc (ws : List PendWrite) (a : CoreArch) (p : Word) :
    landAll { a with pc := p } ws = { landAll a ws with pc := p } := by
  induction ws generalizing a with
  | nil => rfl
  | cons w ws ih =>
    simp only [landAll, List.foldl_cons] at *
    rw [put_pc]
    exact ih { (a.put w.dst w.val) with fpc := (a.put w.dst w.val).fpc ||| (BitVec.ofNat 64 w.flags.toNat <<< 8) }

/-- Results that have all become visible land together. -/
theorem landDue_all (k : Core) (h : ∀ p ∈ k.pend, p.due ≤ k.bn) :
    k.landDue = { k with arch := landAll k.arch k.pend, pend := [] } := by
  have h1 : k.pend.filter (fun p => decide (p.due ≤ k.bn)) = k.pend := by
    apply List.filter_eq_self.mpr; intro p hp; simpa using h p hp
  have h2 : k.pend.filter (fun p => !(decide (p.due ≤ k.bn))) = [] := by
    apply List.filter_eq_nil_iff.mpr; intro p hp; simpa using h p hp
  simp [Core.landDue, h1, h2]

/-- Results that have not become visible stay on their way. -/
theorem landDue_none (k : Core) (h : ∀ p ∈ k.pend, k.bn < p.due) : k.landDue = k := by
  have h1 : k.pend.filter (fun p => decide (p.due ≤ k.bn)) = [] := by
    apply List.filter_eq_nil_iff.mpr; intro p hp; have := h p hp; simp; omega
  have h2 : k.pend.filter (fun p => !(decide (p.due ≤ k.bn))) = k.pend := by
    apply List.filter_eq_self.mpr; intro p hp; have := h p hp; simp; omega
  have h3 : k.pend.filter (fun p => !(p.stale k.pend [])) = k.pend := by
    apply List.filter_eq_self.mpr; intro p hp; unfold PendWrite.stale; cases p.dst <;> rfl
  simp [Core.landDue, h1, h2, h3, landAll]

/-- A whole syllable whose results are visible for the next bundle. -/
theorem syllable_now (s : State) (y : Syl) (info : CoreArch → SylInfo) (eff : Core → Bundle → Bundle) (b : Bundle)
    (q : s.Still y.core) (w : WholeSyl y s) (hl : (info (s.arch y.core)).legal = true) (hf : (info (s.arch y.core)).fpSync = false)
    (hb : eff (s.core y.core) (Bundle.empty.count y (info (s.arch y.core))) = b)
    (h : b.isIllegal (s.arch y.core).pc true = false)
    (he : b.exc = none) (hm : b.mem = []) (ho : b.bop = none) (ha : b.atom = none) (hi : b.ind = false)
    (hw : ∀ p ∈ b.writes, p.due ≤ (s.core y.core).bn + 1) :
    s.syllable y info eff = s.retired y.core b.syls (landAll ((s.arch y.core).setFl b.fl) b.writes) [] b.longs := by
  rw [syllable_plain s y info eff b q w hl hf hb h he hm ho ha hi]
  simp only [State.modCore, State.retired, State.arch]
  congr 1
  rw [tick_noctl _ (by simpa [Core.issue, Core.clear] using q.ctl), landDue_all]
  · simp [Core.issue, Core.clear, q.pend, q.longs, q.bundle, q.undo, landAll_pc]
  · intro p hp
    simp only [Core.issue, Core.clear, q.pend, List.nil_append, List.append_nil] at hp
    exact hw p hp

/-- A whole syllable whose results become visible later than for the next bundle. -/
theorem syllable_later (s : State) (y : Syl) (info : CoreArch → SylInfo) (eff : Core → Bundle → Bundle) (b : Bundle)
    (q : s.Still y.core) (w : WholeSyl y s) (hl : (info (s.arch y.core)).legal = true) (hf : (info (s.arch y.core)).fpSync = false)
    (hb : eff (s.core y.core) (Bundle.empty.count y (info (s.arch y.core))) = b)
    (h : b.isIllegal (s.arch y.core).pc true = false)
    (he : b.exc = none) (hm : b.mem = []) (ho : b.bop = none) (ha : b.atom = none) (hi : b.ind = false)
    (hw : ∀ p ∈ b.writes, (s.core y.core).bn + 1 < p.due) :
    s.syllable y info eff = s.retired y.core b.syls ((s.arch y.core).setFl b.fl) b.writes b.longs := by
  rw [syllable_plain s y info eff b q w hl hf hb h he hm ho ha hi]
  simp only [State.modCore, State.retired, State.arch]
  congr 1
  rw [tick_noctl _ (by simpa [Core.issue, Core.clear] using q.ctl), landDue_none]
  · simp [Core.issue, Core.clear, q.pend, q.longs, q.bundle, q.undo]
  · intro p hp
    simp only [Core.issue, Core.clear, q.pend, List.nil_append, List.append_nil] at hp
    exact hw p hp

/-- One result without flags lands. -/
theorem landAll_one (a : CoreArch) (d : Dst) (v : BitVec 128) (n : Nat) : landAll a [⟨d, v, n, 0#5⟩] = a.put d v := by
  simp [landAll]

/-- What makes a bundle legal that has been counted without a fault (R184). -/
theorem isIllegal_false (pc : Word) (b : Bundle) (h : pc.toNat % 64 / 4 + b.syls ≤ 16) (hn : b.syls ≤ 6)
    (h0 : b.illegal = false) (h1 : b.nI ≤ 2) (h2 : b.nM ≤ 2) (h3 : b.nX ≤ 1) (h4 : b.nB ≤ 1) (h5 : b.alone = false)
    (h6 : noDup (b.dsts.filter (fun d => decide (d ≠ .g 0))) = true) (h7 : b.flWriters ≤ 1) :
    b.isIllegal pc true = false := by
  have e1 : ¬ 2 < b.nI := by omega
  have e2 : ¬ 2 < b.nM := by omega
  have e3 : ¬ 1 < b.nX := by omega
  have e4 : ¬ 1 < b.nB := by omega
  have e5 : ¬ 6 < b.syls := by omega
  have e6 : ¬ 16 < pc.toNat % 64 / 4 + b.syls := by omega
  have e7 : ¬ 1 < b.flWriters := by omega
  simp only [Bundle.isIllegal, h0, e1, e2, e3, e4, h5, e5, e6, h6, e7]
  simp

/-- A list of one register has no two equal members, whatever register it is. -/
theorem noDup_one (d : Dst) : noDup ([d].filter (fun x => decide (x ≠ .g 0))) = true := by
  by_cases h : d = .g 0 <;> simp [h, noDup]

theorem iRRR_now (s : State) (y : Syl) (d a b : BitVec 6) (f : Word → Word → Word) (q : s.Still y.core) (w : WholeSyl y s)
    (he : y.ext = []) :
    s.iRRR y d a b true f =
      s.retired y.core 1 ((s.arch y.core).gput d (f ((s.arch y.core).gval a) ((s.arch y.core).gval b))) [] [] := by
  unfold State.iRRR
  rw [syllable_now s y _ _ _ q w rfl rfl rfl]
  · simp [Bundle.wr, Bundle.count, he, Bundle.empty, CoreArch.setFl, CoreArch.gput, State.arch, landAll_one]
  · have hf := w.fits
    refine isIllegal_false _ _ ?_ ?_ ?_ ?_ ?_ ?_ ?_ ?_ (noDup_one _) ?_ <;>
      simp_all [Bundle.wr, Bundle.count, Bundle.empty, State.arch]
  all_goals simp [Bundle.wr, Bundle.count, Bundle.empty]

theorem iRRI_now (s : State) (y : Syl) (d a : BitVec 6) (ext : Bool) (f : Word → Word) (q : s.Still y.core)
    (w : WholeSyl y s) (he : ext = false → y.ext = []) :
    s.iRRI y d a ext true f =
      s.retired y.core (1 + y.ext.length) ((s.arch y.core).gput d (f ((s.arch y.core).gval a))) [] [] := by
  have hx := w.ext
  have h0 : ¬ 2 < y.ext.length := by omega
  unfold State.iRRI
  rw [syllable_now s y _ _ _ q w rfl rfl rfl]
  · simp [Bundle.wr, Bundle.count, Bundle.empty, CoreArch.setFl, CoreArch.gput, State.arch, landAll_one]
  · have hf := w.fits
    refine isIllegal_false _ _ ?_ ?_ ?_ ?_ ?_ ?_ ?_ ?_ (noDup_one _) ?_ <;>
      simp_all [Bundle.wr, Bundle.count, Bundle.empty, State.arch]
    · omega
    · cases ext <;> simp_all
  all_goals simp [Bundle.wr, Bundle.count, Bundle.empty]

theorem iFlag_now (s : State) (y : Syl) (d a b : BitVec 6) (f : CoreArch → Word → Word → AddRes) (q : s.Still y.core)
    (w : WholeSyl y s) (he : y.ext = []) :
    s.iFlag y d a b f =
      (let r := s.arch y.core
       let v := f r (r.gval a) (r.gval b)
       s.retired y.core 1 (CoreArch.gput { r with flC := v.c, flOV := r.flOV || v.ov } d v.val) [] []) := by
  unfold State.iFlag
  rw [syllable_now s y _ _ _ q w rfl rfl rfl]
  · simp [Bundle.wr, Bundle.flags, Bundle.count, he, Bundle.empty, CoreArch.setFl, CoreArch.gput, CoreArch.gdst, State.arch, landAll_one]
  · have hf := w.fits
    refine isIllegal_false _ _ ?_ ?_ ?_ ?_ ?_ ?_ ?_ ?_ (noDup_one _) ?_ <;>
      simp_all [Bundle.wr, Bundle.flags, Bundle.count, Bundle.empty, State.arch]
  all_goals simp [Bundle.wr, Bundle.flags, Bundle.count, Bundle.empty]

end Sys2Proof.Machine
end

