-- ==== Sys2Proof/Laws/Sparse.lean ====
section
/-! SUPPORT. The laws of the sparse stores: a read after a write, the other keys, and that a write keeps the one form. -/

namespace Sys2Proof.Machine

variable {α : Type}

@[simp] theorem sparseGet_nil (d : α) (k : Nat) : sparseGet d k [] = d := rfl

/-- A key below every key listed reads the default. -/
theorem sparseGet_above (d : α) (k : Nat) (l : List (Nat × α)) (h : keysAbove k l = true) : sparseGet d k l = d := by
  induction l with
  | nil => rfl
  | cons e t ih =>
    simp only [keysAbove, List.all_cons, Bool.and_eq_true, decide_eq_true_eq] at h
    simp only [sparseGet, Nat.ne_of_gt h.1, ↓reduceIte]
    exact ih h.2

theorem keysAbove_mono {j k : Nat} {l : List (Nat × α)} (h : keysAbove k l = true) (hj : j ≤ k) : keysAbove j l = true := by
  simp only [keysAbove, List.all_eq_true, decide_eq_true_eq] at h ⊢
  exact fun e he => Nat.lt_of_le_of_lt hj (h e he)

variable [DecidableEq α]

/-- What a store in its one form gives for the key just written. -/
theorem sparseGet_put_self (d : Nat → α) (k : Nat) (v : α) (l : List (Nat × α)) (h : sparseWf d l = true) :
    sparseGet (d k) k (sparsePut (d k) k v l) = v := by
  induction l with
  | nil => by_cases e : v = d k <;> simp [sparsePut, sparseGet, e]
  | cons e t ih =>
    simp only [sparseWf, Bool.and_eq_true, decide_eq_true_eq] at h
    obtain ⟨⟨hk, -⟩, ht⟩ := h
    rcases Nat.lt_trichotomy k e.1 with c | c | c
    · have hg : sparseGet (d k) k (e :: t) = d k :=
        sparseGet_above _ _ _ (by simpa [keysAbove, c] using fun a b hab => Nat.lt_trans c (by simpa [keysAbove] using (List.all_eq_true.mp hk) (a, b) hab))
      by_cases e1 : v = d k
      · simp only [sparsePut, c, ↓reduceIte, e1, hg]
      · simp [sparsePut, c, e1, sparseGet]
    · subst c
      by_cases e1 : v = d e.1
      · simp only [sparsePut, Nat.lt_irrefl, ↓reduceIte, e1, sparseGet_above _ _ _ hk]
      · simp only [sparsePut, Nat.lt_irrefl, ↓reduceIte, e1, sparseGet]
    · simp only [sparsePut, Nat.not_lt.mpr (Nat.le_of_lt c), Nat.ne_of_gt c, Nat.ne_of_lt c, ↓reduceIte, sparseGet]
      exact ih ht

/-- Another key reads as before. -/
theorem sparseGet_put_ne (d d' : α) (j k : Nat) (v : α) (l : List (Nat × α)) (hne : j ≠ k) :
    sparseGet d' j (sparsePut d k v l) = sparseGet d' j l := by
  induction l with
  | nil => by_cases e : v = d <;> simp [sparsePut, sparseGet, e, Ne.symm hne]
  | cons e t ih =>
    simp only [sparsePut]
    split
    · by_cases e1 : v = d <;> simp [e1, sparseGet, Ne.symm hne]
    · split
      · rename_i _ c
        by_cases e1 : v = d <;> simp [e1, sparseGet, Ne.symm hne, ← c]
      · simp only [sparseGet, ih]

theorem keysAbove_put (d : α) (j k : Nat) (v : α) (l : List (Nat × α)) (h : keysAbove j l = true) (hj : j < k) :
    keysAbove j (sparsePut d k v l) = true := by
  induction l with
  | nil => by_cases e : v = d <;> simp [sparsePut, keysAbove, e, hj]
  | cons e t ih =>
    have h' := h
    simp only [keysAbove, List.all_cons, Bool.and_eq_true, decide_eq_true_eq] at h'
    have ih' := ih h'.2
    simp only [sparsePut]
    split
    · by_cases e1 : v = d <;> simp only [e1, ↓reduceIte]
      · exact h
      · simpa [keysAbove, hj] using h
    · split
      · by_cases e1 : v = d <;> simp only [e1, ↓reduceIte]
        · exact h'.2
        · simpa [keysAbove, hj] using h'.2
      · simpa [keysAbove, h'.1] using ih'

/-- A write keeps the one form. -/
theorem sparseWf_put (d : Nat → α) (k : Nat) (v : α) (l : List (Nat × α)) (h : sparseWf d l = true) :
    sparseWf d (sparsePut (d k) k v l) = true := by
  induction l with
  | nil => by_cases e : v = d k <;> simp [sparsePut, sparseWf, keysAbove, e]
  | cons e t ih =>
    have h' := h
    simp only [sparseWf, Bool.and_eq_true, decide_eq_true_eq] at h'
    obtain ⟨⟨hk, hv⟩, ht⟩ := h'
    rcases Nat.lt_trichotomy k e.1 with c | c | c
    · by_cases e1 : v = d k
      · simpa only [sparsePut, c, ↓reduceIte, e1] using h
      · have : keysAbove k (e :: t) = true := by
          simp only [keysAbove, List.all_cons, c, decide_true, Bool.true_and]
          exact keysAbove_mono hk (Nat.le_of_lt c)
        simp only [sparsePut, c, ↓reduceIte, e1]
        rw [sparseWf, this, h]
        simp [e1]
    · subst c
      by_cases e1 : v = d e.1
      · simpa only [sparsePut, Nat.lt_irrefl, ↓reduceIte, e1] using ht
      · simp only [sparsePut, Nat.lt_irrefl, ↓reduceIte, e1, sparseWf, hk, ht, ne_eq, not_false_eq_true, decide_true, Bool.and_self]
    · simp only [sparsePut, Nat.not_lt.mpr (Nat.le_of_lt c), Nat.ne_of_gt c, ↓reduceIte, sparseWf]
      simp [keysAbove_put _ _ _ _ _ hk c, hv, ih ht]

/-- Two stores in their one form that read the same everywhere are the same list. -/
theorem sparse_ext (d : Nat → α) (l m : List (Nat × α)) (hl : sparseWf d l = true) (hm : sparseWf d m = true)
    (h : ∀ k, sparseGet (d k) k l = sparseGet (d k) k m) : l = m := by
  induction l generalizing m with
  | nil =>
    cases m with
    | nil => rfl
    | cons e t =>
      simp only [sparseWf, Bool.and_eq_true, decide_eq_true_eq] at hm
      exact absurd (by simpa [sparseGet] using (h e.1).symm) hm.1.2
  | cons e t ih =>
    have hl' := hl
    simp only [sparseWf, Bool.and_eq_true, decide_eq_true_eq] at hl'
    obtain ⟨⟨ek, ev⟩, et⟩ := hl'
    cases m with
    | nil => exact absurd (by simpa [sparseGet] using h e.1) ev
    | cons f u =>
      have hm' := hm
      simp only [sparseWf, Bool.and_eq_true, decide_eq_true_eq] at hm'
      obtain ⟨⟨fk, fv⟩, fu⟩ := hm'
      have key : e.1 = f.1 := by
        rcases Nat.lt_trichotomy e.1 f.1 with c | c | c
        · have := h e.1
          rw [sparseGet_above _ _ (f :: u) (by
            simp only [keysAbove, List.all_cons, c, decide_true, Bool.true_and]
            exact keysAbove_mono fk (Nat.le_of_lt c))] at this
          exact absurd (by simpa [sparseGet] using this) ev
        · exact c
        · have := h f.1
          rw [sparseGet_above _ _ (e :: t) (by
            simp only [keysAbove, List.all_cons, c, decide_true, Bool.true_and]
            exact keysAbove_mono ek (Nat.le_of_lt c))] at this
          exact absurd (by simpa [sparseGet] using this.symm) fv
      have val : e.2 = f.2 := by simpa [sparseGet, key] using h e.1
      have he : e = f := Prod.ext key val
      subst he
      congr 1
      refine ih u et fu (fun k => ?_)
      by_cases c : k = e.1
      · subst c
        rw [sparseGet_above _ _ _ ek, sparseGet_above _ _ _ fk]
      · simpa [sparseGet, Ne.symm c] using h k

end Sys2Proof.Machine
end

