-- ==== Sys2Proof/Laws/Registers.lean ====
section
/-! SUPPORT. The laws of the named operations over registers, memory and sources: read after write, what is left alone, and
that each keeps the stores in their one form. -/

namespace Sys2Proof.Machine
set_option Elab.async false

/-! Registers. -/

theorem regKey_inj {b o p : Nat} (ho : o < 4096) (hp : p < 4096) (c : Nat) :
    regKey b o = regKey c p ↔ b = c ∧ o / 8 = p / 8 := by
  simp only [regKey]; omega

/-- A register reads what was last written to it. -/
theorem rget_rput_self (s : State) (b o : Nat) (v : Word) (h : s.regsWf = true) : (s.rput b o v).rget b o = v :=
  sparseGet_put_self regDefault _ v s.regs h

/-- Every other register reads as before. -/
theorem rget_rput_ne (s : State) (b o c p : Nat) (v : Word) (h : regKey c p ≠ regKey b o) :
    (s.rput b o v).rget c p = s.rget c p :=
  sparseGet_put_ne _ _ _ _ v s.regs h

theorem regsWf_rput (s : State) (b o : Nat) (v : Word) (h : s.regsWf = true) : (s.rput b o v).regsWf = true :=
  sparseWf_put regDefault _ v s.regs h

theorem regsWf_fset (s : State) (b : Nat) (f : Fld) (v : Nat) (h : s.regsWf = true) : (s.fset b f v).regsWf = true :=
  regsWf_rput _ _ _ _ h

/-- The mask of the bits `hi` to `lo`, bit by bit. -/
theorem maskBits_bit (hi lo i : Nat) (hl : lo ≤ hi) (hh : hi < 64) :
    (maskBits hi lo).getLsbD i = (decide (lo ≤ i) && decide (i ≤ hi)) := by
  rw [Bool.eq_iff_iff]
  simp only [maskBits, BitVec.getLsbD_shiftLeft, BitVec.getLsbD_ushiftRight, BitVec.getLsbD_allOnes, Bool.and_eq_true,
    decide_eq_true_eq, Bool.not_eq_true', decide_eq_false_iff_not]
  omega

/-- A field reads what was last written to it, cut to its width. -/
theorem fget_fset_self (s : State) (b : Nat) (f : Fld) (v : Nat) (h : s.regsWf = true) (hl : f.lo ≤ f.hi) (hh : f.hi < 64) :
    (s.fset b f v).fget b f = v % 2 ^ (f.hi + 1 - f.lo) := by
  simp only [State.fget, State.fset, rget_rput_self _ _ _ _ h, bits]
  apply Nat.eq_of_testBit_eq
  intro i
  simp only [Nat.testBit_mod_two_pow, Nat.testBit_shiftRight, BitVec.testBit_toNat, BitVec.getLsbD_or, BitVec.getLsbD_and,
    BitVec.getLsbD_not, BitVec.getLsbD_shiftLeft, maskBits_bit _ _ _ hl hh]
  by_cases c : i < f.hi + 1 - f.lo
  · have h1 : f.lo ≤ f.lo + i := by omega
    have h2 : f.lo + i ≤ f.hi := by omega
    have h3 : f.lo + i < 64 := by omega
    have h4 : ¬ f.lo + i < f.lo := by omega
    have h5 : i < 64 := by omega
    simp [c, h1, h2, h3, h4, h5, - BitVec.getLsbD_eq_getElem, BitVec.getLsbD_ofNat]
  · simp [c]

/-- A field of the same register that shares no bit with the one written reads as before. -/
theorem fget_fset_apart (s : State) (b : Nat) (f g : Fld) (v : Nat) (h : s.regsWf = true) (ho : regKey b g.off = regKey b f.off)
    (hl : f.lo ≤ f.hi) (hh : f.hi < 64) (hg : g.hi < 64) (ha : g.hi < f.lo ∨ f.hi < g.lo) :
    (s.fset b f v).fget b g = s.fget b g := by
  have e : (s.fset b f v).rget b g.off = (s.fset b f v).rget b f.off := by simp only [State.rget, ho]
  have e' : s.rget b g.off = s.rget b f.off := by simp only [State.rget, ho]
  simp only [State.fget, e, e']
  simp only [State.fset, rget_rput_self _ _ _ _ h, bits]
  apply Nat.eq_of_testBit_eq
  intro i
  simp only [Nat.testBit_mod_two_pow, Nat.testBit_shiftRight, BitVec.testBit_toNat, BitVec.getLsbD_or, BitVec.getLsbD_and,
    BitVec.getLsbD_not, BitVec.getLsbD_shiftLeft, maskBits_bit _ _ _ hl hh]
  by_cases c : i < g.hi + 1 - g.lo
  · have h3 : g.lo + i < 64 := by omega
    have h6 : ¬ f.lo ≤ g.lo + i ∨ ¬ g.lo + i ≤ f.hi := by omega
    rcases h6 with h7 | h7 <;> simp [c, h3, h7]
  · simp [c]

/-- A field of another register reads as before. -/
theorem fget_fset_ne (s : State) (b c : Nat) (f g : Fld) (v : Nat) (h : regKey c g.off ≠ regKey b f.off) :
    (s.fset b f v).fget c g = s.fget c g := by
  simp only [State.fget, State.fset, rget_rput_ne _ _ _ _ _ _ h]

/-! Memory of the cistern. -/

/-- A byte reads what was last stored to it. -/
theorem locByte_set_self (s : State) (l : Nat) (v : Byte) (h : s.memWf = true) : (s.setLocByte l v).locByte l = v :=
  sparseGet_put_self (fun _ => (0 : Byte)) l v s.mem h

/-- Every other byte reads as before. -/
theorem locByte_set_ne (s : State) (l m : Nat) (v : Byte) (h : m ≠ l) : (s.setLocByte l v).locByte m = s.locByte m :=
  sparseGet_put_ne _ _ _ _ v s.mem h

theorem memWf_setLocByte (s : State) (l : Nat) (v : Byte) (h : s.memWf = true) : (s.setLocByte l v).memWf = true :=
  sparseWf_put (fun _ => (0 : Byte)) l v s.mem h

/-- A fold of changes keeps what each change keeps. -/
theorem foldl_keeps {α : Type} (P : State → Prop) (f : State → α → State) (hf : ∀ t x, P t → P (f t x)) (l : List α) (s : State)
    (h : P s) : P (l.foldl f s) := by
  induction l generalizing s with
  | nil => exact h
  | cons x t ih => exact ih _ (hf _ _ h)

theorem foldL_keeps {α : Type} (P : State → Prop) (l : List α) (f : α → State → State) (hf : ∀ x t, P t → P (f x t)) (s : State)
    (h : P s) : P (foldL l f s) :=
  foldl_keeps P (fun t x => f x t) (fun t x => hf x t) l s h

theorem foldN_keeps (P : State → Prop) (n : Nat) (f : Nat → State → State) (hf : ∀ x t, P t → P (f x t)) (s : State)
    (h : P s) : P (foldN n f s) :=
  foldl_keeps P (fun t i => f i t) (fun t x => hf x t) (List.range n) s h

theorem memWf_setLocWord (s : State) (l : Nat) (v : Word) (h : s.memWf = true) : (s.setLocWord l v).memWf = true :=
  foldl_keeps (fun t => t.memWf = true) _ (fun _ _ ht => memWf_setLocByte _ _ _ ht) _ _ h

@[simp] theorem setWordPoison_mem (s : State) (l : Nat) (p : Bool) : (s.setWordPoison l p).mem = s.mem := by
  simp only [State.setWordPoison]; split <;> rfl

@[simp] theorem setWordPoison_regs (s : State) (l : Nat) (p : Bool) : (s.setWordPoison l p).regs = s.regs := by
  simp only [State.setWordPoison]; split <;> rfl

@[simp] theorem setWordPoison_srcs (s : State) (l : Nat) (p : Bool) : (s.setWordPoison l p).srcs = s.srcs := by
  simp only [State.setWordPoison]; split <;> rfl

/-! Sources of the hub. -/

theorem src_set_self (s : State) (n : Nat) (v : Source) (h : s.srcsWf = true) : (s.setSrc n v).src n = v :=
  sparseGet_put_self Source.dfltGlobal n v s.srcs h

theorem src_set_ne (s : State) (n m : Nat) (v : Source) (h : m ≠ n) : (s.setSrc n v).src m = s.src m :=
  sparseGet_put_ne _ _ _ _ v s.srcs h

theorem srcsWf_setSrc (s : State) (n : Nat) (v : Source) (h : s.srcsWf = true) : (s.setSrc n v).srcsWf = true :=
  sparseWf_put Source.dfltGlobal n v s.srcs h

/-! The three stores together: the invariant of Safety.lean. -/

theorem wf_iff (s : State) : s.wf = true ↔ s.memWf = true ∧ s.regsWf = true ∧ s.srcsWf = true := by
  simp [State.wf, and_assoc]

/-- A change of other fields keeps the stores. -/
theorem wf_of_eq {s t : State} (hm : t.mem = s.mem) (hr : t.regs = s.regs) (hs : t.srcs = s.srcs) (h : s.wf = true) :
    t.wf = true := by
  simpa only [State.wf, State.memWf, State.regsWf, State.srcsWf, hm, hr, hs] using h

theorem wf_rput (s : State) (b o : Nat) (v : Word) (h : s.wf = true) : (s.rput b o v).wf = true := by
  rw [wf_iff] at h ⊢; exact ⟨h.1, regsWf_rput _ _ _ _ h.2.1, h.2.2⟩

theorem wf_fset (s : State) (b : Nat) (f : Fld) (v : Nat) (h : s.wf = true) : (s.fset b f v).wf = true := wf_rput _ _ _ _ h

theorem wf_addCtr (s : State) (b : Nat) (f : Fld) (n : Nat) (h : s.wf = true) : (s.addCtr b f n).wf = true := wf_rput _ _ _ _ h

theorem wf_bump (s : State) (b : Nat) (f : Fld) (h : s.wf = true) : (s.bump b f).wf = true := wf_rput _ _ _ _ h

theorem wf_setEvt (s : State) (b : Nat) (f : Fld) (i : Nat) (h : s.wf = true) : (s.setEvt b f i).wf = true := wf_rput _ _ _ _ h

theorem wf_setReady (s : State) (n : Nat) (v : Bool) (h : s.wf = true) : (s.setReady n v).wf = true := by
  simp only [State.setReady]
  split
  · exact h
  · exact wf_rput _ _ _ _ (wf_rput _ _ _ _ h)

theorem wf_setLocByte (s : State) (l : Nat) (v : Byte) (h : s.wf = true) : (s.setLocByte l v).wf = true := by
  rw [wf_iff] at h ⊢; exact ⟨memWf_setLocByte _ _ _ h.1, h.2.1, h.2.2⟩

theorem wf_setLocWord (s : State) (l : Nat) (v : Word) (h : s.wf = true) : (s.setLocWord l v).wf = true :=
  foldl_keeps (fun t => t.wf = true) _ (fun _ _ ht => wf_setLocByte _ _ _ ht) _ _ h

theorem wf_setWordPoison (s : State) (l : Nat) (p : Bool) (h : s.wf = true) : (s.setWordPoison l p).wf = true :=
  wf_of_eq (setWordPoison_mem _ _ _) (setWordPoison_regs _ _ _) (setWordPoison_srcs _ _ _) h

theorem wf_setSrc (s : State) (n : Nat) (v : Source) (h : s.wf = true) : (s.setSrc n v).wf = true := by
  rw [wf_iff] at h ⊢; exact ⟨h.1, h.2.1, srcsWf_setSrc _ _ _ h.2.2⟩

theorem wf_setCore (s : State) (c : CoreId) (k : Core) (h : s.wf = true) : (s.setCore c k).wf = true := h

theorem wf_modCore (s : State) (c : CoreId) (f : Core → Core) (h : s.wf = true) : (s.modCore c f).wf = true := h

theorem wf_setCrnState (s : State) (c : CoreId) (v : Nat) (h : s.wf = true) : (s.setCrnState c v).wf = true := by
  simp only [State.setCrnState]; split <;> exact wf_fset _ _ _ _ h

theorem wf_setPwr (s : State) (pd v : Nat) (h : s.wf = true) : (s.setPwr pd v).wf = true := wf_fset _ _ _ _ h

theorem reset_wf : State.reset.wf = true := rfl

/-! The Pool SRAM: a byte reads what was last stored to it, every other byte as before. -/

/-- What a list of SRAM bytes holds for an offset. -/
theorem sramPut_self (k : Nat) (b : Byte) (l : List (Nat × Byte)) :
    ((sramPut k b l).find? (fun e => e.1 == k)) = some (k, b) := by
  induction l with
  | nil => simp [sramPut]
  | cons e t ih =>
    simp only [sramPut]
    split
    · simp
    · split
      · simp
      · rename_i _ h2
        simp [Ne.symm h2, ih]

theorem sramPut_ne (k j : Nat) (b : Byte) (l : List (Nat × Byte)) (h : j ≠ k) :
    ((sramPut k b l).find? (fun e => e.1 == j)) = l.find? (fun e => e.1 == j) := by
  induction l with
  | nil => simp [sramPut, Ne.symm h]
  | cons e t ih =>
    simp only [sramPut]
    split
    · simp [List.find?_cons, Ne.symm h]
    · split
      · rename_i _ h2
        simp [Ne.symm h, ← h2]
      · simp [List.find?_cons, ih]

/-! Units of which the state holds a fixed number. -/

@[simp] theorem pair_modPair (s : State) (p : Fin 16) (f : Pair → Pair) : (s.modPair p f).pair p = f (s.pair p) := by
  simp [State.pair, State.modPair]

theorem pair_modPair_ne (s : State) (p q : Fin 16) (f : Pair → Pair) (h : q ≠ p) : (s.modPair p f).pair q = s.pair q := by
  simp [State.pair, State.modPair, vector_get_set_ne _ _ _ _ h]

@[simp] theorem slice_modSlice (s : State) (p : SliceId) (f : Slice → Slice) : (s.modSlice p f).slice p = f (s.slice p) := by
  simp [State.slice, State.modSlice]

theorem slice_modSlice_ne (s : State) (p q : SliceId) (f : Slice → Slice) (h : q ≠ p) : (s.modSlice p f).slice q = s.slice q := by
  simp [State.slice, State.modSlice, vector_get_set_ne _ _ _ _ h]

@[simp] theorem stage_modStage (s : State) (k : StageId) (f : Stage → Stage) : (s.modStage k f).stage k = f (s.stage k) := by
  simp [State.stage, State.modStage]

theorem stage_modStage_ne (s : State) (k j : StageId) (f : Stage → Stage) (h : j ≠ k) : (s.modStage k f).stage j = s.stage j := by
  simp [State.stage, State.modStage, vector_get_set_ne _ _ _ _ h]

@[simp] theorem mac_modMac (s : State) (m : MacId) (f : Mac → Mac) : (s.modMac m f).mac m = f (s.mac m) := by
  simp [State.mac, State.modMac]

theorem mac_modMac_ne (s : State) (m n : MacId) (f : Mac → Mac) (h : n ≠ m) : (s.modMac m f).mac n = s.mac n := by
  simp [State.mac, State.modMac, vector_get_set_ne _ _ _ _ h]

@[simp] theorem chan_modChan (s : State) (c : ChanId) (f : Chan → Chan) : (s.modChan c f).chan c = f (s.chan c) := by
  simp [State.chan, State.modChan]

@[simp] theorem link_modLink (s : State) (l : LinkId) (f : RLink → RLink) : (s.modLink l f).link l = f (s.link l) := by
  simp [State.link, State.modLink]

theorem link_modLink_ne (s : State) (l m : LinkId) (f : RLink → RLink) (h : m ≠ l) : (s.modLink l f).link m = s.link m := by
  simp [State.link, State.modLink, vector_get_set_ne _ _ _ _ h]

end Sys2Proof.Machine
end

