-- ==== Sys2Proof/Laws/Keeps.lean ====
section
/-! SUPPORT. The operations that many commands share keep the stores in their one form: events of sources, error records,
discarded stages, basin and device resets, write-backs to the cistern, stored words. -/

namespace Sys2Proof.Machine
set_option Elab.async false

theorem wf_setPriv (s : State) (c : CoreId) (n : Nat) (v : Source) (h : s.wf = true) : (s.setPriv c n v).wf = true := h

theorem wf_countEvent (s : State) (c : CoreId) (n : Nat) (h : s.wf = true) : (s.countEvent c n).wf = true := by
  simp only [State.countEvent]
  split
  · exact h
  · split <;> split <;> first | exact wf_bump _ _ _ h | exact h | exact wf_bump _ _ _ (wf_setSrc _ _ _ h) | exact wf_setSrc _ _ _ h

theorem wf_pulse (s : State) (n : Nat) (h : s.wf = true) : (s.pulse n).wf = true := by
  simp only [State.pulse]
  split
  · exact wf_countEvent _ _ _ (wf_countEvent _ _ _ h)
  · exact wf_countEvent _ _ _ h

theorem wf_setStg (s : State) (k : StageId) (f : Fld) (v : Nat) (h : s.wf = true) : (s.setStg k f v).wf = true := by
  simp only [State.setStg]; exact wf_fset _ _ _ _ h

theorem wf_modStage (s : State) (k : StageId) (f : Stage → Stage) (h : s.wf = true) : (s.modStage k f).wf = true :=
  wf_of_eq (s := s) (by simp) (by simp) (by simp) h

theorem wf_ite (c : Prop) [Decidable c] (x y : State) (hx : x.wf = true) (hy : y.wf = true) : (if c then x else y).wf = true := by
  split <;> assumption

theorem wf_discardStage (s : State) (k : StageId) (cause : Nat) (h : s.wf = true) : (s.discardStage k cause).wf = true := by
  have h1 := wf_setStg _ k Reg.SLU_STAGE_CAUSE cause (wf_setStg _ k Reg.SLU_STAGE_STATE stDISCARDED h)
  have h2 := wf_bump _ Blk.SLU Ctr.SLU_DISCARDED (wf_setEvt _ Blk.SLU Reg.SLU_DONE_SLOT k.val (wf_modStage _ k
    (fun g => { Stage.empty with txn := g.txn, origin := g.origin, t := g.t, scope := g.scope, arm := g.arm, edges := g.edges }) h1))
  simp only [State.discardStage]
  exact wf_ite _ _ _ (wf_fset _ _ _ _ h2) h2

theorem wf_diverge (s : State) (k : StageId) (h : s.wf = true) : (s.diverge k).wf = true := by
  simp only [State.diverge]; exact wf_fset _ _ _ _ (wf_setStg _ _ _ _ h)

theorem wf_basinReset (s : State) (b : BasinId) (h : s.wf = true) : (s.basinReset b).wf = true := by
  simp only [State.basinReset]
  refine wf_ite _ _ _ h (wf_setEvt _ _ _ _ (foldL_keeps (fun t => t.wf = true) _ _ (fun c t ht => wf_rput _ _ _ _ ht) _
    (foldL_keeps (fun t => t.wf = true) _ _ (fun n t ht => wf_ite _ _ _ (wf_setSrc _ _ _ ht) ht) _ ?_)))
  generalize hx : State.fset (State.fset _ _ _ _) _ _ _ = x
  refine wf_of_eq (s := x) rfl rfl rfl ?_
  rw [← hx]
  exact wf_fset _ _ _ _ (wf_fset _ _ _ _ (foldL_keeps (fun t => t.wf = true) _ _
    (fun k t ht => wf_ite _ _ _ (wf_ite _ _ _ (wf_diverge _ _ (wf_discardStage _ _ _ ht)) (wf_discardStage _ _ _ ht)) ht) _ h))

/-- Stores of which the cistern's bytes are kept and the rest is as at reset. -/
theorem wf_bare (s t : State) (hm : t.mem = s.mem) (hr : t.regs = []) (hs : t.srcs = []) (h : s.wf = true) : t.wf = true := by
  rw [wf_iff] at h ⊢
  exact ⟨by simpa only [State.memWf, hm] using h.1, by simp [State.regsWf, hr, sparseWf], by simp [State.srcsWf, hs, sparseWf]⟩

theorem wf_deviceReset (s : State) (cause : Nat) (h : s.wf = true) : (s.deviceReset cause).wf = true := by
  unfold State.deviceReset
  extract_lets n z c tb k r r1 r2 r3 r4 r5

  have h0 : r.wf = true := wf_bare s r rfl rfl rfl h
  have h1 : r1.wf = true := wf_fset _ _ _ _ h0
  have h2 : r2.wf = true := wf_fset _ _ _ _ h1
  have h3 : r3.wf = true := wf_fset _ _ _ _ (wf_fset _ _ _ _ h2)
  have h4 : r4.wf = true := wf_fset _ _ _ _ h3
  have h5 : r5.wf = true := wf_rput _ _ _ _ (wf_rput _ _ _ _ h4)
  exact wf_fset _ _ _ _ (wf_fset _ _ _ _ h5)

/-- An error record and what it brings. -/
theorem wf_errRecord (s : State) (e : ErrInfo) (h : s.wf = true) : (s.errRecord e).wf = true := by
  unfold State.errRecord
  extract_lets esc r s1 s2
  have h1 : s1.wf = true :=
    wf_ite _ _ _ (wf_bump _ _ _ (wf_of_eq (s := s) rfl rfl rfl h)) (wf_fset _ _ _ _ (wf_bump _ _ _ (wf_of_eq (s := s) rfl rfl rfl h)))
  have h2 : s2.wf = true := wf_bump _ _ _ (wf_fset _ _ _ _ h1)
  exact wf_ite _ _ _ (wf_ite _ _ _ (wf_deviceReset _ _ h2) (wf_basinReset _ _ h2)) h1

theorem wf_devError (s : State) (cls kind index : Nat) (basin : BasinId) (addr : Nat) (info : BitVec 16) (h : s.wf = true) :
    (s.devError cls kind index basin addr info).wf = true := by
  unfold State.devError
  exact wf_errRecord _ _ (wf_of_eq (s := s) rfl rfl rfl h)

/-- A line written back to the cistern or to the Pool SRAM. -/
theorem wf_backWrite (s : State) (line : Nat) (d : LineData) (p : BitVec 8) (h : s.wf = true) : (s.backWrite line d p).wf = true := by
  unfold State.backWrite
  split
  · split
    · exact foldl_keeps (fun t => t.wf = true) _ (fun _ _ ht => wf_setWordPoison _ _ _ ht) _ _
        (foldl_keeps (fun t => t.wf = true) _ (fun _ _ ht => wf_setLocByte _ _ _ ht) _ _ h)
    · exact h
    · exact wf_devError _ _ _ _ _ _ _ (wf_bump _ _ _ h)
  · exact wf_of_eq (s := s) rfl rfl rfl h

end Sys2Proof.Machine
end

