-- ==== Sys2Proof/Laws/PerInstr.lean ====
section
/-! SUPPORT. A statement for every command: the parts it carries (a syllable, a register access, a flit) are well formed when
the command is. One lemma per command. -/

namespace Sys2Proof.Laws.CarriedParts
set_option Elab.async false

/-- A part of a command that has a form of its own (R7, R169, R182). -/
inductive Part where
  | syl (y : Syl)
  | write (w : RegW)
  | read (r : RegR)
  | flit (f : Flit)
  | access (addr : BitVec 46) (size : Nat) (val : Word)

/-- The form of a part, in the spec's own terms. -/
def Part.good : Part → Prop
  | .syl y => y.ext.length ≤ 2
  | .write w => (w.wide = true → w.high = false) ∧ (w.wide = false → w.val.toNat < 2 ^ 32)
  | .read r => r.wide = true → r.high = false
  | .flit f => f.payload.length ≤ 240
  | .access addr size val => (size = 8 ∨ size = 4 ∧ val.toNat < 2 ^ 32) ∧ addr.toNat % size = 0

/-- The same form as the checks of WellFormed.lean compute it. -/
def Part.check : Part → Bool
  | .syl y => y.wf
  | .write w => w.wf
  | .read r => r.wf
  | .flit f => f.wf
  | .access addr size val => regWriteWf addr size val

theorem Part.good_of_check (p : Part) (h : p.check = true) : p.good := by
  cases p with
  | syl y => simpa [Part.check, Part.good, Syl.wf] using h
  | write w => rcases w with ⟨a, wide, b, v⟩; cases wide <;> simp_all [Part.check, Part.good, RegW.wf]
  | read r => rcases r with ⟨a, wide, b⟩; cases wide <;> simp_all [Part.check, Part.good, RegR.wf]
  | flit f => simpa [Part.check, Part.good, Flit.wf] using h
  | access a n v => simpa [Part.check, Part.good, regWriteWf] using h

/-- What a command carries. -/
def carried (i : Instr) : List Part :=
  match i with
  | .regWrite _ addr size val => [.access addr size val]
  | .laneReady _ => []
  | .laneLoss _ => []
  | .laneWithhold _ _ w => [.write w]
  | .anResolved _ _ _ _ => []
  | .anRestartTimer _ => []
  | .linkTrainingDone _ _ => []
  | .trainTimeout _ => []
  | .floorFailRetry _ => []
  | .floorFailRestore _ => []
  | .macLinkUp _ _ => []
  | .macLinkDown _ _ => []
  | .restart _ w => [.write w]
  | .rxFrameEnd _ _ _ _ _ => []
  | .rxCellExhausted _ _ => []
  | .rxFlowControlFrame _ _ => []
  | .pauseTimerExpire _ _ => []
  | .pfcThresholdRecheck _ => []
  | .flowControlFrameTx _ => []
  | .fcRefresh _ => []
  | .intake _ => []
  | .pTier _ => []
  | .kTier _ => []
  | .aTier _ => []
  | .saFetchDone _ _ _ => []
  | .jetDispatch _ _ _ => []
  | .jetOutputChecked _ => []
  | .rejoin _ => []
  | .vTier _ => []
  | .eTier _ => []
  | .mTier _ => []
  | .deepWrite => []
  | .deepStageRead _ => []
  | .injectDesc _ _ => []
  | .weirPick _ _ => []
  | .txFrameEnd _ _ => []
  | .txtsRead _ r => [.read r]
  | .mgdmaRxFrame _ => []
  | .mgdmaTxDesc _ => []
  | .mgdmaResume _ _ => []
  | .hello _ => []
  | .offer _ => []
  | .select _ => []
  | .confirm _ => []
  | .beat _ => []
  | .sppHelloTimer _ => []
  | .sppStepTimer _ => []
  | .sppBeatTimer _ => []
  | .sppBeatMiss _ => []
  | .sppRetryTimer _ => []
  | .reneg _ w => [.write w]
  | .downActChange _ w => [.write w]
  | .sppSlotTx _ => []
  | .bitStage w => [.write w]
  | .bitAbort w => [.write w]
  | .bitLoadEnd => []
  | .bootBitstreamLoad _ => []
  | .scCreate => []
  | .saInstall => []
  | .txSwitch => []
  | .saRetire => []
  | .saRemove => []
  | .scDelete => []
  | .slotInstall => []
  | .slotRemove => []
  | .query => []
  | .saNotAfter _ _ => []
  | .saEvtRead _ r => [.read r]
  | .saRegionInvalidate w => [.write w]
  | .jetFault _ => []
  | .jetRotation => []
  | .jetDrainEnd _ => []
  | .jetSelfTestDone _ _ => []
  | .jetTest _ w => [.write w]
  | .jetFence _ w => [.write w]
  | .jetInjectParity _ w => [.write w]
  | .sluOpenRead r => [.read r]
  | .write => []
  | .release => []
  | .arm => []
  | .discard => []
  | .sealComplete _ => []
  | .epochSwitch => []
  | .drainEnd => []
  | .armTimeout _ => []
  | .prepareMsg => []
  | .voteMsg => []
  | .decideMsg => []
  | .abortMsg => []
  | .voteDeadline _ => []
  | .prepareVoteSend _ _ => []
  | .presumeTimer _ => []
  | .txnRecordExpire _ _ => []
  | .rdgLctrlWrite _ w => [.write w]
  | .trainFlit _ _ _ _ _ _ => []
  | .rlEqualiseDone _ _ => []
  | .rlTrainTimeout _ => []
  | .rlRetryTimer _ => []
  | .frameFlit _ f _ => [.flit f]
  | .reqFlit _ f => [.flit f]
  | .rspFlit _ f => [.flit f]
  | .sluiceFlit _ f => [.flit f]
  | .doorbellFlit _ f => [.flit f]
  | .linkFlit _ f => [.flit f]
  | .rlNoFlitTimeout _ => []
  | .rlRetrainTimer _ => []
  | .streamRouteMove _ _ _ _ => []
  | .doorbellSend w => [.write w]
  | .doorbellRead _ r => [.read r]
  | .aluRRR y _ _ _ _ => [.syl y]
  | .shiftRRR y _ _ _ _ => [.syl y]
  | .minMax y _ _ _ _ => [.syl y]
  | .cmpRRR y _ _ _ _ => [.syl y]
  | .adds y _ _ _ => [.syl y]
  | .addc y _ _ _ => [.syl y]
  | .subs y _ _ _ => [.syl y]
  | .subc y _ _ _ => [.syl y]
  | .countBits y _ _ _ _ => [.syl y]
  | .extend y _ _ _ _ => [.syl y]
  | .sel y _ _ _ => [.syl y]
  | .bswap y _ _ _ => [.syl y]
  | .aluImm y _ _ _ _ => [.syl y]
  | .shiftImm y _ _ _ _ => [.syl y]
  | .cmpImm y _ _ _ _ => [.syl y]
  | .movi y _ _ => [.syl y]
  | .load y _ _ _ _ => [.syl y]
  | .store y _ _ _ _ => [.syl y]
  | .loadF y _ _ _ _ => [.syl y]
  | .storeF y _ _ _ _ => [.syl y]
  | .amo y _ _ _ _ => [.syl y]
  | .bcopy y _ _ _ _ => [.syl y]
  | .bcmp y _ _ _ _ => [.syl y]
  | .bfill y _ _ _ _ => [.syl y]
  | .cmoWbp y _ _ => [.syl y]
  | .cmoWbm y _ _ => [.syl y]
  | .cmoWbmi y _ _ => [.syl y]
  | .cmoInvd y _ _ => [.syl y]
  | .cmoZero y _ _ => [.syl y]
  | .prf y _ _ _ => [.syl y]
  | .mul y _ _ _ _ => [.syl y]
  | .mulWide y _ _ _ _ => [.syl y]
  | .divide y _ _ _ _ => [.syl y]
  | .macu y _ _ _ => [.syl y]
  | .macs y _ _ _ => [.syl y]
  | .acclr y _ => [.syl y]
  | .accshr y _ => [.syl y]
  | .mvac y _ _ _ => [.syl y]
  | .mvtac y _ _ _ => [.syl y]
  | .macd y _ _ _ _ => [.syl y]
  | .fArith y _ _ _ _ _ => [.syl y]
  | .fDivSqrt y _ _ _ _ _ => [.syl y]
  | .fMinMax y _ _ _ _ _ => [.syl y]
  | .fCmp y _ _ _ _ _ => [.syl y]
  | .fCvtInt y _ _ _ _ => [.syl y]
  | .fMov y _ _ _ _ => [.syl y]
  | .fSign y _ _ _ _ => [.syl y]
  | .fCvtPrec y _ _ _ => [.syl y]
  | .fFma y _ _ _ _ _ => [.syl y]
  | .br y _ => [.syl y]
  | .call y _ => [.syl y]
  | .callr y _ => [.syl y]
  | .jmpr y _ => [.syl y]
  | .ret y => [.syl y]
  | .bcond y _ _ _ _ => [.syl y]
  | .loop y _ _ => [.syl y]
  | .loopi y _ _ => [.syl y]
  | .kcall y _ => [.syl y]
  | .hcall y _ => [.syl y]
  | .mcall y _ => [.syl y]
  | .xret y => [.syl y]
  | .tbegin y _ _ => [.syl y]
  | .tcommit y => [.syl y]
  | .tabort y _ => [.syl y]
  | .fence y => [.syl y]
  | .dsync y => [.syl y]
  | .isync y => [.syl y]
  | .pclrOwn y => [.syl y]
  | .pclrAll y => [.syl y]
  | .mfcr y _ _ => [.syl y]
  | .mtcr y _ _ => [.syl y]
  | .cachectlWrite y _ => [.syl y]
  | .tlbinvRegime y _ => [.syl y]
  | .tlbinvAsid y _ => [.syl y]
  | .tlbinvVaAsid y _ => [.syl y]
  | .tlbinvVa y _ => [.syl y]
  | .tlbinvVmid y _ => [.syl y]
  | .tlbinvIpa y _ => [.syl y]
  | .tlbinvWorld y _ => [.syl y]
  | .dtbNow y _ => [.syl y]
  | .sptClaim y _ => [.syl y]
  | .interruptEntry _ _ => []
  | .longOpLand _ _ => []
  | .mbEntryDrain _ _ => []
  | .rdS _ _ _ => []
  | .rdU _ _ => []
  | .upgrade _ _ => []
  | .wb _ _ => []
  | .wbk _ _ => []
  | .evict _ _ => []
  | .rdNc _ => []
  | .wrNc _ _ _ => []
  | .amoAtHome _ _ _ _ _ => []
  | .snpShare _ _ => []
  | .snpInv _ _ => []
  | .unpin _ _ _ => []
  | .abortOrder _ _ _ => []
  | .l2opClean _ w => [.write w]
  | .l2opCleanInvalidate _ w => [.write w]
  | .l2WalkDone _ => []
  | .polSramWrite _ w => [.write w]
  | .sramConversionDone _ => []
  | .cisTrainDone _ _ => []
  | .cisRead _ _ => []
  | .cisWrite _ _ _ _ => []
  | .scrubRead _ _ _ => []
  | .mapout _ w => [.write w]
  | .reserveSet w => [.write w]
  | .reserveFillDone => []
  | .cairnBoundary _ => []
  | .lockstepMismatch _ => []
  | .cairnRestartDone _ => []
  | .comparatorTestDone _ _ => []
  | .crnOut _ w => [.write w]
  | .crnTest _ w => [.write w]
  | .crnTestDone _ _ => []
  | .crnReturn _ w => [.write w]
  | .crnInjectFlip _ w => [.write w]
  | .channelFail _ _ _ => []
  | .casQuiesce _ w => [.write w]
  | .channelQuiesced _ => []
  | .casTest _ w => [.write w]
  | .casTestDone _ _ => []
  | .casReturn _ w => [.write w]
  | .poolSliceUe _ => []
  | .poolFenceCmd _ w => [.write w]
  | .poolFenceDone _ => []
  | .spillBankFail _ => []
  | .errRec3Read r => [.read r]
  | .errDone w => [.write w]
  | .sourceEvent _ _ => []
  | .timerCompare _ _ => []
  | .sptRaise w => [.write w]
  | .sptIpi w => [.write w]
  | .sptClr _ _ w => [.write w]
  | .sptSenseChange w => [.write w]
  | .sptRetarget w => [.write w]
  | .thawResume _ w => [.write w]
  | .thawReset _ w => [.write w]
  | .powerOn => []
  | .resetN => []
  | .pwrReset w => [.write w]
  | .meshUe => []
  | .controlParity => []
  | .supply => []
  | .imageStreamStart _ _ => []
  | .imageVerifyDone _ => []
  | .pwrStart w => [.write w]
  | .pwrBasinrst w => [.write w]
  | .keyRevoke w => [.write w]
  | .pwrReq w => [.write w]
  | .domainChangeDone _ => []
  | .coreWake _ => []
  | .clkFreqWrite _ w => [.write w]
  | .clkFreqApply _ => []
  | .dtbSet w => [.write w]
  | .dtbStepApply => []
  | .dtbAdj w => [.write w]
  | .ppsEdge => []
  | .avsPoll _ => []
  | .voutCommand _ => []
  | .refclkSysStop => []
  | .refclkSrdStop => []
  | .thermtrip => []
  | .bypass _ => []
  | .idcode => []
  | .samplePreload _ _ => []
  | .extest _ _ => []
  | .clamp _ => []
  | .highz _ => []
  | .extestPulse _ _ => []
  | .extestTrain _ _ => []
  | .dap _ _ _ _ => []
  | .nonce => []
  | .auth _ => []
  | .jtagLoad _ => []
  | .fuse _ => []
  | .jtagReset => []
  | .dbgAuthWrite w => [.write w]
  | .halt w => [.write w]
  | .haltAccept _ => []
  | .resume w => [.write w]
  | .debugStep w => [.write w]
  | .itrInject _ w => w.toList.map .write
  | .breakpointHit _ => []
  | .watchpointHit _ _ => []
  | .traceOverflow _ => []
  | .traceSyncTimer _ => []
  | .traceDmaWrite _ => []
  | .functionReady _ => []
  | .illegalBundle _ => []
  | .iabort _ => []
  | .saBadOp => []
  | .sluBadOp => []
  | .flitCrcError _ => []
  | .rlDetect _ _ => []
  | .lentXoffFlit _ f => [.flit f]
  | .cairnAbort _ => []
  | .supplyRestored => []
  | .pmbAlert => []

/-- The parts of a well-formed command are well formed. -/
def Statement (i : Instr) : Prop := i.wf = true → ∀ p ∈ carried i, p.good

theorem nothing {i : Instr} (h : carried i = []) : Statement i := by simp [Statement, h]

theorem single {i : Instr} (p : Part) (h : carried i = [p]) (e : i.wf = true → p.check = true) : Statement i := by
  intro hw q hq
  rw [h, List.mem_singleton] at hq
  exact hq ▸ p.good_of_check (e hw)

theorem optional {i : Instr} (w : Option RegW) (h : carried i = w.toList.map .write) (e : i.wf = true → w.all RegW.wf = true) :
    Statement i := by
  intro hw q hq
  rw [h] at hq
  cases w with
  | none => simp at hq
  | some x =>
    simp only [Option.toList_some, List.map_cons, List.map_nil, List.mem_singleton] at hq
    exact hq ▸ Part.good_of_check (.write x) (by simpa [Part.check] using e hw)

theorem regWrite (acc : Access) (addr : BitVec 46) (size : Nat) (val : Word) : Statement (.regWrite acc addr size val) := single _ rfl (fun h => h)
theorem laneReady (lane : Fin 32) : Statement (.laneReady lane) := nothing rfl
theorem laneLoss (lane : Fin 32) : Statement (.laneLoss lane) := nothing rfl
theorem laneWithhold (lane : Fin 32) (test : Bool) (w : RegW) : Statement (.laneWithhold lane test w) := single _ rfl (fun h => h)
theorem anResolved (mac : MacId) (partner : BitVec 13) (rs br : Bool) : Statement (.anResolved mac partner rs br) := nothing rfl
theorem anRestartTimer (mac : MacId) : Statement (.anRestartTimer mac) := nothing rfl
theorem linkTrainingDone (mac : PortId) (taps : List (BitVec 32)) : Statement (.linkTrainingDone mac taps) := nothing rfl
theorem trainTimeout (mac : PortId) : Statement (.trainTimeout mac) := nothing rfl
theorem floorFailRetry (mac : MacId) : Statement (.floorFailRetry mac) := nothing rfl
theorem floorFailRestore (mac : MacId) : Statement (.floorFailRestore mac) := nothing rfl
theorem macLinkUp (mac : MacId) (fault : Option Bool) : Statement (.macLinkUp mac fault) := nothing rfl
theorem macLinkDown (mac : MacId) (hiber : Bool) : Statement (.macLinkDown mac hiber) := nothing rfl
theorem restart (mac : MacId) (w : RegW) : Statement (.restart mac w) := single _ rfl (fun h => h)
theorem rxFrameEnd (mac : MacId) (bytes : List Byte) (pcsErr : Bool) (age : Nat) (bank : Fin 4) : Statement (.rxFrameEnd mac bytes pcsErr age bank) := nothing rfl
theorem rxCellExhausted (mac : PortId) (got : Nat) : Statement (.rxCellExhausted mac got) := nothing rfl
theorem rxFlowControlFrame (mac : MacId) (bytes : List Byte) : Statement (.rxFlowControlFrame mac bytes) := nothing rfl
theorem pauseTimerExpire (mac : MacId) (prio : Fin 8) : Statement (.pauseTimerExpire mac prio) := nothing rfl
theorem pfcThresholdRecheck (mac : PortId) : Statement (.pfcThresholdRecheck mac) := nothing rfl
theorem flowControlFrameTx (mac : MacId) : Statement (.flowControlFrameTx mac) := nothing rfl
theorem fcRefresh (mac : MacId) : Statement (.fcRefresh mac) := nothing rfl
theorem intake (ch : ChanId) : Statement (.intake ch) := nothing rfl
theorem pTier (tier : TierId) : Statement (.pTier tier) := nothing rfl
theorem kTier (tier : TierId) : Statement (.kTier tier) := nothing rfl
theorem aTier (tier : TierId) : Statement (.aTier tier) := nothing rfl
theorem saFetchDone (tier : TierId) (ue : Bool) (victim : Nat) : Statement (.saFetchDone tier ue victim) := nothing rfl
theorem jetDispatch (ch : ChanId) (soonest : BitVec 10) (bank : Fin 4) : Statement (.jetDispatch ch soonest bank) := nothing rfl
theorem jetOutputChecked (jet : JetId) : Statement (.jetOutputChecked jet) := nothing rfl
theorem rejoin (ch : ChanId) : Statement (.rejoin ch) := nothing rfl
theorem vTier (tier : TierId) : Statement (.vTier tier) := nothing rfl
theorem eTier (tier : TierId) : Statement (.eTier tier) := nothing rfl
theorem mTier (tier : TierId) : Statement (.mTier tier) := nothing rfl
theorem deepWrite : Statement .deepWrite := nothing rfl
theorem deepStageRead (bank : Fin 4) : Statement (.deepStageRead bank) := nothing rfl
theorem injectDesc (basin : BasinId) (bank : Fin 4) : Statement (.injectDesc basin bank) := nothing rfl
theorem weirPick (mac : PortId) (room : BitVec 8) : Statement (.weirPick mac room) := nothing rfl
theorem txFrameEnd (mac : MacId) (age : Nat) : Statement (.txFrameEnd mac age) := nothing rfl
theorem txtsRead (mac : MacId) (r : RegR) : Statement (.txtsRead mac r) := single _ rfl (fun h => h)
theorem mgdmaRxFrame (mg : Fin 2) : Statement (.mgdmaRxFrame mg) := nothing rfl
theorem mgdmaTxDesc (mg : Fin 2) : Statement (.mgdmaTxDesc mg) := nothing rfl
theorem mgdmaResume (mg : Fin 2) (tx : Bool) : Statement (.mgdmaResume mg tx) := nothing rfl
theorem hello (mac : PortId) : Statement (.hello mac) := nothing rfl
theorem offer (mac : PortId) : Statement (.offer mac) := nothing rfl
theorem select (mac : PortId) : Statement (.select mac) := nothing rfl
theorem confirm (mac : PortId) : Statement (.confirm mac) := nothing rfl
theorem beat (mac : PortId) : Statement (.beat mac) := nothing rfl
theorem sppHelloTimer (mac : PortId) : Statement (.sppHelloTimer mac) := nothing rfl
theorem sppStepTimer (mac : PortId) : Statement (.sppStepTimer mac) := nothing rfl
theorem sppBeatTimer (mac : PortId) : Statement (.sppBeatTimer mac) := nothing rfl
theorem sppBeatMiss (mac : PortId) : Statement (.sppBeatMiss mac) := nothing rfl
theorem sppRetryTimer (mac : PortId) : Statement (.sppRetryTimer mac) := nothing rfl
theorem reneg (mac : PortId) (w : RegW) : Statement (.reneg mac w) := single _ rfl (fun h => h)
theorem downActChange (mac : PortId) (w : RegW) : Statement (.downActChange mac w) := single _ rfl (fun h => h)
theorem sppSlotTx (mac : PortId) : Statement (.sppSlotTx mac) := nothing rfl
theorem bitStage (w : RegW) : Statement (.bitStage w) := single _ rfl (fun h => h)
theorem bitAbort (w : RegW) : Statement (.bitAbort w) := single _ rfl (fun h => h)
theorem bitLoadEnd : Statement .bitLoadEnd := nothing rfl
theorem bootBitstreamLoad (file : List Byte) : Statement (.bootBitstreamLoad file) := nothing rfl
theorem scCreate : Statement .scCreate := nothing rfl
theorem saInstall : Statement .saInstall := nothing rfl
theorem txSwitch : Statement .txSwitch := nothing rfl
theorem saRetire : Statement .saRetire := nothing rfl
theorem saRemove : Statement .saRemove := nothing rfl
theorem scDelete : Statement .scDelete := nothing rfl
theorem slotInstall : Statement .slotInstall := nothing rfl
theorem slotRemove : Statement .slotRemove := nothing rfl
theorem query : Statement .query := nothing rfl
theorem saNotAfter (sc : Nat) (an : BitVec 2) : Statement (.saNotAfter sc an) := nothing rfl
theorem saEvtRead (basin : BasinId) (r : RegR) : Statement (.saEvtRead basin r) := single _ rfl (fun h => h)
theorem saRegionInvalidate (w : RegW) : Statement (.saRegionInvalidate w) := single _ rfl (fun h => h)
theorem jetFault (jet : JetId) : Statement (.jetFault jet) := nothing rfl
theorem jetRotation : Statement .jetRotation := nothing rfl
theorem jetDrainEnd (jet : JetId) : Statement (.jetDrainEnd jet) := nothing rfl
theorem jetSelfTestDone (jet : JetId) (pass : Bool) : Statement (.jetSelfTestDone jet pass) := nothing rfl
theorem jetTest (jet : JetId) (w : RegW) : Statement (.jetTest jet w) := single _ rfl (fun h => h)
theorem jetFence (jet : JetId) (w : RegW) : Statement (.jetFence jet w) := single _ rfl (fun h => h)
theorem jetInjectParity (jet : JetId) (w : RegW) : Statement (.jetInjectParity jet w) := single _ rfl (fun h => h)
theorem sluOpenRead (r : RegR) : Statement (.sluOpenRead r) := single _ rfl (fun h => h)
theorem write : Statement .write := nothing rfl
theorem release : Statement .release := nothing rfl
theorem arm : Statement .arm := nothing rfl
theorem discard : Statement .discard := nothing rfl
theorem sealComplete (slot : StageId) : Statement (.sealComplete slot) := nothing rfl
theorem epochSwitch : Statement .epochSwitch := nothing rfl
theorem drainEnd : Statement .drainEnd := nothing rfl
theorem armTimeout (slot : StageId) : Statement (.armTimeout slot) := nothing rfl
theorem prepareMsg : Statement .prepareMsg := nothing rfl
theorem voteMsg : Statement .voteMsg := nothing rfl
theorem decideMsg : Statement .decideMsg := nothing rfl
theorem abortMsg : Statement .abortMsg := nothing rfl
theorem voteDeadline (slot : StageId) : Statement (.voteDeadline slot) := nothing rfl
theorem prepareVoteSend (origin txn : Word) : Statement (.prepareVoteSend origin txn) := nothing rfl
theorem presumeTimer (slot : StageId) : Statement (.presumeTimer slot) := nothing rfl
theorem txnRecordExpire (origin txn : Word) : Statement (.txnRecordExpire origin txn) := nothing rfl
theorem rdgLctrlWrite (link : LinkId) (w : RegW) : Statement (.rdgLctrlWrite link w) := single _ rfl (fun h => h)
theorem trainFlit (link : LinkId) (ident : Word) (index : BitVec 3) (tag : BitVec 32) (ability : BitVec 6) (lanes : BitVec 4) : Statement (.trainFlit link ident index tag ability lanes) := nothing rfl
theorem rlEqualiseDone (link : LinkId) (floor : BitVec 3) : Statement (.rlEqualiseDone link floor) := nothing rfl
theorem rlTrainTimeout (link : LinkId) : Statement (.rlTrainTimeout link) := nothing rfl
theorem rlRetryTimer (link : LinkId) : Statement (.rlRetryTimer link) := nothing rfl
theorem frameFlit (link : LinkId) (f : Flit) (bank : Fin 4) : Statement (.frameFlit link f bank) := single _ rfl (fun h => h)
theorem reqFlit (link : LinkId) (f : Flit) : Statement (.reqFlit link f) := single _ rfl (fun h => h)
theorem rspFlit (link : LinkId) (f : Flit) : Statement (.rspFlit link f) := single _ rfl (fun h => h)
theorem sluiceFlit (link : LinkId) (f : Flit) : Statement (.sluiceFlit link f) := single _ rfl (fun h => h)
theorem doorbellFlit (link : LinkId) (f : Flit) : Statement (.doorbellFlit link f) := single _ rfl (fun h => h)
theorem linkFlit (link : LinkId) (f : Flit) : Statement (.linkFlit link f) := single _ rfl (fun h => h)
theorem rlNoFlitTimeout (link : LinkId) : Statement (.rlNoFlitTimeout link) := nothing rfl
theorem rlRetrainTimer (link : LinkId) : Statement (.rlRetrainTimer link) := nothing rfl
theorem streamRouteMove (src dst : Fin 8) (cls : Fin 4) (tag : BitVec 16) : Statement (.streamRouteMove src dst cls tag) := nothing rfl
theorem doorbellSend (w : RegW) : Statement (.doorbellSend w) := single _ rfl (fun h => h)
theorem doorbellRead (core : CoreId) (r : RegR) : Statement (.doorbellRead core r) := single _ rfl (fun h => h)
theorem aluRRR (y : Syl) (op : AluOp) (d a b : BitVec 6) : Statement (.aluRRR y op d a b) := single _ rfl (fun h => h)
theorem shiftRRR (y : Syl) (op : ShiftOp) (d a b : BitVec 6) : Statement (.shiftRRR y op d a b) := single _ rfl (fun h => h)
theorem minMax (y : Syl) (op : MinMaxOp) (d a b : BitVec 6) : Statement (.minMax y op d a b) := single _ rfl (fun h => h)
theorem cmpRRR (y : Syl) (op : CmpOp) (d a b : BitVec 6) : Statement (.cmpRRR y op d a b) := single _ rfl (fun h => h)
theorem adds (y : Syl) (d a b : BitVec 6) : Statement (.adds y d a b) := single _ rfl (fun h => h)
theorem addc (y : Syl) (d a b : BitVec 6) : Statement (.addc y d a b) := single _ rfl (fun h => h)
theorem subs (y : Syl) (d a b : BitVec 6) : Statement (.subs y d a b) := single _ rfl (fun h => h)
theorem subc (y : Syl) (d a b : BitVec 6) : Statement (.subc y d a b) := single _ rfl (fun h => h)
theorem countBits (y : Syl) (op : CountOp) (d a b : BitVec 6) : Statement (.countBits y op d a b) := single _ rfl (fun h => h)
theorem extend (y : Syl) (op : ExtendOp) (d a b : BitVec 6) : Statement (.extend y op d a b) := single _ rfl (fun h => h)
theorem sel (y : Syl) (d a b : BitVec 6) : Statement (.sel y d a b) := single _ rfl (fun h => h)
theorem bswap (y : Syl) (d a b : BitVec 6) : Statement (.bswap y d a b) := single _ rfl (fun h => h)
theorem aluImm (y : Syl) (op : AluImmOp) (d a : BitVec 6) (imm : BitVec 12) : Statement (.aluImm y op d a imm) := single _ rfl (fun h => h)
theorem shiftImm (y : Syl) (op : ShiftImmOp) (d a : BitVec 6) (imm : BitVec 12) : Statement (.shiftImm y op d a imm) := single _ rfl (fun h => h)
theorem cmpImm (y : Syl) (op : CmpImmOp) (d a : BitVec 6) (imm : BitVec 12) : Statement (.cmpImm y op d a imm) := single _ rfl (fun h => h)
theorem movi (y : Syl) (d : BitVec 6) (imm : BitVec 18) : Statement (.movi y d imm) := single _ rfl (fun h => h)
theorem load (y : Syl) (op : LoadOp) (d base : BitVec 6) (imm : BitVec 12) : Statement (.load y op d base imm) := single _ rfl (fun h => h)
theorem store (y : Syl) (op : StoreOp) (src base : BitVec 6) (imm : BitVec 12) : Statement (.store y op src base imm) := single _ rfl (fun h => h)
theorem loadF (y : Syl) (dbl : Bool) (d base : BitVec 6) (imm : BitVec 12) : Statement (.loadF y dbl d base imm) := single _ rfl (fun h => h)
theorem storeF (y : Syl) (dbl : Bool) (src base : BitVec 6) (imm : BitVec 12) : Statement (.storeF y dbl src base imm) := single _ rfl (fun h => h)
theorem amo (y : Syl) (d a b fn : BitVec 6) : Statement (.amo y d a b fn) := single _ rfl (fun h => h)
theorem bcopy (y : Syl) (d a b fn : BitVec 6) : Statement (.bcopy y d a b fn) := single _ rfl (fun h => h)
theorem bcmp (y : Syl) (d a b fn : BitVec 6) : Statement (.bcmp y d a b fn) := single _ rfl (fun h => h)
theorem bfill (y : Syl) (d a b fn : BitVec 6) : Statement (.bfill y d a b fn) := single _ rfl (fun h => h)
theorem cmoWbp (y : Syl) (d base : BitVec 6) : Statement (.cmoWbp y d base) := single _ rfl (fun h => h)
theorem cmoWbm (y : Syl) (d base : BitVec 6) : Statement (.cmoWbm y d base) := single _ rfl (fun h => h)
theorem cmoWbmi (y : Syl) (d base : BitVec 6) : Statement (.cmoWbmi y d base) := single _ rfl (fun h => h)
theorem cmoInvd (y : Syl) (d base : BitVec 6) : Statement (.cmoInvd y d base) := single _ rfl (fun h => h)
theorem cmoZero (y : Syl) (d base : BitVec 6) : Statement (.cmoZero y d base) := single _ rfl (fun h => h)
theorem prf (y : Syl) (d base : BitVec 6) (imm : BitVec 12) : Statement (.prf y d base imm) := single _ rfl (fun h => h)
theorem mul (y : Syl) (op : MulOp) (d a b : BitVec 6) : Statement (.mul y op d a b) := single _ rfl (fun h => h)
theorem mulWide (y : Syl) (signed : Bool) (d a b : BitVec 6) : Statement (.mulWide y signed d a b) := single _ rfl (fun h => h)
theorem divide (y : Syl) (op : DivOp) (d a b : BitVec 6) : Statement (.divide y op d a b) := single _ rfl (fun h => h)
theorem macu (y : Syl) (n : Fin 4) (a b : BitVec 6) : Statement (.macu y n a b) := single _ rfl (fun h => h)
theorem macs (y : Syl) (n : Fin 4) (a b : BitVec 6) : Statement (.macs y n a b) := single _ rfl (fun h => h)
theorem acclr (y : Syl) (n : Fin 4) : Statement (.acclr y n) := single _ rfl (fun h => h)
theorem accshr (y : Syl) (n : Fin 4) : Statement (.accshr y n) := single _ rfl (fun h => h)
theorem mvac (y : Syl) (high : Bool) (d : BitVec 6) (n : Fin 4) : Statement (.mvac y high d n) := single _ rfl (fun h => h)
theorem mvtac (y : Syl) (n : Fin 4) (a b : BitVec 6) : Statement (.mvtac y n a b) := single _ rfl (fun h => h)
theorem macd (y : Syl) (c a b fn : BitVec 6) : Statement (.macd y c a b fn) := single _ rfl (fun h => h)
theorem fArith (y : Syl) (op : FArithOp) (dbl : Bool) (d a b : BitVec 6) : Statement (.fArith y op dbl d a b) := single _ rfl (fun h => h)
theorem fDivSqrt (y : Syl) (sqrt : Bool) (dbl : Bool) (d a b : BitVec 6) : Statement (.fDivSqrt y sqrt dbl d a b) := single _ rfl (fun h => h)
theorem fMinMax (y : Syl) (max : Bool) (dbl : Bool) (d a b : BitVec 6) : Statement (.fMinMax y max dbl d a b) := single _ rfl (fun h => h)
theorem fCmp (y : Syl) (op : FCmpOp) (dbl : Bool) (d a b : BitVec 6) : Statement (.fCmp y op dbl d a b) := single _ rfl (fun h => h)
theorem fCvtInt (y : Syl) (toInt : Bool) (dbl : Bool) (d a : BitVec 6) : Statement (.fCvtInt y toInt dbl d a) := single _ rfl (fun h => h)
theorem fMov (y : Syl) (fromF : Bool) (dbl : Bool) (d a : BitVec 6) : Statement (.fMov y fromF dbl d a) := single _ rfl (fun h => h)
theorem fSign (y : Syl) (abs : Bool) (dbl : Bool) (d a : BitVec 6) : Statement (.fSign y abs dbl d a) := single _ rfl (fun h => h)
theorem fCvtPrec (y : Syl) (toDouble : Bool) (d a : BitVec 6) : Statement (.fCvtPrec y toDouble d a) := single _ rfl (fun h => h)
theorem fFma (y : Syl) (op : FmaOp) (dbl : Bool) (d a b : BitVec 6) : Statement (.fFma y op dbl d a b) := single _ rfl (fun h => h)
theorem br (y : Syl) (disp : BitVec 24) : Statement (.br y disp) := single _ rfl (fun h => h)
theorem call (y : Syl) (disp : BitVec 24) : Statement (.call y disp) := single _ rfl (fun h => h)
theorem callr (y : Syl) (a : BitVec 6) : Statement (.callr y a) := single _ rfl (fun h => h)
theorem jmpr (y : Syl) (a : BitVec 6) : Statement (.jmpr y a) := single _ rfl (fun h => h)
theorem ret (y : Syl) : Statement (.ret y) := single _ rfl (fun h => h)
theorem bcond (y : Syl) (op : BrCond) (a b : BitVec 6) (disp : BitVec 12) : Statement (.bcond y op a b disp) := single _ rfl (fun h => h)
theorem loop (y : Syl) (a : BitVec 6) (disp : BitVec 12) : Statement (.loop y a disp) := single _ rfl (fun h => h)
theorem loopi (y : Syl) (count : BitVec 12) (disp : BitVec 12) : Statement (.loopi y count disp) := single _ rfl (fun h => h)
theorem kcall (y : Syl) (imm : BitVec 12) : Statement (.kcall y imm) := single _ rfl (fun h => h)
theorem hcall (y : Syl) (imm : BitVec 12) : Statement (.hcall y imm) := single _ rfl (fun h => h)
theorem mcall (y : Syl) (imm : BitVec 12) : Statement (.mcall y imm) := single _ rfl (fun h => h)
theorem xret (y : Syl) : Statement (.xret y) := single _ rfl (fun h => h)
theorem tbegin (y : Syl) (d : BitVec 6) (disp : BitVec 12) : Statement (.tbegin y d disp) := single _ rfl (fun h => h)
theorem tcommit (y : Syl) : Statement (.tcommit y) := single _ rfl (fun h => h)
theorem tabort (y : Syl) (imm : BitVec 12) : Statement (.tabort y imm) := single _ rfl (fun h => h)
theorem fence (y : Syl) : Statement (.fence y) := single _ rfl (fun h => h)
theorem dsync (y : Syl) : Statement (.dsync y) := single _ rfl (fun h => h)
theorem isync (y : Syl) : Statement (.isync y) := single _ rfl (fun h => h)
theorem pclrOwn (y : Syl) : Statement (.pclrOwn y) := single _ rfl (fun h => h)
theorem pclrAll (y : Syl) : Statement (.pclrAll y) := single _ rfl (fun h => h)
theorem mfcr (y : Syl) (d : BitVec 6) (num : BitVec 12) : Statement (.mfcr y d num) := single _ rfl (fun h => h)
theorem mtcr (y : Syl) (d : BitVec 6) (num : BitVec 12) : Statement (.mtcr y d num) := single _ rfl (fun h => h)
theorem cachectlWrite (y : Syl) (d : BitVec 6) : Statement (.cachectlWrite y d) := single _ rfl (fun h => h)
theorem tlbinvRegime (y : Syl) (d : BitVec 6) : Statement (.tlbinvRegime y d) := single _ rfl (fun h => h)
theorem tlbinvAsid (y : Syl) (d : BitVec 6) : Statement (.tlbinvAsid y d) := single _ rfl (fun h => h)
theorem tlbinvVaAsid (y : Syl) (d : BitVec 6) : Statement (.tlbinvVaAsid y d) := single _ rfl (fun h => h)
theorem tlbinvVa (y : Syl) (d : BitVec 6) : Statement (.tlbinvVa y d) := single _ rfl (fun h => h)
theorem tlbinvVmid (y : Syl) (d : BitVec 6) : Statement (.tlbinvVmid y d) := single _ rfl (fun h => h)
theorem tlbinvIpa (y : Syl) (d : BitVec 6) : Statement (.tlbinvIpa y d) := single _ rfl (fun h => h)
theorem tlbinvWorld (y : Syl) (d : BitVec 6) : Statement (.tlbinvWorld y d) := single _ rfl (fun h => h)
theorem dtbNow (y : Syl) (d : BitVec 6) : Statement (.dtbNow y d) := single _ rfl (fun h => h)
theorem sptClaim (y : Syl) (d : BitVec 6) : Statement (.sptClaim y d) := single _ rfl (fun h => h)
theorem interruptEntry (core : CoreId) (first : BitVec 10) : Statement (.interruptEntry core first) := nothing rfl
theorem longOpLand (core : CoreId) (index : Nat) : Statement (.longOpLand core index) := nothing rfl
theorem mbEntryDrain (core : CoreId) (index : Nat) : Statement (.mbEntryDrain core index) := nothing rfl
theorem rdS (core : CoreId) (line : BitVec 40) (fetch : Bool) : Statement (.rdS core line fetch) := nothing rfl
theorem rdU (core : CoreId) (line : BitVec 40) : Statement (.rdU core line) := nothing rfl
theorem upgrade (core : CoreId) (line : BitVec 40) : Statement (.upgrade core line) := nothing rfl
theorem wb (core : CoreId) (line : BitVec 40) : Statement (.wb core line) := nothing rfl
theorem wbk (core : CoreId) (line : BitVec 40) : Statement (.wbk core line) := nothing rfl
theorem evict (core : CoreId) (line : BitVec 40) : Statement (.evict core line) := nothing rfl
theorem rdNc (line : BitVec 40) : Statement (.rdNc line) := nothing rfl
theorem wrNc (line : BitVec 40) (mask : BitVec 64) (data : LineData) : Statement (.wrNc line mask data) := nothing rfl
theorem amoAtHome (nc : Bool) (addr : BitVec 46) (fn : BitVec 6) (opnd cmp : Word) : Statement (.amoAtHome nc addr fn opnd cmp) := nothing rfl
theorem snpShare (core : CoreId) (line : BitVec 40) : Statement (.snpShare core line) := nothing rfl
theorem snpInv (core : CoreId) (line : BitVec 40) : Statement (.snpInv core line) := nothing rfl
theorem unpin (slice : SliceId) (core : CoreId) (seq : BitVec 4) : Statement (.unpin slice core seq) := nothing rfl
theorem abortOrder (slice : SliceId) (set : BitVec 11) (requester : Option CoreId) : Statement (.abortOrder slice set requester) := nothing rfl
theorem l2opClean (core : CoreId) (w : RegW) : Statement (.l2opClean core w) := single _ rfl (fun h => h)
theorem l2opCleanInvalidate (core : CoreId) (w : RegW) : Statement (.l2opCleanInvalidate core w) := single _ rfl (fun h => h)
theorem l2WalkDone (core : CoreId) : Statement (.l2WalkDone core) := nothing rfl
theorem polSramWrite (slice : SliceId) (w : RegW) : Statement (.polSramWrite slice w) := single _ rfl (fun h => h)
theorem sramConversionDone (slice : SliceId) : Statement (.sramConversionDone slice) := nothing rfl
theorem cisTrainDone (stack : Fin 2) (failed : BitVec 32) : Statement (.cisTrainDone stack failed) := nothing rfl
theorem cisRead (addr : BitVec 35) (errors : Nat) : Statement (.cisRead addr errors) := nothing rfl
theorem cisWrite (addr : BitVec 35) (mask : BitVec 8) (data : Word) (errors : Nat) : Statement (.cisWrite addr mask data errors) := nothing rfl
theorem scrubRead (addr : BitVec 35) (errors : Nat) (lastOfPass : Bool) : Statement (.scrubRead addr errors lastOfPass) := nothing rfl
theorem mapout (stack : Fin 2) (w : RegW) : Statement (.mapout stack w) := single _ rfl (fun h => h)
theorem reserveSet (w : RegW) : Statement (.reserveSet w) := single _ rfl (fun h => h)
theorem reserveFillDone : Statement .reserveFillDone := nothing rfl
theorem cairnBoundary (pair : Fin 16) : Statement (.cairnBoundary pair) := nothing rfl
theorem lockstepMismatch (pair : Fin 16) : Statement (.lockstepMismatch pair) := nothing rfl
theorem cairnRestartDone (pair : Fin 16) : Statement (.cairnRestartDone pair) := nothing rfl
theorem comparatorTestDone (pair : Fin 16) (pass : Bool) : Statement (.comparatorTestDone pair pass) := nothing rfl
theorem crnOut (pair : Fin 16) (w : RegW) : Statement (.crnOut pair w) := single _ rfl (fun h => h)
theorem crnTest (pair : Fin 16) (w : RegW) : Statement (.crnTest pair w) := single _ rfl (fun h => h)
theorem crnTestDone (core : CoreId) (pass : Bool) : Statement (.crnTestDone core pass) := nothing rfl
theorem crnReturn (pair : Fin 16) (w : RegW) : Statement (.crnReturn pair w) := single _ rfl (fun h => h)
theorem crnInjectFlip (pair : Fin 16) (w : RegW) : Statement (.crnInjectFlip pair w) := single _ rfl (fun h => h)
theorem channelFail (ch : ChanId) (tier : Fin 8) (cause : ChanFailCause) : Statement (.channelFail ch tier cause) := nothing rfl
theorem casQuiesce (ch : ChanId) (w : RegW) : Statement (.casQuiesce ch w) := single _ rfl (fun h => h)
theorem channelQuiesced (ch : ChanId) : Statement (.channelQuiesced ch) := nothing rfl
theorem casTest (ch : ChanId) (w : RegW) : Statement (.casTest ch w) := single _ rfl (fun h => h)
theorem casTestDone (ch : ChanId) (pass : Bool) : Statement (.casTestDone ch pass) := nothing rfl
theorem casReturn (ch : ChanId) (w : RegW) : Statement (.casReturn ch w) := single _ rfl (fun h => h)
theorem poolSliceUe (slice : SliceId) : Statement (.poolSliceUe slice) := nothing rfl
theorem poolFenceCmd (slice : SliceId) (w : RegW) : Statement (.poolFenceCmd slice w) := single _ rfl (fun h => h)
theorem poolFenceDone (slice : SliceId) : Statement (.poolFenceDone slice) := nothing rfl
theorem spillBankFail (bank : Fin 4) : Statement (.spillBankFail bank) := nothing rfl
theorem errRec3Read (r : RegR) : Statement (.errRec3Read r) := single _ rfl (fun h => h)
theorem errDone (w : RegW) : Statement (.errDone w) := single _ rfl (fun h => h)
theorem sourceEvent (core : Option CoreId) (source : BitVec 10) : Statement (.sourceEvent core source) := nothing rfl
theorem timerCompare (core : CoreId) (secure : Bool) : Statement (.timerCompare core secure) := nothing rfl
theorem sptRaise (w : RegW) : Statement (.sptRaise w) := single _ rfl (fun h => h)
theorem sptIpi (w : RegW) : Statement (.sptIpi w) := single _ rfl (fun h => h)
theorem sptClr (core : Option CoreId) (source : BitVec 5) (w : RegW) : Statement (.sptClr core source w) := single _ rfl (fun h => h)
theorem sptSenseChange (w : RegW) : Statement (.sptSenseChange w) := single _ rfl (fun h => h)
theorem sptRetarget (w : RegW) : Statement (.sptRetarget w) := single _ rfl (fun h => h)
theorem thawResume (guard : Fin 113) (w : RegW) : Statement (.thawResume guard w) := single _ rfl (fun h => h)
theorem thawReset (guard : Fin 113) (w : RegW) : Statement (.thawReset guard w) := single _ rfl (fun h => h)
theorem powerOn : Statement .powerOn := nothing rfl
theorem resetN : Statement .resetN := nothing rfl
theorem pwrReset (w : RegW) : Statement (.pwrReset w) := single _ rfl (fun h => h)
theorem meshUe : Statement .meshUe := nothing rfl
theorem controlParity : Statement .controlParity := nothing rfl
theorem supply : Statement .supply := nothing rfl
theorem imageStreamStart (dir image : List Byte) : Statement (.imageStreamStart dir image) := nothing rfl
theorem imageVerifyDone (secondary : List Byte) : Statement (.imageVerifyDone secondary) := nothing rfl
theorem pwrStart (w : RegW) : Statement (.pwrStart w) := single _ rfl (fun h => h)
theorem pwrBasinrst (w : RegW) : Statement (.pwrBasinrst w) := single _ rfl (fun h => h)
theorem keyRevoke (w : RegW) : Statement (.keyRevoke w) := single _ rfl (fun h => h)
theorem pwrReq (w : RegW) : Statement (.pwrReq w) := single _ rfl (fun h => h)
theorem domainChangeDone (pd : Fin 96) : Statement (.domainChangeDone pd) := nothing rfl
theorem coreWake (core : CoreId) : Statement (.coreWake core) := nothing rfl
theorem clkFreqWrite (pair : Fin 16) (w : RegW) : Statement (.clkFreqWrite pair w) := single _ rfl (fun h => h)
theorem clkFreqApply (pair : Fin 16) : Statement (.clkFreqApply pair) := nothing rfl
theorem dtbSet (w : RegW) : Statement (.dtbSet w) := single _ rfl (fun h => h)
theorem dtbStepApply : Statement .dtbStepApply := nothing rfl
theorem dtbAdj (w : RegW) : Statement (.dtbAdj w) := single _ rfl (fun h => h)
theorem ppsEdge : Statement .ppsEdge := nothing rfl
theorem avsPoll (reading : AvsReading) : Statement (.avsPoll reading) := nothing rfl
theorem voutCommand (acked : Bool) : Statement (.voutCommand acked) := nothing rfl
theorem refclkSysStop : Statement .refclkSysStop := nothing rfl
theorem refclkSrdStop : Statement .refclkSrdStop := nothing rfl
theorem thermtrip : Statement .thermtrip := nothing rfl
theorem bypass (tdi : List Bool) : Statement (.bypass tdi) := nothing rfl
theorem idcode : Statement .idcode := nothing rfl
theorem samplePreload (pins load : List Bool) : Statement (.samplePreload pins load) := nothing rfl
theorem extest (pins load : List Bool) : Statement (.extest pins load) := nothing rfl
theorem clamp (tdi : List Bool) : Statement (.clamp tdi) := nothing rfl
theorem highz (tdi : List Bool) : Statement (.highz tdi) := nothing rfl
theorem extestPulse (pins load : List Bool) : Statement (.extestPulse pins load) := nothing rfl
theorem extestTrain (pins load : List Bool) : Statement (.extestTrain pins load) := nothing rfl
theorem dap (write trc : Bool) (offset : BitVec 12) (data : Word) : Statement (.dap write trc offset data) := nothing rfl
theorem nonce : Statement .nonce := nothing rfl
theorem auth (cert : List Byte) : Statement (.auth cert) := nothing rfl
theorem jtagLoad (image : List Byte) : Statement (.jtagLoad image) := nothing rfl
theorem fuse (word : FuseWord) : Statement (.fuse word) := nothing rfl
theorem jtagReset : Statement .jtagReset := nothing rfl
theorem dbgAuthWrite (w : RegW) : Statement (.dbgAuthWrite w) := single _ rfl (fun h => h)
theorem halt (w : RegW) : Statement (.halt w) := single _ rfl (fun h => h)
theorem haltAccept (core : CoreId) : Statement (.haltAccept core) := nothing rfl
theorem resume (w : RegW) : Statement (.resume w) := single _ rfl (fun h => h)
theorem debugStep (w : RegW) : Statement (.debugStep w) := single _ rfl (fun h => h)
theorem itrInject (core : CoreId) (w : Option RegW) : Statement (.itrInject core w) := optional _ rfl (fun h => h)
theorem breakpointHit (core : CoreId) : Statement (.breakpointHit core) := nothing rfl
theorem watchpointHit (core : CoreId) (entry : Fin 6) : Statement (.watchpointHit core entry) := nothing rfl
theorem traceOverflow (core : CoreId) : Statement (.traceOverflow core) := nothing rfl
theorem traceSyncTimer (core : CoreId) : Statement (.traceSyncTimer core) := nothing rfl
theorem traceDmaWrite (core : CoreId) : Statement (.traceDmaWrite core) := nothing rfl
theorem functionReady (unit : FnUnit) : Statement (.functionReady unit) := nothing rfl
theorem illegalBundle (core : CoreId) : Statement (.illegalBundle core) := nothing rfl
theorem iabort (core : CoreId) : Statement (.iabort core) := nothing rfl
theorem saBadOp : Statement .saBadOp := nothing rfl
theorem sluBadOp : Statement .sluBadOp := nothing rfl
theorem flitCrcError (link : LinkId) : Statement (.flitCrcError link) := nothing rfl
theorem rlDetect (link : LinkId) (lanes : BitVec 4) : Statement (.rlDetect link lanes) := nothing rfl
theorem lentXoffFlit (link : LinkId) (f : Flit) : Statement (.lentXoffFlit link f) := single _ rfl (fun h => h)
theorem cairnAbort (pair : Fin 16) : Statement (.cairnAbort pair) := nothing rfl
theorem supplyRestored : Statement .supplyRestored := nothing rfl
theorem pmbAlert : Statement .pmbAlert := nothing rfl

end Sys2Proof.Laws.CarriedParts
end

