-- ==== Sys2Proof/Tests/Slice0.lean ====
section
/-! SUPPORT. Tests: terms that the well-formedness checks refuse; concrete states that meet the hypotheses of the statements,
clause by clause; and results worked out by hand from the spec. -/

namespace Sys2Proof.Tests
open Sys2Proof Sys2Proof.Machine
set_option Elab.async false

/-! Helpers: small states, and decidable forms of the hypotheses. -/

/-- Core 0 of a split pair runs from reset: state M of the S world, pc 0. -/
def q : State := State.reset.setCrnState 0 1

/-- The registers that the witnesses read: g1 = 5, g2 = −7, g3 = 0x4000, g4 = 1, g63 of the bank in use = 0x8000. -/
def regs5 (a : CoreArch) : CoreArch :=
  let p (a : CoreArch) (n : BitVec 6) (v : Word) := a.gput n v
  p (p (p (p (p a 1 5) 2 (-7)) 3 0x4000) 4 1) 63 0x8000

def q5 : State := q.modArch 0 regs5

/-- Core 0 in another state of execution. -/
def lv (w : World) (l : Level) (s : State) : State := s.modArch 0 (fun a => { a with world := w, level := l })

def setg (n : BitVec 6) (v : Word) (s : State) : State := s.modArch 0 (fun a => a.gput n v)

/-- A syllable of core 0 that is its whole bundle. -/
def y : Syl := ⟨0, true, []⟩

def y1 : Syl := ⟨0, true, [1]⟩

def y2 : Syl := ⟨0, true, [1, 2]⟩

/-- A write or a read by core 0 in the S world with the M bit, and one in the N world for basin 3. -/
def ww (v : Nat) : RegW := ⟨⟨.core 0, .S, 0, true⟩, true, false, BitVec.ofNat 64 v⟩
def wn (v : Nat) : RegW := ⟨⟨.core 0, .N, 3, false⟩, true, false, BitVec.ofNat 64 v⟩
def rr : RegR := ⟨⟨.core 0, .S, 0, true⟩, true, false⟩

def isOk : GuardAns → Bool
  | .ok _ _ _ => true
  | .refuse _ => false

theorem ok_of {g : GuardAns} (h : isOk g = true) : ∃ r w x, g = .ok r w x := by
  cases g with
  | ok r w x => exact ⟨r, w, x, rfl⟩
  | refuse e => cases h

def takesB (s : State) (w : RegW) (b off : Nat) : Bool :=
  !s.frozen w.acc.src && !s.stopped && isOk (s.guard w.acc (regAddr b (regOff w off)) (regSize w) .write)
    && s.devOk b (regOff w off) (regSize w) && decide (off % 8 = 0) && w.wf

theorem takes_of {s : State} {w : RegW} {b off : Nat} (h : takesB s w b off = true) : s.Takes w b off := by
  simp only [takesB, Bool.and_eq_true, Bool.not_eq_true', decide_eq_true_eq] at h
  obtain ⟨⟨⟨⟨⟨a, b⟩, c⟩, d⟩, e⟩, f⟩ := h
  exact ⟨a, b, ok_of c, d, e, f⟩

def stillB (s : State) (c : CoreId) : Bool :=
  let k := s.core c
  s.coreRuns c && !s.locked (pairOf c) && decide (k.bundle = Bundle.empty) && k.pend.isEmpty && k.ctl.isEmpty && k.longs.isEmpty
    && k.undo.isNone && k.fetched.isEmpty && k.waiting.isNone && decide (k.arch.lpc = 0) && !k.dbg.inject && !k.dbg.stepping && decide (k.dbg.watched = 0) && !s.invasive c
    && !s.traceOn c && !(s.trace.get c).live

theorem still_of {s : State} {c : CoreId} (h : stillB s c = true) : s.Still c := by
  simp only [stillB, Bool.and_eq_true, Bool.not_eq_true', decide_eq_true_eq, List.isEmpty_iff, Option.isNone_iff_eq_none] at h
  obtain ⟨⟨⟨⟨⟨⟨⟨⟨⟨⟨⟨⟨⟨⟨⟨a1, a2⟩, a3⟩, a4⟩, a5⟩, a6⟩, a7⟩, a8⟩, a9⟩, a10⟩, a11⟩, a12⟩, a13⟩, a14⟩, a15⟩, a16⟩ := h
  exact ⟨a1, a2, a3, a4, a5, a6, a7, a8, a9, a10, a11, a12, a13, a14, a15, a16⟩

theorem quiet_of {s : State} {c : CoreId} (h : stillB s c = true) (t : (s.core c).txn = none) : s.Quiet c := ⟨still_of h, t⟩

theorem whole_of {y : Syl} {s : State} (h : (y.stop && decide (y.ext.length ≤ 2)
    && decide ((s.core y.core).arch.pc.toNat % 64 / 4 + (1 + y.ext.length) ≤ 16)) = true) : WholeSyl y s := by
  simp only [Bool.and_eq_true, decide_eq_true_eq] at h
  exact ⟨h.1.1, h.1.2, h.2⟩

/-! Terms that the checks refuse. -/

theorem test_wf_wide_high : (⟨⟨.core 0, .S, 0, true⟩, true, true, 0⟩ : RegW).wf = false := by decide
theorem test_wf_four_bytes : (⟨⟨.core 0, .S, 0, true⟩, false, false, 0x100000000⟩ : RegW).wf = false := by decide
theorem test_wf_read : (⟨⟨.core 0, .S, 0, true⟩, true, true⟩ : RegR).wf = false := by decide
theorem test_wf_ext : (⟨0, true, [1, 2, 3]⟩ : Syl).wf = false := by decide
theorem test_wf_flit : (⟨0, List.replicate 241 0⟩ : Flit).wf = false := by rw [Flit.wf, List.length_replicate]; rfl
theorem test_wf_size : regWriteWf 0x200000000000 2 0 = false := by decide
theorem test_wf_aligned : regWriteWf 0x200000000004 8 0 = false := by decide

/-! Witnesses: cores. -/

theorem quiet_q : q.Quiet 0 := quiet_of (by decide) (by decide)
theorem quiet_q5 : q5.Quiet 0 := quiet_of (by decide) (by decide)
theorem whole_y : WholeSyl y q5 := whole_of (by decide)

/-- A quiet core in each state of execution. -/
theorem witness_quiet_levels :
    (lv .N .U q5).Quiet 0 ∧ (lv .N .K q5).Quiet 0 ∧ (lv .N .H q5).Quiet 0 ∧ (lv .S .U q5).Quiet 0 ∧ (lv .S .K q5).Quiet 0 :=
  ⟨quiet_of (by decide) (by decide), quiet_of (by decide) (by decide), quiet_of (by decide) (by decide),
   quiet_of (by decide) (by decide), quiet_of (by decide) (by decide)⟩

/-- Syllables with one and with two EXT before them are whole too. -/
theorem witness_ext : WholeSyl y1 q5 ∧ WholeSyl y2 q5 := ⟨whole_of (by decide), whole_of (by decide)⟩

/-- IntegerResults: the clause of CTZ that names the lowest bit set, and a shift amount of 63. -/
theorem witness_IntegerResults : ∃ (s : State) (y : Syl) (a : BitVec 6) (n : BitVec 12), s.Quiet y.core ∧ WholeSyl y s ∧ y.ext = []
    ∧ ((s.arch y.core).gval a).getLsbD 2 = true ∧ (∀ m < 2, ((s.arch y.core).gval a).getLsbD m = false) ∧ n.toNat < 64 :=
  ⟨setg 1 0xC q, y, 1, 63, quiet_of (by decide) (by decide), whole_of (by decide), rfl, by decide, by decide, by decide⟩

/-- WideProducts and Products: an even and an odd destination; a zero divisor with DIVTRAP 1 and 0; the quotient −2^63 / −1. -/
theorem witness_Products :
    (q5.Quiet 0 ∧ WholeSyl y q5) ∧ (60 : BitVec 6).toNat % 2 = 0 ∧ (61 : BitVec 6).toNat % 2 = 1
    ∧ ((q.modArch 0 (fun a => { a with ctlS := 2 })).arch 0).divTrap = true ∧ ((q.modArch 0 (fun a => { a with ctlS := 1 })).arch 0).divTrap = false
    ∧ ((setg 1 0x8000000000000000 q).arch 0).gval 1 = BitVec.ofInt 64 (-(2 ^ 63)) :=
  ⟨⟨quiet_q5, whole_y⟩, by decide, by decide, by decide, by decide, by decide⟩

/-- Accumulators: the two fetches of MACD hit and answer without poison. -/
def qMac : State :=
  let ln (n : Nat) : L2Line := ⟨n, 0, .E, 3, 0, false, false, false, true, true, true⟩
  (setg 4 0x4040 q5).modCore 0 (fun k => { k with l2 := [ln 0x100, ln 0x101], l1d := [⟨0x100, 0, 0⟩, ⟨0x101, 1, 0⟩] })

/-- An access answered with a value at once. -/
def hits (x : State × MemAns) : Bool :=
  match x.2 with
  | .ok v => v.hit && !v.poison && v.await.isEmpty
  | .error _ => false

theorem hits_of {x : State × MemAns} (h : hits x = true) :
    ∃ v, x = (x.1, .ok v) ∧ v.hit = true ∧ v.poison = false ∧ v.await = [] := by
  obtain ⟨t, r⟩ := x
  cases r with
  | error e => simp [hits] at h
  | ok v => simp only [hits, Bool.and_eq_true, Bool.not_eq_true', List.isEmpty_iff] at h; exact ⟨v, rfl, h.1.1, h.1.2, h.2⟩

theorem witness_Accumulators : ∃ (s t u : State) (xv zv : MemVal), s.Quiet 0 ∧ WholeSyl y s ∧ u.Quiet 0
    ∧ (u.core 0).bn = (s.core 0).bn ∧ ((s.arch 0).gval 3).toNat % 8 = 0 ∧ ((s.arch 0).gval 4).toNat % 8 = 0
    ∧ s.loadAt 0 ((s.arch 0).gval 3) 8 = (t, .ok xv) ∧ t.loadAt 0 ((s.arch 0).gval 4) 8 = (u, .ok zv)
    ∧ xv.hit = true ∧ zv.hit = true ∧ xv.poison = false ∧ zv.poison = false := by
  obtain ⟨xv, e1, h1, p1, _⟩ := hits_of (x := qMac.loadAt 0 0x4000 8) (by decide)
  obtain ⟨zv, e2, h2, p2, _⟩ := hits_of (x := (qMac.loadAt 0 0x4000 8).1.loadAt 0 0x4040 8) (by decide)
  exact ⟨qMac, _, _, xv, zv, quiet_of (by decide) (by decide), whole_of (by decide), quiet_of (by decide) (by decide),
    by decide, by decide, by decide, e1, e2, h1, h2, p1, p2⟩

theorem witness_Accumulators_places : ∃ (l m : List (Nat × Nat × Word)) (ty tz : RType),
    (qMac.xlate 0 0x4000 8 .read).2 = .ok (l, ty) ∧ ty.isDevice = false ∧ (∀ p ∈ l, p.1 < ridgeBase)
    ∧ (qMac.xlate 0 0x4040 8 .read).2 = .ok (m, tz) ∧ tz.isDevice = false ∧ (∀ p ∈ m, p.1 < ridgeBase) :=
  ⟨_, _, _, _, rfl, by decide, by decide, rfl, by decide, by decide⟩

/-- An access answered late, one that raises an exception, and stores that are taken. -/
def lates (x : State × MemAns) : Bool :=
  match x.2 with
  | .ok v => !v.hit && !v.poison && v.await.isEmpty
  | .error _ => false

def raises (x : State × MemAns) : Bool :=
  match x.2 with
  | .error (.exc _) => true
  | _ => false

theorem lates_of {x : State × MemAns} (h : lates x = true) :
    ∃ v, x = (x.1, .ok v) ∧ v.hit = false ∧ v.poison = false ∧ v.await = [] := by
  obtain ⟨t, r⟩ := x
  cases r with
  | error e => simp [lates] at h
  | ok v => simp only [lates, Bool.and_eq_true, Bool.not_eq_true', List.isEmpty_iff] at h; exact ⟨v, rfl, h.1.1, h.1.2, h.2⟩

/-- MemorySyllables: a load that hits, one that misses, one that raises; a store, an atomic, a prefetch and the maintenance
operations that are taken; the state after each is quiet. -/
theorem witness_MemorySyllables_loads :
    (∃ v, qMac.loadAt 0 0x4000 8 = ((qMac.loadAt 0 0x4000 8).1, .ok v) ∧ v.hit = true ∧ v.poison = false ∧ v.await = [])
    ∧ (qMac.loadAt 0 0x4000 8).1.Quiet 0
    ∧ (∃ v, q5.loadAt 0 0x4004 4 = ((q5.loadAt 0 0x4004 4).1, .ok v) ∧ v.hit = false ∧ v.poison = false ∧ v.await = [])
    ∧ (q5.loadAt 0 0x4004 4).1.Quiet 0
    ∧ raises (q5.loadAt 0 0x700000000000 8) = true :=
  ⟨hits_of (by decide), quiet_of (by decide) (by decide), lates_of (by decide), quiet_of (by decide) (by decide), by decide⟩

theorem witness_MemorySyllables_stores :
    (q5.storeAt 0 0x4007 (leBytes 2 0x1234)).2 = none ∧ (q5.storeAt 0 0x4007 (leBytes 2 0x1234)).1.Quiet 0
    ∧ amoLegal 0x32 = true ∧ lates (q5.amoAt 0 0x4000 0x32 1 0) = true ∧ (q5.amoAt 0 0x4000 0x32 1 0).1.Quiet 0
    ∧ (q5.prefetch 0 0x4000).Quiet 0
    ∧ (∀ k ∈ [0, 1, 2, 3, 4], (q5.cmoAt 0 k 0x4000).2 = none) ∧ (q5.cmoAt 0 4 0x4000).1.Quiet 0 :=
  ⟨by decide, quiet_of (by decide) (by decide), by decide, by decide, quiet_of (by decide) (by decide),
   quiet_of (by decide) (by decide), by decide, quiet_of (by decide) (by decide)⟩

/-- BlockChunks: a chunk filled, copied upwards and downwards, and compared. -/
def okc (x : State × MemAns) : Bool := hits x || lates x

theorem witness_BlockChunks :
    q5.chunkCheck 0 0x4000 5 .write = none ∧ (q5.chunkWrite 0 0x4000 (List.replicate 5 3)).2 = none
    ∧ (q5.chunkWrite 0 0x4000 (List.replicate 5 3)).1.Quiet 0
    ∧ q5.chunkCheck 0 0x8000 5 .read = none ∧ okc (q5.chunkRead 0 0x8000 5) = true
    ∧ ((q5.chunkRead 0 0x8000 5).1.chunkWrite 0 0x4000 (List.replicate 5 0)).2 = none
    ∧ ((q5.chunkRead 0 0x8000 5).1.chunkWrite 0 0x4000 (List.replicate 5 0)).1.Quiet 0
    ∧ okc ((q5.chunkRead 0 0x4000 5).1.chunkRead 0 0x8000 5) = true ∧ ((q5.chunkRead 0 0x4000 5).1.chunkRead 0 0x8000 5).1.Quiet 0
    ∧ q5.leadsHere 0 0x8000 = true ∧ q5.leadsHere 0 0x4000 = true :=
  ⟨by decide, by decide, quiet_of (by decide) (by decide), by decide, by decide, by decide, quiet_of (by decide) (by decide),
   by decide, quiet_of (by decide) (by decide), by decide, by decide⟩

/-- ControlFlow: aligned targets, a call whose return address is stored, a return whose address is loaded, a misaligned
target in a register. -/
theorem witness_ControlFlow :
    (q5.storeAt 0 0x7FF8 (leBytes 8 4)).2 = none ∧ (q5.storeAt 0 0x7FF8 (leBytes 8 4)).1.Quiet 0
    ∧ ((q5.storeAt 0 0x7FF8 (leBytes 8 4)).1.core 0).bn = (q5.core 0).bn ∧ ((q5.arch 0).gval 63).toNat % 8 = 0
    ∧ okc (q5.loadAt 0 0x8000 8) = true ∧ (q5.loadAt 0 0x8000 8).1.Quiet 0
    ∧ ((q5.arch 0).gval 3).toNat % 4 = 0 ∧ ((q5.arch 0).gval 1).toNat % 4 ≠ 0
    ∧ q5.readsHere 0 0x8000 8 = true :=
  ⟨by decide, quiet_of (by decide) (by decide), by decide, by decide, by decide, quiet_of (by decide) (by decide), by decide, by decide, by decide⟩

/-- LevelTransfers: a call from each level into a level that is not busy, and a saved state that XRET may return to. -/
theorem witness_LevelTransfers :
    ((lv .N .U q5).Quiet 0 ∧ (((lv .N .U q5).arch 0).hset .N .K).busy = false)
    ∧ ((lv .N .K q5).Quiet 0 ∧ (((lv .N .K q5).arch 0).hset .N .H).busy = false)
    ∧ ((lv .S .K q5).Quiet 0 ∧ (((lv .S .K q5).arch 0).hset .S .M).busy = false)
    ∧ (let h := (q5.arch 0).hset (q5.arch 0).world (q5.arch 0).level
       xretOk (q5.arch 0).world (q5.arch 0).level h.savedWorld h.savedLevel (q5.pair (pairOf 0)).sok = true) :=
  ⟨⟨quiet_of (by decide) (by decide), by decide⟩, ⟨quiet_of (by decide) (by decide), by decide⟩,
   ⟨quiet_of (by decide) (by decide), by decide⟩, by decide⟩

theorem witness_LevelTransfers_chain : ∀ n, q5.offered 0 n = false := by
  intro n
  have h : q5.ready Rdy.spoutHub = false := by decide
  simp [State.offered, h]

/-- TransactionsAndSync: outside a transaction, at depth 1, 2 and 31. -/
def inTxn (st : Nat) (s : State) : State :=
  s.modCore 0 (fun k => { k with txn := some ⟨st, some (k.arch.gdst 5), 0x4440, 9, k.arch.save⟩ })

theorem witness_TransactionsAndSync :
    (q5.Still 0 ∧ (q5.core 0).mb = [] ∧ q5.ridgeOpen 0 = false ∧ (q5.core 0).txn = none)
    ∧ ((inTxn 1 q5).Still 0 ∧ ((inTxn 1 q5).core 0).txn.map (·.depth) = some 1)
    ∧ ((inTxn 2 q5).Still 0 ∧ ((inTxn 2 q5).core 0).txn.map (·.depth) = some 2)
    ∧ ((inTxn 31 q5).Still 0 ∧ ((inTxn 31 q5).core 0).txn.map (·.depth) = some 31)
    ∧ ((q5.modArch 0 (fun a => { a with pc := a.pc + 4 })).drainAll 0).1.Quiet 0 ∧ (lv .N .K q5).Quiet 0 :=
  ⟨⟨still_of (by decide), by decide, by decide, by decide⟩, ⟨still_of (by decide), by decide⟩, ⟨still_of (by decide), by decide⟩,
   ⟨still_of (by decide), by decide⟩, quiet_of (by decide) (by decide), quiet_of (by decide) (by decide)⟩

/-- ControlRegisters: an active source of an edge mode to take from, none active, a VMID in the pair's BASINS mask. -/
def qAct : State :=
  ((q5.setReady Rdy.spoutHub true).setSrc 64 { (q5.src 64) with sense := 2, count := 2, en := true, target := 0, world := .S, tlevel := 3 }).modCore 0
    (fun k => { k with actM := 64, arch := { k.arch with sptIe := 0xF } })

theorem witness_ControlRegisters :
    (qAct.Quiet 0 ∧ ((qAct.core 0).act (qAct.arch 0).world (qAct.arch 0).level).toNat = 64 ∧ qAct.srcTarget 0 64 = 0
      ∧ 2 ≤ (qAct.anySrc 0 64).sense ∧ 0 < (qAct.anySrc 0 64).count)
    ∧ (q5.core 0).act (q5.arch 0).world (q5.arch 0).level = 0x3FF
    ∧ ((q5.modPair 0 (fun p => { p with basins := 8 })).pair (pairOf 0)).basins.getLsbD 3 = true
    ∧ (q5.pair (pairOf 0)).basins.getLsbD 3 = false :=
  ⟨⟨quiet_of (by decide) (by decide), by decide, by decide, by decide, by decide⟩, by decide, by decide, by decide⟩

/-- TlbInvalidations: the operand of each operation, with BCAST 0 and 1, at a level that may use it. -/
theorem witness_TlbInvalidations : ∀ n ∈ [0, 1, 2, 3, 4, 5, 6], ∀ bc ∈ [0, 1],
    ((setg 1 (BitVec.ofNat 64 (n + 1024 * bc)) q).arch 0).level = .M
    ∧ (((setg 1 (BitVec.ofNat 64 (n + 1024 * bc)) q).arch 0).gval 1).toNat % 16 = n
    ∧ (((setg 1 (BitVec.ofNat 64 (n + 1024 * bc)) q).arch 0).gval 1).getLsbD 10 = decide (bc = 1) := by decide

/-- EntriesAndLandings: a source of the own level, one of the other world, a long operation that waits for nothing, an entry
whose line the core owns, a busy target and a fetch of a place of type DEVICE. -/
def qInt : State := { qAct with cores := (qAct.modCore 0 (fun k => { k with actM := 0x3FF })).cores }

def qXw : State := lv .N .K ((q5.setReady Rdy.spoutHub true).setSrc 64 { (q5.src 64) with sense := 2, count := 2, en := true, target := 0, world := .S, tlevel := 1 }
  |>.modArch 0 (fun a => { a with sptIe := 0xF, mctl := 1 }))

theorem witness_EntriesAndLandings_interrupts :
    (qInt.Quiet 0 ∧ qInt.regsWf = true ∧ qInt.accepts 0 64 = some (.enter .S .M))
    ∧ (qXw.Quiet 0 ∧ qXw.regsWf = true ∧ qXw.accepts 0 64 = some .xworld) :=
  ⟨⟨quiet_of (by decide) (by decide), by decide, by decide⟩, ⟨quiet_of (by decide) (by decide), by decide, by decide⟩⟩

theorem witness_EntriesAndLandings_best : qInt.bestSource 0 = some 64 ∧ qXw.bestSource 0 = some 64 := ⟨by decide, by decide⟩

def qLong : State := q5.modCore 0 (fun k => { k with longs := [⟨.g 5, 77, 0, .div, 1, [], none, (0, false), false⟩] })

def qMb : State := qMac.modCore 0 (fun k => { k with mb := [⟨0x100, .normalWB, 0xF, 0x1234, none, coreAcc 0 k.arch, false, false⟩] })

theorem witness_EntriesAndLandings_landings :
    (qLong.between 0 = true ∧ ∀ o, (qLong.core 0).longs[0]? = some o → o.await = [] ∧ o.abort = none)
    ∧ (qMb.locked (pairOf 0) = false ∧ qMb.frozen (.core 0) = false ∧ (qMb.core 0).l2En = true
      ∧ ∃ l, qMb.l2Find 0 0x100 = some l ∧ l.st ≠ .S ∧ l.w = true) :=
  ⟨⟨by decide, fun o h => by cases h; decide⟩, by decide, by decide, by decide, ⟨_, rfl, by decide, by decide⟩⟩

theorem witness_EntriesAndLandings_illegal :
    ((q5.arch 0).hset .S .M).busy = false
    ∧ (let s := (lv .N .H q5).modArch 0 (fun a => { a with hs := { a.hs with estat := 0x8001 } })
       s.Quiet 0 ∧ ((s.arch 0).hset .N .H).busy = true ∧ (s.arch 0).ms.busy = false)
    ∧ (let s := (q5.fset Blk.ERR Reg.ERR_CTRL_ESC_EN 0).modArch 0 (fun a => { a with ms := { a.ms with estat := 0x8001 } })
       s.Quiet 0 ∧ (s.arch 0).ms.busy = true ∧ s.regsWf = true ∧ s.flag Blk.ERR Reg.ERR_CTRL_ESC_EN = false) :=
  ⟨by decide, ⟨quiet_of (by decide) (by decide), by decide, by decide⟩,
   ⟨quiet_of (by decide) (by decide), by decide, by decide, by decide⟩⟩

theorem witness_EntriesAndLandings_fetch : ∃ (s : State) (pa : Nat) (ty : RType), s.Quiet 0
    ∧ s.translate 0 (s.arch 0).pc .fetch = (s, .ok (pa, ty)) ∧ ty.isDevice = true :=
  ⟨q5.modArch 0 (fun a => { a with pc := 0x200000000000 }), _, _, quiet_of (by decide) (by decide), rfl, by decide⟩

/-! Witnesses: pairs, sources, errors, power, time. -/

/-- A locked pair that runs. -/
def lk : State := ((State.reset.fset (Blk.crn 0) Reg.CRN_STATUS_MODE 1).setCrnState 0 1).modArch 0 regs5

/-- The same in another CRN state, split or locked. -/
def lkAt (n phase : Nat) : State := (lk.setCrnState 0 n).modPair 0 (fun p => { p with phase := phase })

theorem witness_PairService_boundaries :
    (lk.locked 0 = true ∧ lk.between 0 = true ∧ lk.ridgeOpen 0 = false ∧ (lk.core 0).txn = none ∧ (lk.core 0).mb = []
      ∧ (lk.core 0).pend = [] ∧ (lk.core 0).longs = [] ∧ lk.regsWf = true ∧ lk.crnState 0 = 1)
    ∧ (let s := inTxn 1 (lk.fset (Blk.crn 0) Reg.CRN_CTRL_INTERVAL_US 7)
       s.locked 0 = true ∧ s.between 0 = true ∧ (s.core 0).txn.isSome = true ∧ s.fget (Blk.crn 0) Reg.CRN_CTRL_INTERVAL_US < 8 ∧ s.issues 0 = true)
    ∧ (let s := ((lkAt 2 0).modPair 0 (fun p => { p with ckpt := some (lk.arch 0) })).fset Blk.ERR Reg.ERR_CTRL_ESC_EN 0
       s.locked 0 = true ∧ (s.pair 0).ckpt.isSome = true ∧ s.regsWf = true ∧ s.crnState 0 = 2 ∧ (s.core 0).l2 = [] ∧ s.errs.length < 16
        ∧ s.flag Blk.ERR Reg.ERR_CTRL_ESC_EN = false) := by decide

theorem witness_PairService_tests :
    (∀ n ∈ [1, 2, 3], let s := lkAt 3 n
      s.regsWf = true ∧ s.locked 0 = true ∧ s.crnState 0 = 3 ∧ (s.pair 0).phase = n ∧ s.traceOn 0 = false)
    ∧ (let s := (lkAt 3 3).fset Blk.ERR Reg.ERR_CTRL_ESC_EN 0
       s.regsWf = true ∧ s.crnState 0 = 3 ∧ s.flag Blk.ERR Reg.ERR_CTRL_ESC_EN = false) := by decide

theorem witness_PairService_commands :
    (lkAt 4 0).Takes (ww 2) (Blk.crn 0) 0x010 ∧ woVal Reg.CRN_CMD_OP (regMask (ww 2)) (regBits (ww 2)) = 2 ∧ (lkAt 5 0).Takes (ww 2) (Blk.crn 0) 0x010
    ∧ lk.Takes (ww 1) (Blk.crn 0) 0x010 ∧ woVal Reg.CRN_CMD_OP (regMask (ww 1)) (regBits (ww 1)) = 1
    ∧ (let s := (lkAt 4 0).modCore 0 (fun k => { k with start := some 0x1000 })
       s.Takes (ww 3) (Blk.crn 0) 0x010 ∧ (s.core 0).start = some 0x1000 ∧ (s.core 0).l2 = [] ∧ (s.core 0).txn = none)
    ∧ (let s := lk.rput (Blk.crn 0) 0x3F8 1
       s.Takes (ww 1) (Blk.crn 0) 0x400 ∧ s.expert (Blk.crn 0) = true) :=
  ⟨takes_of (by decide), by decide, takes_of (by decide), takes_of (by decide), by decide,
   ⟨takes_of (by decide), by decide, by decide, by decide⟩, takes_of (by decide), by decide⟩

/-- SourceEvents: a global source, a timer, SPT_RAISE and SPT_IPI, and the writes of SPT_SRC. -/
def srcAt (n : Nat) (x : Source) (s : State) : State := s.setSrc n x

def sw (target tl sense en clr : Nat) : RegW := ww (target * 2 ^ Reg.SPT_SRC_TARGET.lo + tl * 2 ^ Reg.SPT_SRC_TLEVEL.lo
  + sense * 2 ^ Reg.SPT_SRC_SENSE.lo + en * 2 ^ Reg.SPT_SRC_EN.lo + clr * 2 ^ Reg.SPT_SRC_CLR.lo)

def qSrc : State := (srcAt 600 { (q5.src 600) with sense := 2, count := 14, en := true, target := 0, world := .S, tlevel := 3 } q5).modCore 0
  (fun k => { k with sptSel := 600 })

def qSrcN : State := srcAt 600 { (qSrc.src 600) with world := .N, owner := 3, tlevel := 1 } qSrc |>.modPair 0 (fun p => { p with basins := 0xFF })

theorem witness_SourceEvents_inputs :
    (q5.wf = true ∧ globalSrc 64 = true)
    ∧ (let s := q5.setPriv 0 4 { (q5.priv 0 4) with sense := 2, seen := false }
       s.locked (pairOf 0) = false ∧ (s.priv 0 4).sense = 2 ∧ (s.priv 0 4).count < 15 ∧ sparseWf Source.dfltPriv (s.core 0).priv = true)
    ∧ (let s := (q5.setPriv 0 1 { (q5.priv 0 1) with en := true, sense := 0 })
       (s.priv 0 1).en = true ∧ (s.priv 0 1).sense = 0
        ∧ s.fget (Blk.spt 0) Reg.SPT_TMR_S_SECONDS = s.tb.now / (10 ^ 9 * 2 ^ 16) % 2 ^ 32
        ∧ s.fget (Blk.spt 0) Reg.SPT_TMR_S_NS ≤ s.tb.now % (10 ^ 9 * 2 ^ 16) / 2 ^ 16) := by decide

theorem witness_SourceEvents_raise :
    (qSrc.locked (pairOf 0) = false ∧ qSrc.Takes (ww 600) Blk.HUB 0x010 ∧ 2 ≤ (qSrc.src 600).sense ∧ (qSrc.src 600).count < 15)
    ∧ 15 ≤ ((srcAt 600 { (qSrc.src 600) with count := 15 } qSrc).src 600).count
    ∧ (let s := q5.setPriv 0 8 { (q5.priv 0 8) with sense := 2 }
       s.Takes (ww 0) Blk.HUB 0x018 ∧ 2 ≤ (s.priv 0 8).sense ∧ (s.priv 0 8).count < 15)
    ∧ q5.Takes (wn 0) Blk.HUB 0x018 ∧ (q5.pair (pairOf 0)).basins.getLsbD 3 = false :=
  ⟨⟨by decide, takes_of (by decide), by decide, by decide⟩, by decide, ⟨takes_of (by decide), by decide, by decide⟩,
   takes_of (by decide), by decide⟩

theorem witness_SourceEvents_writes :
    (qSrc.Takes (sw 0 3 2 1 1) Blk.HUB 0x008 ∧ qSrc.sptSel (sw 0 3 2 1 1).acc.src = 600 ∧ guardSrc 600 = false
      ∧ qSrc.routable 0 (qSrc.src 600).owner (qSrc.src 600).world = true)
    ∧ (qSrc.Takes (sw 0 3 4 1 0) Blk.HUB 0x008 ∧ (4 : Nat) ≠ (qSrc.src 600).sense)
    ∧ (qSrc.Takes (sw 2 3 2 1 0) Blk.HUB 0x008 ∧ qSrc.routable 2 (qSrc.src 600).owner (qSrc.src 600).world = true)
    ∧ (qSrcN.Takes (sw 1 1 2 1 0) Blk.HUB 0x008 ∧ qSrcN.routable 1 (qSrcN.src 600).owner (qSrcN.src 600).world = true
      ∧ (qSrcN.src 600).world = .N ∧ (qSrcN.src 600).tlevel = 1 ∧ (qSrcN.src 600).owner ≠ 0 ∧ 0 < (qSrcN.src 600).count)
    ∧ qSrc.Takes (sw 0 3 5 1 0) Blk.HUB 0x008 :=
  ⟨⟨takes_of (by decide), by decide, by decide, by decide⟩, ⟨takes_of (by decide), by decide⟩, ⟨takes_of (by decide), by decide⟩,
   ⟨takes_of (by decide), by decide, by decide, by decide, by decide, by decide⟩, takes_of (by decide)⟩

def rec0 : ErrRec := ⟨7, true, 1, false, false, 0, 0, .S, 2, 0, 0, 123456789, 5⟩

/-- Core 0 frozen by its guard, with core 1 of the M bit to thaw it. -/
def w1 (v : Nat) : RegW := ⟨⟨.core 1, .S, 0, true⟩, true, false, BitVec.ofNat 64 v⟩
def qFrz : State := q5.fset (Blk.grd 0) Reg.GRD_STATUS_FROZEN 1

theorem witness_ErrorQueueAndThaws :
    (let s : State := { q5 with errs := [rec0] }
     s.frozen rr.acc.src = false ∧ s.stopped = false ∧ (∃ a b c, s.guard rr.acc (regAddr Blk.ERR 0x028) 8 .read = .ok a b c)
      ∧ rec0.isNew = true ∧ rec0.ns < 2 ^ 32 ∧ rec0.sec < 2 ^ 32 ∧ s.Takes (ww 7) Blk.ERR 0x030)
    ∧ (qFrz.regsWf = true ∧ qFrz.locked (pairOf 0) = false ∧ qFrz.Takes (w1 0x31) (Blk.grd 0) 0x018
      ∧ qFrz.flag (Blk.grd 0) Reg.GRD_STATUS_FROZEN = true ∧ qFrz.fget (Blk.grd 0) Reg.GRD_STATUS_CAUSE ≠ 3 ∧ (qFrz.core 0).txn = none
      ∧ (qFrz.core 0).pend = [] ∧ (qFrz.core 0).ctl = [] ∧ qFrz.traceOn 0 = false ∧ (qFrz.trace.get 0).live = false
      ∧ (qFrz.arch 0).ms.busy = false ∧ (qFrz.core 0).start = none ∧ (qFrz.core 0).l2 = []) :=
  ⟨⟨by decide, by decide, ok_of (by decide), by decide, by decide, by decide, takes_of (by decide)⟩,
   ⟨by decide, by decide, takes_of (by decide), by decide, by decide, by decide, by decide, by decide, by decide, by decide,
    by decide, by decide, by decide⟩⟩

/-- ResetsAndStarts: the device out of reset; a start of core 0; the reset of basin 3 with an open stage; a second owner key. -/
def qBoot (p : BootPhase) (s : State) : State := { s with boot := { s.boot with phase := p } }

theorem witness_ResetsAndStarts :
    (let s := qBoot .running q5
     s.boot.phase ≠ .inReset ∧ s.Takes (ww 0xD1E5) Blk.PWR 0x070)
    ∧ (let s := State.reset
       s.Takes (w1 0x1000) Blk.PWR 0x010 ∧ s.locked (pairOf 0) = false ∧ s.traceOn 0 = false ∧ (s.trace.get 0).live = false ∧ s.crnState 0 = 0
        ∧ (w1 0x1000).val = BitVec.ofNat 64 ((0 : Fin 32).val * 2 ^ 48 + 0x400 * 4))
    ∧ (let s := (q5.setStg 2 Reg.SLU_STAGE_OWNER 3).setStg 2 Reg.SLU_STAGE_STATE 1
       s.Takes (ww 8) Blk.PWR 0x048 ∧ s.wf = true ∧ globalSrc 64 = true ∧ (s.stage 2).cfgs = [] ∧ s.stg 2 Reg.SLU_STAGE_OWNER = 3
        ∧ s.stg 2 Reg.SLU_STAGE_STATE = 1)
    ∧ (let s : State := { q5 with fuses := { q5.fuses with programmed := 3 } }
       s.Takes (ww (5 * 2 ^ 8)) Blk.PWR 0x058 ∧ s.fuses.programmed.getLsbD 0 = true ∧ s.fuses.revoked.getLsbD 0 = false) :=
  ⟨⟨by decide, takes_of (by decide)⟩, ⟨takes_of (by decide), by decide, by decide, by decide, by decide, by decide⟩,
   ⟨takes_of (by decide), by decide, by decide, by decide, by decide, by decide⟩, ⟨takes_of (by decide), by decide, by decide⟩⟩

/-- PowerAndSupply: a jet's domain asked down and allowed, one not allowed; a sleeping core with a pending source; reset held. -/
def qDom : State := q5.fset (Blk.jet 3) Reg.JET_STATUS_STATE 5

theorem witness_PowerAndSupply :
    (qDom.regsWf = true ∧ qDom.Takes (ww (2 * 2 ^ 8 + 75)) Blk.PWR 0x018 ∧ qDom.pwr 75 ≠ 3 ∧ qDom.pwrAllowed (some (.core 0)) 75 2 = true
      ∧ qDom.pwr 75 ≠ 2 ∧ (q5.fset (Blk.jet 3) Reg.JET_STATUS_STATE 1).pwrAllowed (some (.core 0)) 75 2 = false)
    ∧ (let s : State := { q5.setPwr 75 3 with pwrWait := [(75, 2)] }
       s.pwr 75 = 3 ∧ s.pwrWait = [(75, 2)])
    ∧ (qBoot .inReset State.reset).boot.phase = .inReset ∧ State.reset.regsWf = true
    ∧ q5.crnState 0 = 1 ∧ q5.ready (Rdy.core 0) = false :=
  ⟨⟨by decide, takes_of (by decide), by decide, by decide, by decide, by decide⟩, by decide, by decide, by decide, by decide, by decide⟩

def qHush : State := qInt.setPwr 0 1

theorem witness_PowerAndSupply_wake : qHush.locked (pairOf 0) = false ∧ qHush.pwr 0 = 1 ∧ (qHush.core 0).deep = false
    ∧ (∃ n ∈ qHush.srcNumbers, 32 ≤ n ∧ qHush.srcPending 0 n = true ∧ (qHush.src n).en = true ∧ (qHush.src n).target = 0)
    ∧ qHush.ready Rdy.spoutHub = true :=
  ⟨by decide, by decide, by decide, ⟨64, by decide, by decide, by decide, by decide, by decide⟩, by decide⟩

/-- ClocksAndTime and PpsEdges: the codes at their bounds, a regulator that answers, a step that is due, an edge near another. -/
theorem witness_ClocksAndTime :
    (q5.regsWf = true ∧ q5.Takes (ww 22) Blk.CLK 0 ∧ q5.Takes (ww 3) Blk.CLK 0 ∧ q5.avs.failed = false ∧ q5.pwr 0 = 0
      ∧ 4 ≤ q5.fget Blk.CLK (Reg.CLK_FREQ_CODE.nth 0) ∧ 880 ≤ q5.fget Blk.PWR Reg.PWR_AVS_VMAX
      ∧ q5.fget Blk.CLK (Reg.CLK_FREQ_CODE.nth 0) ≤ q5.fget Blk.CLK (Reg.CLK_FREQ_CUR.nth 0))
    ∧ (let s := q5.fset Blk.PWR Reg.PWR_AVS_TARGET 800
       s.fget Blk.PWR Reg.PWR_AVS_TARGET = 800 ∧ 800 ≠ s.avs.cmd)
    ∧ q5.Takes (ww (5 * 2 ^ 32)) Blk.DTB 0x000 ∧ q5.Takes (ww (10 ^ 9 * 2 ^ 32)) Blk.DTB 0x000
    ∧ q5.Takes (ww 500000000) Blk.DTB 0x010 ∧ q5.Takes (ww 500000001) Blk.DTB 0x010
    ∧ ({ q5 with tb := { q5.tb with step := some 77 } } : State).tb.step = some 77 ∧ q5.tb.ppsTick = none
    ∧ (let s : State := { q5 with tb := { q5.tb with ppsTick := some 0, ticks := 99999999 } }
       s.regsWf = true ∧ s.tb.ppsTick = some 0 ∧ s.tb.ticks < 0 + 100000000) :=
  ⟨⟨by decide, takes_of (by decide), takes_of (by decide), by decide, by decide, by decide, by decide, by decide⟩, by decide,
   takes_of (by decide), takes_of (by decide), takes_of (by decide), takes_of (by decide), by decide, by decide, by decide⟩

/-! Witnesses: memory and its service. -/

def pl : PoolLine := ⟨77, 3, 0xABCDEF0123456789, 0, false⟩
def l2 (st : Mesi) : L2Line := ⟨77, 0, st, 0x5555AAAA, 0, false, false, false, true, true, true⟩
def homed (ls : List PoolLine) (d : List DirEnt) (s : State) : State := s.modSlice (s.homeOf 77) (fun x => { x with lines := ls, dir := d })

/-- Core 0 owns line 77 (the home holds a copy), and cores 0 and 1 share it. -/
def qOwn (st : Mesi) : State := (homed [pl] [⟨77, 2, true, 1, 0, []⟩] q5).modCore 0 (fun k => { k with l2 := [l2 st], l1d := [⟨77, 77, 0⟩] })
def qTwo : State := ((homed [pl] [⟨77, 2, false, 3, 0, []⟩] q5).modCore 0 (fun k => { k with l2 := [l2 .S] })).modCore 1 (fun k => { k with l2 := [l2 .S] })

theorem witness_HomeMessages_fresh :
    q5.mayRequest 0 77 = true ∧ q5.l2Find 0 77 = none ∧ q5.dirFind (q5.homeOf 77) 77 = none ∧ (q5.core 0).l2 = []
    ∧ (q5.slice (q5.homeOf 77)).dir = [] ∧ (q5.slice (q5.homeOf 77)).lines = []
    ∧ (∃ r w x, q5.guard (coreAcc 0 (q5.arch 0)) (77 * 64) 64 .read = .ok r w x)
    ∧ (∃ r w x, q5.guard (coreAcc 0 (q5.arch 0)) (77 * 64) 64 .write = .ok r w x) :=
  ⟨by decide, by decide, by decide, by decide, by decide, by decide, ok_of (by decide), ok_of (by decide)⟩

theorem witness_HomeMessages_held :
    ((qOwn .M).l2Find 0 77 = some (l2 .M) ∧ ((qOwn .M).slice ((qOwn .M).homeOf 77)).dir = [⟨77, 2, true, 1, 0, []⟩]
      ∧ ((qOwn .M).slice ((qOwn .M).homeOf 77)).lines = [pl])
    ∧ (qOwn .E).l2Find 0 77 = some (l2 .E)
    ∧ (qTwo.l2Find 0 77 = some (l2 .S) ∧ qTwo.l2Find 1 77 = some (l2 .S) ∧ qTwo.mayRequest 0 77 = true ∧ (qTwo.core 0).txn = none
      ∧ (qTwo.slice (qTwo.homeOf 77)).dir = [⟨77, 2, false, 3, 0, []⟩])
    ∧ (∃ r w x, qTwo.guard (coreAcc 0 (qTwo.arch 0)) (77 * 64) 64 .write = .ok r w x) :=
  ⟨⟨rfl, rfl, rfl⟩, rfl, ⟨rfl, rfl, by decide, by decide, rfl⟩, ok_of (by decide)⟩

/-- All 16 ways of directory set 5 pinned, core 0 with the largest stamp. -/
def qPin : State := (inTxn 1 (q5.modSlice 1 (fun z => { z with dir := (List.range 16).map (fun i =>
  ⟨5 + 2048 * i, i, false, 0, 0, [⟨if i = 3 then 0 else 1, 2, if i = 3 then 9 else 7⟩]⟩) })))

theorem witness_UncachedAndPins :
    (let s := homed [pl] [] q5
     s.served (77 * 64) = true ∧ s.dirFind (s.homeOf 77) 77 = none ∧ (s.slice (s.homeOf 77)).dir = [] ∧ (s.slice (s.homeOf 77)).lines = [pl]
      ∧ s.served (77 * 64 + 56) = true)
    ∧ ((qPin.slice 1).dir.length = 16 ∧ (qPin.core 0).txn.map (fun x => (x.stamp, x.depth)) = some (9, 1) ∧ qPin.regsWf = true
      ∧ (∀ e ∈ (qPin.slice 1).dir, e.line % 2048 = 5 ∧ e.pins ≠ []
        ∧ ∀ p ∈ e.pins, (p.core ≠ 0 → p.stamp.toNat < 9) ∧ (p.core = 0 → p.stamp = 9))
      ∧ ∃ e ∈ (qPin.slice 1).dir, ∃ p ∈ e.pins, p.core = 0) := by decide +kernel

theorem witness_PoolAndWalks :
    (q5.regsWf = true ∧ q5.Takes (ww 1) (Blk.trn 0) 0x080 ∧ q5.locked (pairOf 0) = false ∧ (q5.core 0).txn = none ∧ (q5.core 0).l2 = []
      ∧ q5.flag (Blk.trn 0) Reg.TRN_L2OP_BUSY = false)
    ∧ (q5.fset (Blk.trn 0) Reg.TRN_L2OP_BUSY 1).Takes (ww 2) (Blk.trn 0) 0x080
    ∧ (q5.Takes (ww 12) (Blk.pol 2) 0x000 ∧ q5.flag (Blk.pol 2) Reg.POL_SRAM_BUSY = false ∧ (q5.slice 2).lines = []
      ∧ q5.fget (Blk.pol 2) Reg.POL_SRAM_WAYS < 12 ∧ q5.Takes (ww 13) (Blk.pol 2) 0x000)
    ∧ q5.fget (Blk.pol 2) Reg.POL_FENCE_STATE = 0 ∧ q5.Takes (ww 1) (Blk.pol 2) 0x018 ∧ q5.Takes (wn 1) (Blk.pol 2) 0x018
    ∧ (let s := q5.fset (Blk.pol 2) Reg.POL_FENCE_STATE 1
       s.regsWf = true ∧ s.substOf 2 = some 18 ∧ s.fget (Blk.pol 2) Reg.POL_FENCE_STATE = 1 ∧ ∀ c, (s.core c).l2 = []) :=
  ⟨⟨by decide, takes_of (by decide), by decide, by decide, by decide, by decide⟩, takes_of (by decide),
   ⟨takes_of (by decide), by decide, by decide, by decide, takes_of (by decide)⟩, by decide, takes_of (by decide), takes_of (by decide),
   by decide⟩

theorem witness_PseudoChannels :
    (let s := q5.fset (Blk.cis 0) Reg.CIS_STATUS_TRAIN 1
     s.regsWf = true ∧ s.fget (Blk.cis 0) Reg.CIS_STATUS_TRAIN = 1 ∧ s.reserve = false ∧ s.rget (Blk.cis 0) 0x018 < 2 ^ 32 ∧ s.errs.length < 16)
    ∧ q5.Takes (ww (1 + 256 * 5)) (Blk.cis 0) 0x020 ∧ q5.mapped 5 = false ∧ q5.Takes (wn 1) (Blk.cis 0) 0x020
    ∧ ((q5.rput (Blk.cis 0) 0x018 0x20).Takes (ww (1 + 256 * 5)) (Blk.cis 0) 0x020 ∧ (q5.rput (Blk.cis 0) 0x018 0x20).mapped 5 = true)
    ∧ (q5.Takes (ww 1) Blk.CIS0 0x000 ∧ q5.flag Blk.SA Reg.SA_REGION_VALID = false ∧ q5.rget Blk.SPL Reg.SPL_DEEP_SIZE_SIZE.off = 0
      ∧ q5.fget Blk.SLU Reg.SLU_AREA_SIZE_SIZE = 0)
    ∧ (q5.fset Blk.SA Reg.SA_REGION_VALID 1).flag Blk.SA Reg.SA_REGION_VALID = true
    ∧ (let s := (q5.fset Blk.CIS0 Reg.CIS_CTRL_RESERVE 1)
       s.reserve = true ∧ s.flag Blk.CIS0 Reg.CIS_CAP_RELOC_VALID = false) :=
  ⟨by decide, takes_of (by decide), by decide, takes_of (by decide), ⟨takes_of (by decide), by decide⟩,
   ⟨takes_of (by decide), by decide, by decide, by decide⟩, by decide, by decide⟩

theorem witness_CisternWords :
    (let s := q5.setReady (Rdy.cis 0) true
     s.wf = true ∧ s.resolve 0x4008 = .at_ (locOf (pcOf 0x4008) (pageOf 0x4008) (bits 0x4008 11 0))
      ∧ s.stackReady (locOf (pcOf 0x4008) (pageOf 0x4008) (bits 0x4008 11 0)) = true)
    ∧ (q5.wf = true ∧ q5.resolve 0x4008 = .at_ (locOf (pcOf 0x4008) (pageOf 0x4008) (bits 0x4008 11 0))
      ∧ q5.wordPoison (locOf (pcOf 0x4008) (pageOf 0x4008) (bits 0x4008 11 0)) = false)
    ∧ (let k := locOf (pcOf 0x4008) (pageOf 0x4008) (bits 0x4008 11 0)
       ({ q5 with poison := [k / 8] } : State).wordPoison k = true)
    ∧ (q5.rput (Blk.cis 0) 0x018 (BitVec.ofNat 64 (2 ^ pcOf 0x4008))).resolve 0x4008 = .lost
    ∧ q5.fget Blk.CIS0 Reg.CIS_SCRUB_PERIOD_H ≠ 0 ∧ q5.mapped (pcOf 0x4008) = false
    ∧ (q5.fset Blk.CIS0 Reg.CIS_SCRUB_PERIOD_H 0).fget Blk.CIS0 Reg.CIS_SCRUB_PERIOD_H = 0 := by decide

def qCh (st : Nat) (s : State) : State := s.fset (Blk.cas 2) Reg.CAS_STATUS_STATE st

theorem witness_ChannelService :
    (let s := (qCh 1 q5).fset Blk.ERR Reg.ERR_CTRL_ESC_EN 0
     s.regsWf = true ∧ s.errs.length < 16 ∧ s.linkedCh 2 = false ∧ s.frames = [] ∧ s.chState 2 = 1 ∧ s.flag Blk.ERR Reg.ERR_CTRL_ESC_EN = false)
    ∧ (∀ n ∈ [1, 2, 3], (qCh n q5).Takes (ww 1) (Blk.cas 2) Reg.CAS_CMD_OP.off ∧ (qCh n q5).chState 2 = n)
    ∧ (qCh 1 q5).Takes (wn 1) (Blk.cas 2) Reg.CAS_CMD_OP.off
    ∧ ((qCh 1 q5).modChan 2 (fun k => { k with quiescing := true }) |>.chan 2).quiescing = true
    ∧ ((qCh 3 q5).modChan 2 (fun k => { k with testing := true }) |>.chan 2).testing = true ∧ bitAt q5.bankFenced 1 = false :=
  ⟨by decide, by
    intro n h
    simp only [List.mem_cons, List.not_mem_nil, or_false] at h
    rcases h with rfl | rfl | rfl <;> exact ⟨takes_of (by decide), by decide⟩,
   takes_of (by decide), by decide, by decide, by decide⟩

/-! Witnesses: frames. -/

/-- Line MAC 4 on lanes 4 to 7 and client MAC 9. -/
def pm (s : State) : State := { s with plat := { s.plat with macs := [⟨4, true, true, 4, 4, 2, 0x4⟩, ⟨9, true, false, 9, 1, 2, 0x4⟩] } }
def ms (m : MacId) (st mode : Nat) (s : State) : State := (s.setMf m Reg.MAC_STATUS_STATE st).setMf m Reg.MAC_STATUS_MODE mode
def lanesReady (l : List Nat) (s : State) : State := l.foldl (fun s k => s.setReady (Rdy.lane k) true) s
def up (m : MacId) (s : State) : State := s.setReady (Rdy.ofMac m) true

/-- A frame of `n` bytes from 02:…:0C to 01:…:06, with its FCS. -/
def eth (n : Nat) (ty : Nat) (rest : List Byte) : List Byte :=
  let b := ([1, 2, 3, 4, 5, 6, 7, 8, 9, 10, 11, 12] : List Byte) ++ beBytes 2 ty ++ rest
  withFcs (b ++ List.replicate (n - 4 - b.length) 0)

theorem witness_LanesAndNegotiation :
    (let s := ms 9 3 3 (pm q5)
     s.regsWf = true ∧ s.stopped = false ∧ s.macOfLane 9 = some 9 ∧ s.laneIn 9 = true ∧ (s.usedLanes 9).contains 9 = true ∧ s.macState 9 = 3)
    ∧ q5.macOfLane 9 = none ∧ q5.laneIn 9 = true
    ∧ q5.Takes (ww 0) (Blk.prt 9) 0x000
    ∧ (let s := q5.rput (Blk.prt 9) 0x3F8 1
       s.Takes (ww (1 + 1250 * 2 ^ 32)) (Blk.prt 9) 0x400 ∧ s.expert (Blk.prt 9) = true)
    ∧ (let s := ms 9 1 15 (pm q5)
       s.macState 9 = 1 ∧ s.macHeld 9 = false ∧ s.flag (Blk.mac 9) Reg.MAC_CTRL_MEDIUM = false ∧ s.candidates 9 ≠ []
        ∧ (∃ a rs br, (s.anResolve 9 a rs br).isSome = true) ∧ ∃ a rs br, s.anResolve 9 a rs br = none)
    ∧ (let s := ms 9 5 15 (pm q5)
       s.macState 9 = 5 ∧ s.macHeld 9 = false ∧ s.candidates 9 ≠ []) :=
  ⟨by decide, by decide, by decide, takes_of (by decide),
   ⟨takes_of (by decide), by decide⟩,
   ⟨by decide, by decide, by decide, by decide, ⟨0x1FFF, false, false, by decide⟩, ⟨0, false, false, by decide⟩⟩, by decide⟩

theorem witness_TrainingAndLinks :
    (let s := ms 4 2 4 (pm q5)
     s.regsWf = true ∧ s.stopped = false ∧ s.frames = [] ∧ s.borrows 4 = false ∧ s.macState 4 = 2 ∧ s.macHeld 4 = false
      ∧ s.flag (Blk.mac 4) Reg.MAC_CTRL_MEDIUM = false ∧ s.candidates 4 ≠ [] ∧ (s.mac 4).fails = 0)
    ∧ ((ms 4 2 4 (pm q5)).modMac 4 (fun k => { k with fails := 4 * 4 + 2 }) |>.mac 4).fails / 4 = 4
    ∧ (let s := (lanesReady [9] (ms 9 3 3 (pm q5))).fset (Blk.mac 9) Reg.SPP_SESS_CTRL_EN 0
       s.regsWf = true ∧ s.frames = [] ∧ s.borrows 9 = false ∧ (s.mac 9).tx = none ∧ (s.mac 9).next = none ∧ (s.mac 9).mgTx = none ∧ s.mf 9 Reg.SPP_SESS_STATUS_STATE = 0
        ∧ s.flag (Blk.mac 9) Reg.SPP_SESS_CTRL_EN = false ∧ s.macState 9 = 3 ∧ s.macHeld 9 = false
        ∧ (∀ x ∈ s.usedLanes 9, s.ready (Rdy.lane x) = true) ∧ s.macUp 9 = false)
    ∧ (up 9 (pm q5)).macUp 9 = true
    ∧ ((pm q5).Takes (ww (9 + 64 * 2 ^ 32)) (Blk.mac 9) 0x000 ∧ (pm q5).macUp 9 = false ∧ ((pm q5).macRec 9).isSome = true)
    ∧ bits (ww (9 + 64 * 2 ^ 32)).val.toNat 47 32 = 64 ∧ bits (ww (9 + 9248 * 2 ^ 32)).val.toNat 47 32 = 9248 :=
  ⟨by decide, by decide, by decide, by decide, ⟨takes_of (by decide), by decide, by decide⟩, by decide, by decide⟩

/-- A link up, with frames of 64 bytes and more, whole and damaged. -/
def qRx : State := (qCh 1 (up 9 (pm q5))).modChan 2 (fun k => k)

theorem witness_ReceivedFrames_link : (qRx.stopped = false ∧ qRx.macUp 9 = true ∧ qRx.borrows 9 = false ∧ cellsFor 64 ≤ qRx.freeCells)
    ∧ (up 33 q5).macUp 33 = true ∧ qRx.mf 9 Reg.MAC_CTRL_MAXLEN < 9249 ∧ 64 ≤ qRx.mf 9 Reg.MAC_CTRL_MAXLEN
    ∧ (up 33 q5).mf 33 Reg.MAC_CTRL_MAXLEN < 9249 ∧ 64 ≤ (up 33 q5).mf 33 Reg.MAC_CTRL_MAXLEN
    ∧ qRx.freeCells < cellsFor (2 ^ 40) ∧ qRx.carries 9 = false := by decide +kernel

theorem witness_ReceivedFrames_data :
    let b := eth 64 0x0800 []
    b.length = 64 ∧ b.drop 60 = fcsOf (b.take 60) ∧ beAt b 12 2 ≠ 0x8808 ∧ etherType b ≠ 0x888E
    ∧ beAt b 0 6 ≠ qRx.fget Blk.SPP Reg.SPP_DA_DA ∧ qRx.peerDrop 9 = false ∧ qRx.fget Blk.SPL Reg.SPL_RESERVE_DATA ≤ qRx.freeAfter 64
    ∧ qRx.fcMode 9 = 0 ∧ qRx.macChans 9 = [2] ∧ qRx.chState 2 = 1 ∧ (qRx.chan 2).quiescing = false ∧ qRx.waiting 2 = 0 ∧ qRx.frames = []
    ∧ qRx.fget Blk.PW0 Reg.WER_GLOBAL_XOFF_CELLS ≤ qRx.freeAfter 64 ∧ qRx.cellTrig = false ∧ qRx.regsWf = true := by decide +kernel

theorem witness_ReceivedFrames_damaged : let b := eth 64 0x0800 []
    ¬ ((b.set 20 1).drop 60 = fcsOf ((b.set 20 1).take 60)) ∧ b.take 4 = [1, 2, 3, 4] := by decide +kernel

theorem witness_FlowControl :
    (let b := eth 64 0x8808 [0, 1, 0, 5]
     beAt b 12 2 = 0x8808 ∧ beAt b 14 2 = 1 ∧ b.drop 60 = fcsOf (b.take 60)
      ∧ qRx.fget Blk.SPL Reg.SPL_RESERVE_CTRL ≤ qRx.freeAfter 64)
    ∧ (qRx.setMf 9 Reg.MAC_FC_MODE 1).fcMode 9 = 1 ∧ (qRx.setMf 9 Reg.MAC_FC_MODE 2).fcMode 9 = 2
    ∧ beAt (eth 64 0x8808 [1, 1, 0, 255, 0, 9]) 14 2 = 0x0101
    ∧ bits ((qRx.setMf 9 Reg.MAC_FC_STATE_RX_PAUSED 2).mf 9 Reg.MAC_FC_STATE_RX_PAUSED) 1 1 = 1
    ∧ (let s := qRx.modMac 9 (fun k => { k with fcDue := true })
       s.macUp 9 = true ∧ (s.mac 9).fcDue = true ∧ (s.mac 9).tx = none ∧ (s.mac 9).mgTx = none)
    ∧ (qRx.setMf 9 Reg.MAC_FC_STATE_TX_XOFF 1).mf 9 Reg.MAC_FC_STATE_TX_XOFF ≠ 0
    ∧ qRx.cellTrig = false ∧ qRx.fget Blk.PW0 Reg.WER_GLOBAL_XOFF_CELLS ≤ qRx.freeCells := by decide +kernel

/-- A bitstream in force: a parse graph, edits and a meter for channel 2 of basin 2. -/
def node (fl : Nat) : List Byte := [BitVec.ofNat 8 fl, 14, 0xFF, 0, 0, 0xFF, 0, 0] ++ List.replicate 56 0xFF
def gt (fl : Nat) : TableDef := ⟨16, 0, .graph, 0, 0, 0, 4, [(0, node fl)]⟩
def et : TableDef := ⟨20, 0, .direct, 16, 24, 0, 4, [(1, [3, 4] ++ List.replicate 62 0)]⟩
def mtr : TableDef := ⟨21, 0, .direct, 16, 24, 0, 4, [(1, List.replicate 24 (0 : Byte) ++ [1, 0] ++ List.replicate 38 0)]⟩
def cfgd (fl : Nat) (s : State) : State := qCh 1 { pm s with
  plat := { (pm s).plat with chans := [⟨2, 2, 0, [⟨2, 0, 100⟩]⟩] }, cfgNow := [⟨2, [(2, [1, 2, 3, 4, 5, 6, 0, 0])], [gt fl, et, mtr], 0⟩] }

/-- A frame of basin 2 on channel 2 at a place, from line MAC 4. -/
def fr (loc : Loc) (g : Desc → Desc) (req : Option JetReq) (bad : Bool) : Frame :=
  let f := Frame.fresh 5 (List.replicate 100 7) (Desc.fresh 100 4 false false 2 0) [0, 1, 0, 0] (some 2)
  { f with d := g f.d, ch := 2, loc := loc, req := req, icvBad := bad }

/-- The state with that frame, and another that waits on channel 3. -/
def held (f : Frame) (s : State) : State := { s with frames := [f, { f with id := 6, ch := 3, loc := .wait }], frameSeq := 7 }

def fP : Frame := fr (.tier 16) id none false
def qP (fl : Nat) : State := held fP (cfgd fl q5)

theorem witness_ClassifyingTiers_intake : ∃ f, (let s := held (fr .wait id none false) (cfgd 3 q5)
    s.stopped = false ∧ (∀ g ∈ s.frames, g = f ∨ g.id ≠ f.id) ∧ s.frames.find? (fun g => g.ch == 2 && g.loc == .wait) = some f
    ∧ s.chState 2 = 1 ∧ (s.chan 2).quiescing = false ∧ f.chReplay = false ∧ f.d.inject = false
    ∧ ((s.stops { f with d := s.intakeDesc f, chReplay := false }).head?).isSome = true) :=
  ⟨_, by decide, by decide, rfl, by decide, by decide, by decide, by decide, by decide⟩

theorem witness_ClassifyingTiers_parse :
    (qP 3).frameAt 16 fnP = some fP ∧ fP.d.accepted = false ∧ (∀ m : PortId, (qP 3).borrows m.val = false)
    ∧ ((qP 3).tablesAt fP.d.epoch fP.d.basin 16).find? (fun x => x.kind == .graph) = some (gt 3)
    ∧ ((qP 3).nextStop { fP with d := (parseRun (gt 3) fP.bytes 4 fP.d).1 } 16).isSome = true := by decide +kernel

/-- A graph row whose first transition takes every selector. -/
def gtTo (next : Nat) : TableDef :=
  ⟨16, 0, .graph, 0, 0, 0, 4, [(0, [1, 1, 0xFF, 0, 0, 0xFF, 0, 0] ++ List.replicate 8 0xFF ++ [0, 0, 0, 0] ++ leBytes 2 next ++ List.replicate 42 0xFF)]⟩

/-- R91: what the four ends of a parse are reached by: ACCEPT_ON_MISS, no match, PUNT, and a row that leads to itself. -/
theorem witness_ClassifyingTiers_results :
    (parseRun (gt 3) fP.bytes 4 fP.d).2 = .accept ∧ (parseRun (gt 1) fP.bytes 4 fP.d).2 = .reject
    ∧ (parseRun (gtTo 0x8002) fP.bytes 4 fP.d).2 = .punt ∧ (parseRun (gtTo 0) fP.bytes 4 fP.d).2 = .more := by decide +kernel

theorem witness_ClassifyingTiers_more :
    (qP 3).lastTier { fP with d := (parseRun (gtTo 0) fP.bytes 4 fP.d).1 } fnP = some 16 := by decide +kernel

/-- A frame at the K tier: no row matches its key; MISS says drop or punt; its action says drop, punt or encrypt. -/
def fK (a : Nat) : Frame := fr (.tier 17) (fun d => { d with accepted := true, action := a, sc := if a = 1 then some 9 else none, out := some 4 }) none false

theorem witness_ClassifyingTiers_key : ∀ a ∈ [0, 1, 4, 5], let s := held (fK a) (cfgd 3 q5)
    s.frameAt 17 fnK = some (fK a) ∧ s.lastTier (fK a) fnK = some 17
    ∧ (s.tablesAt (fK a).d.epoch (fK a).d.basin 17).findSome? (fun x => x.hit (fK a).d.key) = none
    ∧ (fK a).d.dec = false ∧ (fK a).d.mkpdu = false ∧ (s.nextStop (fK a) 17).isSome = true := by decide +kernel

theorem witness_ClassifyingTiers_miss :
    (cfgd 3 q5).fget (Blk.bw 2) Reg.WER_FRAME_CTRL_MISS = 0
    ∧ ((cfgd 3 q5).fset (Blk.bw 2) Reg.WER_FRAME_CTRL_MISS 1).fget (Blk.bw 2) Reg.WER_FRAME_CTRL_MISS = 1
    ∧ (held (fK 1) (cfgd 3 q5)).outOk (fK 1).d true = true ∧ (fK 1).d.sc.isSome = true := by decide +kernel

def fE (i : Nat) : Frame := fr (.tier 20) (fun d => { d with editIdx := i }) none false

theorem witness_ClassifyingTiers_edit :
    (held (fE 1) (cfgd 3 q5)).frameAt 20 fnE = some (fE 1) ∧ ((held (fE 1) (cfgd 3 q5)).directRow (fE 1) 20 1).isSome = true
    ∧ (held (fE 4) (cfgd 3 q5)).directRow (fE 4) 20 (fE 4).d.editIdx = none
    ∧ ((held (fE 1) (cfgd 3 q5)).nextStop (fE 1) 20).isSome = true := by decide +kernel

/-- SecuringTiers: an SC of basin 2 on MAC 4 with one SA, whose lease tier 18 holds. -/
def sc1 : Sc := ⟨9, 2, false, 4, 1, 2, [1, 2, 3, 4, 5, 6, 7, 8], 0, 1, [⟨1, 33, List.replicate 16 7, [], [], 1, none⟩]⟩
def withSa (ex cached : Bool) (s : State) : State := { s with
  scNow := [sc1], runs := [⟨33, 10, 0, 5, 0, 0, 0, 0, false, ex, false⟩], saCache := if cached then [(18, 33)] else [],
  leases := [⟨18, 33, 4, 8⟩] }

def fA (a : Nat) : Frame := fr (.tier 18) (fun d => { d with accepted := true, action := a, sc := if a = 3 then none else some 9, out := some 4 }) none false
def qA (ex cached : Bool) (a : Nat) : State := withSa ex cached (held (fA a) (cfgd 3 q5))

theorem witness_SecuringTiers_a :
    (qA false true 1).frameAt 18 fnA = some (fA 1) ∧ (qA false true 1).lastTier (fA 1) fnA = some 18 ∧ (qA false true 1).heldAtA (fA 1) 18 = false
    ∧ ((qA false true 1).nextStop (fA 1) 18).isSome = true
    ∧ (match (qA false true 1).saFor (fA 1) with
       | .sa x a => decide (x = sc1) && decide (a.uid = 33)
       | _ => false) = true
    ∧ (qA false true 1).saCache.contains (18, 33) = true ∧ (qA false false 1).saCache.contains (18, 33) = false
    ∧ (qA false false 1).inFlight 18 = [] ∧ ((qA false true 1).run 33).map (·.exhausted) = some false
    ∧ ((qA true true 1).run 33).map (·.exhausted) = some true
    ∧ (qA false true 1).leases.find? (fun l => (l.tier == 18 && l.uid == 33) && decide (l.next < l.stop)) = some ⟨18, 33, 4, 8⟩
    ∧ (held (fA 3) (cfgd 3 q5)).lastTier (fA 3) fnA = some 18
    ∧ (match (held (fA 1) (cfgd 3 q5)).saFor (fA 1) with
       | .sa _ _ => false
       | _ => true) = true := by decide +kernel

def jr : JetReq := ⟨33, 9, 1, 4, List.replicate 16 7, [], 1, []⟩
def fAt (l : Loc) (r : Option JetReq) (bad : Bool) : Frame := fr l (fun d => { d with accepted := true, action := 2, dec := true, sc := some 9, out := some 9 }) r bad

theorem witness_SecuringTiers_rest :
    (let f := fAt (.fetch 18) none false
     let s := (withSa false false (held f (cfgd 3 q5))).fset Blk.ERR Reg.ERR_CTRL_ESC_EN 0
     s.frames.find? (fun g => g.loc == .fetch 18) = some f ∧ s.errs.length < 16 ∧ s.flag Blk.ERR Reg.ERR_CTRL_ESC_EN = false)
    ∧ (let f := fAt .rejoin none false
       let s := held f (cfgd 3 q5)
       s.frames.find? (fun g => g.ch == 2 && (g.loc == .cross || g.loc == .rejoin || (List.finRange 10).any (fun j => g.loc == .jet j))) = some f
        ∧ s.lastTier f fnA = some 18 ∧ (s.nextStop f 18).isSome = true)
    ∧ (let f := fAt (.tier 19) (some jr) true
       (withSa false false (held f (cfgd 3 q5))).frameAt 19 fnV = some f ∧ f.vok = false ∧ f.req = some jr)
    ∧ (let f := fAt (.tier 19) (some jr) false
       let s := withSa false false (held f (cfgd 3 q5))
       s.frameAt 19 fnV = some f ∧ (s.nextStop f 19).isSome = true
        ∧ ((s.scOfFrame f).any (·.replay) && decide (jr.pn < ((s.run jr.uid).map (·.l)).getD 0)) = false) := by decide +kernel

/-- The M tier: a punt of a basin without a ring, a red frame that its row drops, and a frame that goes to its queue. -/
def fM (g : Desc → Desc) : Frame := fr (.tier 21) (fun d => g { d with accepted := true, action := 3, out := some 9 }) none false

theorem witness_SecuringTiers_m :
    (let f := fM (fun d => { d with reason := 1 })
     let s := held f (cfgd 3 q5)
     s.frameAt 21 fnM = some f ∧ s.fget (Blk.bw 2) Reg.WER_PUNT_RING_SIZE = 0 ∧ s.frozen (.tier 21) = false)
    ∧ (let f := fM id
       let s := up 9 (held f (cfgd 3 q5))
       s.frameAt 21 fnM = some f ∧ f.d.reason = 0 ∧ s.directRow f 21 f.d.meterId = none ∧ s.lastTier f fnM = some 21 ∧ f.d.out = some 9
        ∧ s.deepRegion.2 = 0 ∧ s.macUp (macOf 9) = true ∧ s.isLine 9 = false)
    ∧ (let f := fM (fun d => { d with meterId := 1 })
       let s := held f (cfgd 3 q5)
       f.d.reason = 0 ∧ (s.meter f 21).1 = 2 ∧ (s.meter f 21).2.1 = true) := by decide +kernel

/-- WeirsAndDeepPath: a queued frame whose MAC is up; a frame on the wire; a deep request; an inject descriptor. -/
def fQ (l : Loc) : Frame := { fr l (fun d => { d with out := some 9 }) none false with obytes := List.replicate 100 7, deep := .express, deepAt := 0x10000 }
def qQ : State := up 9 (held (fQ (.queue 9 3)) (cfgd 3 q5))

theorem witness_WeirsAndDeepPath_weir :
    (qQ.stopped = false ∧ qQ.regsWf = true ∧ (qQ.pick 9 0xFF).1 = some (fQ (.queue 9 3)) ∧ qQ.macUp 9 = true ∧ (qQ.mac 9).next = none
      ∧ (qQ.mac 9).tx = none ∧ (qQ.mac 9).fcDue = false ∧ (qQ.mac 9).slot = [] ∧ qQ.isLine 9 = false ∧ qQ.borrows 9 = false)
    ∧ (let s := ((up 9 (held (fQ (.queue 9 0)) (cfgd 3 q5))).setMf 9 Reg.MAC_FC_MODE 1).setMf 9 Reg.MAC_FC_STATE_RX_PAUSED 255
       s.regsWf = true ∧ (s.pick 9 0xFF).1 = none ∧ s.macUp 9 = true ∧ (s.mac 9).next = none ∧ ∃ x ∈ s.frames, x.loc = .queue 9 0) := by decide +kernel

theorem witness_WeirsAndDeepPath_wire :
    (let s := ((up 9 (held (fQ (.out 9)) (cfgd 3 q5))).fset (Blk.mac 9) Reg.MAC_PTP_EN 0).modMac 9 (fun k => { k with tx := some 5 })
     (s.mac 9).tx = some 5 ∧ s.frame 5 = some (fQ (.out 9)) ∧ s.flag (Blk.mac 9) Reg.MAC_PTP_EN = false ∧ (fQ (.out 9)).lent = false
      ∧ ∀ n : PortId, s.borrows n.val = false)
    ∧ (∀ rd ∈ [true, false], let s := held (fQ (.queue 9 3)) (cfgd 3 q5)
       let t : State := { s with mover := { s.mover with reqs := [⟨5, 2, rd⟩], cur := 2 } }
       (t.moverPick.1.map (fun q => (q.1.frame, q.1.read))) = some (5, rd) ∧ t.frame 5 = some (fQ (.queue 9 3))
        ∧ (t.pickCells (cellsFor 100) 1).isSome = true) := by decide +kernel

/-- A page of the cistern that holds these bytes from its start and is else 0, and guard `g` open for all of the device. -/
def memput (a : Nat) (bs : List Byte) (s : State) : State :=
  { s with mem := bs.zipIdx.filterMap (fun x => if x.1 = 0 then none else some (locOf (pcOf a) (pageOf a) x.2, x.1)) }
def grant (g : Nat) (s : State) : State :=
  s.rput (Blk.grd g) 0x400 (BitVec.ofNat 64 (46 * 2 ^ 58 + 2 ^ 51 + 2 ^ 50 + 2 ^ 49 + 2 ^ 47 + 2 ^ 46 + 1))
def descr (buf len flags out sc : Nat) : List Byte :=
  leBytes 8 buf ++ leBytes 2 len ++ [BitVec.ofNat 8 flags, BitVec.ofNat 8 out, 0, 0, 0, 0] ++ List.replicate 12 0 ++ leBytes 4 sc

/-- An inject ring of basin 2 on channel 2 with one descriptor for client MAC 9. -/
def ringed (s : State) : State :=
  let s := memput 0x4000 (descr 0x5000 60 1 (128 + 9) 0) s
  let s := ((s.fset (Blk.bw 2) Reg.WER_FRAME_CTRL_INJ_CH 2).fset (Blk.bw 2) Reg.WER_INJ_RING_BASE 0x200).fset (Blk.bw 2) Reg.WER_INJ_RING_SIZE 4
  grant 48 (s.fset (Blk.bw 2) Reg.WER_RINGPTR_INJ_TAIL 1)

theorem witness_WeirsAndDeepPath_inject :
    let qInj := ringed (cfgd 3 q5)
    let k := tierOf ((((qInj.chainAt qInj.epoch 2).find? (fun x => x.2 == fnP)).map (·.1)).getD 16)
    let acc := tierAcc k 2
    let ring := qInj.ringDesc acc 5 k.val (qInj.fget (Blk.bw 2) Reg.WER_INJ_RING_BASE) 4 0 1
    ring.2.any (fun x => let rd := ring.1.dmaRead acc (descAddr x.2) (leAt x.2 8 2)
      decide ((rd.1.pickCells (cellsFor (leAt x.2 8 2)) 1).isSome = true ∧ rd.2.2 = DmaAns.ok ∧ 128 ≤ beAt x.2 11 1 ∧ rd.1.chMember 2 2 = true
      ∧ (rd.1.injAction none 9 rd.2.1).isSome = true ∧ rd.1.chState 2 = 1 ∧ rd.1.waiting 2 = 0
      ∧ (rd.1.dmaWrite acc (x.1 + 10) [descFlags x.2 false]).2 = DmaAns.ok)) = true := by decide +kernel


/-- ManagementRings: rings of management MAC 32 with one descriptor each, a waiting frame, a frame on the wire. -/
def mgf : MgFrame := ⟨[1, 2, 3], 0, false⟩
def mgRing (tx : Bool) (s : State) : State :=
  let b := Blk.mac 32
  let s := memput 0x4000 (descr 0x5000 60 1 0 0) s
  let s := if tx then ((s.fset b Reg.MAC_TXRING_BASE 0x200).fset b Reg.MAC_TXRING_SIZE 4).fset b Reg.MAC_RINGPTR_TX_TAIL 1
    else ((s.fset b Reg.MAC_RXRING_BASE 0x200).fset b Reg.MAC_RXRING_SIZE 4).fset b Reg.MAC_RINGPTR_RX_TAIL 1
  grant 110 (up 32 s)

theorem witness_ManagementRings_read :
    (let s := q5.modMac 9 (fun k => { k with txts := [⟨5 * 2 ^ 48 + 7, 3, 2, 4⟩] })
     s.stopped = false ∧ s.regsWf = true ∧ s.frozen rr.acc.src = false ∧ (∃ x y z, s.guard rr.acc (regAddr (Blk.mac 9) 0x040) 8 .read = .ok x y z)
      ∧ s.devOk (Blk.mac 9) 0x040 8 = true ∧ (s.mac 9).txts = [⟨5 * 2 ^ 48 + 7, 3, 2, 4⟩] ∧ 5 * 2 ^ 48 + 7 < 2 ^ 96) :=
  ⟨by decide, by decide, by decide, ok_of (by decide), by decide, by decide, by decide⟩

theorem witness_ManagementRings_dma :
    (let s := q5.modMac 32 (fun k => { k with mgRx := [mgf] })
     (s.mac (mgMac 0)).mgRx = [mgf] ∧ s.fget (Blk.mac 32) Reg.MAC_RXRING_SIZE = 0 ∧ s.fcMode 32 = 0 ∧ s.mf 32 Reg.MAC_FC_STATE_TX_XOFF = 0)
    ∧ ((mgRing false q5).mgDesc 0 false).2.isSome = true ∧ ((mgRing false q5).mgDesc 0 false).1.fcMode 32 = 0
    ∧ (let s := mgRing true q5
       s.macUp 32 = true ∧ (s.mac 32).mgTx = none ∧ (s.mac 32).fcDue = false ∧ s.paused 32 0 = false ∧ s.regsWf = true
        ∧ (s.mgDesc 0 true).2.any (fun x => decide (((s.mgDesc 0 true).1.dmaRead (s.mgAcc 0) (descAddr x.2) (leAt x.2 8 2)).2.2 = DmaAns.ok)) = true)
    ∧ (let s := (q5.modMac 32 (fun k => { k with mgTx := some mgf })).fset (Blk.mac 32) Reg.MAC_PTP_EN 0
       (s.mac 32).mgTx = some mgf ∧ s.flag (Blk.mac 32) Reg.MAC_PTP_EN = false ∧ s.fget (Blk.mac 32) Reg.MAC_TXRING_SIZE = 0
        ∧ s.regsWf = true) := by decide +kernel

/-! Witnesses: SPP, SA block, bitstreams, jets. -/

/-- Line MAC 4 in a session state, with one message in the inbox; this device's SPP_ID is 50. -/
def sess (st : Nat) (m : List SppMsg) (f : Sess → Sess) : State :=
  let s := ((up 4 (pm q5)).setSf 4 Reg.SPP_SESS_STATUS_STATE st).modSess 4 (fun k => f { k with inbox := m })
  { s.fset (Blk.mac 4) Reg.SPP_SESS_CTRL_AUTH_REQ 0 with fuses := { s.fuses with id := 50 } }
def sm (ty sender : Nat) (p : List Byte) : SppMsg := ⟨ty, sender, 50, 3, p, 2 ^ 70⟩

theorem witness_SessionMessages_form : ∀ x ∈ [(2, 1), (3, 2), (5, 3), (4, 4), (6, 5)], let s := sess x.1 [sm x.2 77 [0, 0, 0, 9, 0, 20, 0, 0]] id
    s.stopped = false ∧ s.regsWf = true ∧ (s.mac (macOf 4)).slot = []
    ∧ (s.sess 4).inbox = [sm x.2 77 [0, 0, 0, 9, 0, 20, 0, 0]] ∧ s.sst 4 = x.1 := by decide +kernel

theorem witness_SessionMessages_values :
    (sess 2 [] id).sppId = 50 ∧ sDISCOVER = 2 ∧ sIOFFER = 3 ∧ sRSELECT = 5 ∧ sICONFIRM = 4 ∧ sUP = 6
    ∧ (sess 5 [] (fun k => { k with pref := 3, beat := 10 }) |>.sess 4).judge [3, 0, 0, 10, 0, 0, 0, 0] = 0
    ∧ (sess 5 [] (fun k => { k with pref := 3, beat := 10 }) |>.sess 4).judge [3, 0, 0, 11, 0, 0, 0, 0] ≠ 0
    ∧ beAt [3, 0, 0, 10, 0, 0, 0, 0] 0 1 < 17 ∧ beAt [3, 0, 0, 10, 0, 0, 0, 0] 2 2 ≤ 1000
    ∧ (let s := sess 6 [sm 1 0 [0, 0, 0, 0, 0, 20, 0, 0]] id
       (sm 1 0 []).sender = s.peer 4 ∧ beAt [0, 0, 0, 0, 0, 20, 0, 0] 0 4 = (s.sess 4).peerAttempt) := by decide +kernel

theorem witness_SessionTimers :
    (∀ st ∈ [2, 3, 4, 5, 6, 7, 8], let s := sess st [] id
      s.stopped = false ∧ s.regsWf = true ∧ (s.mac (macOf 4)).slot = [] ∧ s.sst 4 = st
        ∧ s.macUp (macOf 4) = true ∧ s.isLine 4 = true ∧ s.carries 4 = false ∧ s.flag (Blk.mac 4) Reg.SPP_SESS_STATUS_SA_SEEN = false
        ∧ s.flag (Blk.mac 4) Reg.SPP_SESS_CTRL_AUTH_REQ = false)
    ∧ sNOMODE = 7 ∧ sCLASH = 8
    ∧ (let s := (sess 6 [] id).modMac 4 (fun k => { k with slot := [⟨1, 0, 0, []⟩, ⟨5, 0, 0, []⟩] })
       (s.mac (macOf 4)).slot = [⟨1, 0, 0, []⟩, ⟨5, 0, 0, []⟩] ∧ s.needKey 4 = false ∧ s.keyed 4 = false ∧ s.slotReady (macOf 4) = true ∧ (s.mac (macOf 4)).tx = none ∧ (s.mac (macOf 4)).fcDue = false
        ∧ s.borrows 4 = false)
    ∧ (let s := ((sess 1 [] id).modMac 4 (fun k => { k with slot := [⟨1, 0, 0, []⟩] })).fset (Blk.mac 4) Reg.SPP_SESS_CTRL_AUTH_REQ 1
       s.needKey 4 = true ∧ s.keyed 4 = false ∧ s.slotReady (macOf 4) = true)
    ∧ (let s := (sess 6 [] id).modKey 4 0 (fun k => { k with valid := true })
       s.keyed 4 = true) := by decide +kernel

theorem witness_SessionTimers_writes :
    (sess 7 [] id).Takes (ww (10 * 2 ^ 32 + 4 * (sess 7 [] id).fget (Blk.mac 4) Reg.SPP_SESS_CTRL_DOWN_ACT + 9)) (Blk.mac 4) 0x300
    ∧ (sess 6 [] id).Takes (ww (10 * 2 ^ 32 + 4 * (1 - (sess 6 [] id).fget (Blk.mac 4) Reg.SPP_SESS_CTRL_DOWN_ACT) + 1)) (Blk.mac 4) 0x300 :=
  ⟨takes_of (by decide), takes_of (by decide)⟩

/-- A command block of 192 bytes with some bytes set, placed at 0x4000 and queued at the SA block by core 0. -/
def block (n : Nat) (l : List (Nat × Byte)) : List Byte := l.foldl (fun b e => b.set e.1 e.2) (List.replicate n 0)
def qc (h : Nat) : QCmd := ⟨0x4000, h, ⟨.core 0, .S, 0, true⟩⟩
def saCmd (l : List (Nat × Byte)) (h : Nat) (s : State) : State :=
  let s := memput 0x4000 (block 192 l) (pm s)
  { (s.fset Blk.SA Reg.SA_REGION_VALID 1) with saQ := [qc h], plat := { s.plat with basins := [⟨2, true, 4, 4, 0⟩] } }

theorem witness_SaCommands : ∀ op ∈ [1, 2, 3, 4, 5, 6, 7, 8, 9, 10], let s := saCmd [(0, BitVec.ofNat 8 op)] 0 q5
    s.stopped = false ∧ s.saQ = [qc 0]
    ∧ (let r := ({ s with saQ := [] } : State).dmaRead (qc 0).acc 0x4000 192
       r.2.2 = DmaAns.ok ∧ saOp r.2.1 = op) := by decide +kernel

theorem witness_SaCommands_refused : (qFrz.dmaRead (qc 0).acc 0x4000 192).2.2 = DmaAns.refused := by decide +kernel

/-- The form, the region, the reach, the SCs and the stage that the checks of a command ask for. -/
theorem witness_SaCommands_checks :
    (let b := block 192 [(0, 1)]
     saFormOk (block 192 [(0, 1), (191, 1)]) = false ∨ saFormOk b = true)
    ∧ q5.flag Blk.SA Reg.SA_REGION_VALID = false ∧ (saCmd [] 0 q5).flag Blk.SA Reg.SA_REGION_VALID = true
    ∧ (applyScs [sc1] 0 []).find? (fun x => x.sc == 9) = some sc1 ∧ (applyScs [] 0 []).find? (fun x => x.sc == 9) = none
    ∧ sc1.sas.any (fun a => a.an == 1) = true ∧ sc1.sas.any (fun a => a.an == 2) = false := by decide +kernel

theorem witness_SaEventsAndRegion :
    (let s := withSa false false q5
     s.stopped = false ∧ s.regsWf = true ∧ s.scNow = [sc1] ∧ ((s.run 33).map (·.retired)) = some false
      ∧ (s.saEvq 2).q.length < 16 ∧ sparseWf (fun _ => (⟨[], false⟩ : SaEvq)) s.saEvts = true)
    ∧ q5.scNow = []
    ∧ (let s := q5.fset Blk.SA Reg.SA_REGION_VALID 1
       s.flag Blk.SA Reg.SA_REGION_VALID = true ∧ (∀ k : StageId, (s.stage k).sa = []) ∧ ∀ p : PortId, s.keyed p = false) := by decide +kernel

theorem witness_SaEventsAndRegion_writes :
    (q5.fset Blk.SA Reg.SA_REGION_VALID 1).Takes (ww 0) Blk.SA 0x008
    ∧ (ww 0).val.toNat = (q5.fset Blk.SA Reg.SA_REGION_VALID 1).fget Blk.SA Reg.SA_REGION_BASE * 2 ^ 28
    ∧ q5.Takes (wn 0) Blk.SA 0x008 ∧ q5.devOk (Blk.bw 2) 0x3B0 8 = true
    ∧ (∃ x y z, q5.guard rr.acc (regAddr (Blk.bw 2) 0x3B0) 8 .read = .ok x y z) :=
  ⟨takes_of (by decide), by decide, takes_of (by decide), by decide, ok_of (by decide)⟩

/-- BitstreamsAndBoot: no load and one under way; the flash directory, valid and not; an image that streams. -/
def bitSt (n : Nat) (s : State) : State := s.fset Blk.BIT Reg.BIT_STATUS_STATE n
def cisUp (s : State) : State := (s.setReady (Rdy.cis 0) true).setReady (Rdy.cis 1) true

theorem witness_BitstreamsAndBoot :
    q5.Takes (ww (1 + 5 * 2 ^ 32)) Blk.BIT 0x000 ∧ q5.fget Blk.BIT Reg.BIT_STATUS_STATE = 0
    ∧ (bitSt 1 q5).Takes (ww 2) Blk.BIT 0x000 ∧ (bitSt 1 q5).fget Blk.BIT Reg.BIT_STATUS_STATE = 1 :=
  ⟨takes_of (by decide), by decide, takes_of (by decide), by decide⟩

theorem witness_BitstreamsAndBoot_loads :
    (let s : State := { bitSt 1 q5 with bitLoad := some ⟨⟨.core 0, .S, 0, true⟩, 5, 0x4000, 128⟩ }
     s.stopped = false ∧ s.regsWf = true ∧ s.bitLoad.isSome = true
      ∧ (match (s.fileRead ⟨.core 0, .S, 0, true⟩ 0x4000 128).2 with
         | .inl b => decide (b.length = 128) && ((s.fileRead ⟨.core 0, .S, 0, true⟩ 0x4000 128).1.fileChecks b ⟨128, false, none⟩).isSome
         | .inr _ => false) = true)
    ∧ (match (q5.fileRead ⟨.core 0, .S, 0, true⟩ 0x80000000000 128).2 with
       | .inl _ => false
       | .inr o => decide (o < 2 ^ 32)) = true := by decide +kernel

theorem witness_BitstreamsAndBoot_boot :
    (let s := cisUp (qBoot .waitCistern q5)
     s.boot.phase = .waitCistern ∧ s.ready (Rdy.cis 0) = true ∧ s.ready (Rdy.cis 1) = true ∧ s.fget Blk.PWR Reg.PWR_BOOT_SRC ≠ 3
      ∧ bootDirOk [0x53, 0x4E, 0x42, 0x44, 0, 0, 0, 0, 0, 0, 0, 0, 0, 0, 0, 0] = true ∧ bootDirOk [] = false)
    ∧ (qBoot .streaming q5).boot.phase = .streaming ∧ q5.imageChecks [] ≠ none
    ∧ (let s : State := { q5 with boot := { q5.boot with phase := .imageOk, bitLen := 9 } }
       s.boot.phase = .imageOk ∧ ([1] : List Byte).length < s.boot.bitLen) := by decide +kernel

/-- Jets in the states of the list, with places of those in use. -/
def jets (l : List Nat) (s : State) : State := l.zipIdx.foldl (fun s x =>
  (s.setJst (Fin.ofNat 10 x.2) x.1).fset (Blk.jet x.2) Reg.JET_STATUS_PLACE (if x.1 = 1 then x.2 else 15)) s
def jl : List Nat := [1, 1, 2, 5, 4, 6, 3]
def fX (l : Loc) : Frame := fr l (fun d => { d with basin := 2 }) none false

theorem witness_Jets_crossbar :
    (let s := jets jl (held (fX .cross) (cfgd 3 q5))
     s.regsWf = true ∧ s.frames.find? (fun g => g.ch == 2 && g.loc == .cross) = some (fX .cross)
      ∧ (firstAfter (s.eligible 2) (s.chan 2).lastJet).isSome = true ∧ (s.pickCells (cellsFor (fX .cross).jetLen) 1).isSome = true)
    ∧ (jets [5, 5, 5, 5, 5, 5, 5, 5, 5, 5] (held (fX .cross) (cfgd 3 q5))).eligible 2 = []
    ∧ (let s := jets jl (held (fX (.jet 1)) (cfgd 3 q5))
       s.jetFirst 1 = some (fX (.jet 1)) ∧ (fX (.jet 1)).flip = false)
    ∧ (jets jl q5).jetFirst 1 = none := by decide +kernel

theorem witness_Jets_states :
    (let s := (jets jl q5).fset Blk.ERR Reg.ERR_CTRL_ESC_EN 0
     s.regsWf = true ∧ s.jst 1 = 1 ∧ s.jplace 1 ≠ 15 ∧ s.spareJet true = some 2 ∧ s.errs.length < 16 ∧ s.flag Blk.ERR Reg.ERR_CTRL_ESC_EN = false)
    ∧ (let s := jets [1, 1, 2, 5, 1, 6, 3] (q5.fset Blk.JET0 Reg.JET_ROT_INTERVAL_MS 5)
       s.fget Blk.JET0 Reg.JET_ROT_INTERVAL_MS ≠ 0 ∧ (∀ x, s.jst x ≠ 4) ∧ s.spareJet false = some 2
        ∧ (firstAfter ((List.finRange 10).filter (fun x => decide (s.jst x = 1))) s.rotated).isSome = true)
    ∧ (let s : State := { jets jl q5 with jetTest := 0x68, jetFence := 16 }
       s.jst 4 = 4 ∧ (∀ g ∈ s.frames, g.loc ≠ .jet 4) ∧ bitAt s.jetTest 3 = true ∧ s.jst 3 = 5 ∧ bitAt s.jetTest 6 = true ∧ s.jst 6 = 3) := by decide +kernel

theorem witness_Jets_commands :
    (jets jl q5).Takes (ww 1) (Blk.jet 3) Reg.JET_CMD_OP.off ∧ (jets jl q5).jst 3 = 5 ∧ (jets jl q5).Takes (ww 2) (Blk.jet 2) Reg.JET_CMD_OP.off
    ∧ (jets jl q5).jst 2 = 2 ∧ (jets jl q5).Takes (wn 1) (Blk.jet 3) Reg.JET_CMD_OP.off
    ∧ (let s := (q5.rput (Blk.jet 1) 0x3F8 1)
       s.Takes (ww 1) (Blk.jet 1) Reg.JET_INJECT_PARITY.off ∧ s.expert (Blk.jet 1) = true) :=
  ⟨takes_of (by decide), by decide, takes_of (by decide), by decide, takes_of (by decide), takes_of (by decide), by decide⟩

/-! Witnesses: the Sluice. -/

def opened (k : StageId) (h : Nat) (s : State) : State := (s.setStg k Reg.SLU_STAGE_HANDLE h).setStg k Reg.SLU_STAGE_STATE 1
def staged (k : StageId) (st : Nat) (f : Stage → Stage) (s : State) : State :=
  ((s.setStg k Reg.SLU_STAGE_HANDLE 66).setStg k Reg.SLU_STAGE_STATE st).modStage k f
def sluCmd (l : List (Nat × Byte)) (h : Nat) (s : State) : State :=
  { memput 0x4000 (block 64 l) (s.setReady Rdy.sluice true) with sluQ := [qc h] }

theorem witness_SluiceCommands_open :
    q5.stopped = false ∧ q5.regsWf = true ∧ (∃ x y z, q5.guard rr.acc (regAddr Blk.SLU 0) 8 .read = .ok x y z) ∧ q5.devOk Blk.SLU 0 8 = true
    ∧ (q5.slotToOpen rr.acc).isSome = true ∧ q5.stg 0 Reg.SLU_STAGE_HANDLE < 2 ^ 16 ∧ q5.ready Rdy.sluice = false :=
  ⟨by decide, by decide, ok_of (by decide), by decide, by decide, by decide, by decide⟩

/-- Every operation with an open stage and its handle, and with a handle of none; a list entry that can be staged; a bad form. -/
theorem witness_SluiceCommands_ops : ∀ op ∈ [1, 2, 3, 4, 9], let s := sluCmd [(0, BitVec.ofNat 8 op), (if op = 1 then (40, 1) else (8, 1))] 66 (opened 2 66 q5)
    s.stopped = false ∧ s.regsWf = true ∧ s.ready Rdy.sluice = true ∧ s.sluQ = [qc 66]
    ∧ (let d := ({ s with sluQ := [] } : State).dmaRead (qc 66).acc 0x4000 64
       d.2.2 = DmaAns.ok ∧ sluOp d.2.1 = op ∧ (d.1.stageFor 66 (qc 66).acc).isSome = true ∧ d.1.stageFor 67 (qc 66).acc = none) := by decide +kernel

theorem witness_SluiceCommands_form :
    (∃ b, q5.sluFormBad b = true) ∧ q5.sluFormBad (block 64 [(0, 4)]) = false ∧ q5.sluFormBad (block 64 [(0, 2)]) = false
    ∧ (opened 2 66 q5).sealCheck 2 (block 64 [(0, 2)]) = 0 :=
  ⟨⟨block 64 [(0, 4), (2, 2)], by decide +kernel⟩, by decide +kernel, by decide +kernel, by decide +kernel⟩

/-- StageCourse: sealing with every scope, a stage due at once and one due later, draining, armed. -/
theorem witness_StageCourse :
    (let s := staged 2 2 (fun g => { g with atTime := true, t := 5 }) q5
     s.stopped = false ∧ s.regsWf = true ∧ s.sst4 2 = stSEALING ∧ (s.stage 2).scope = .localS ∧ (s.stage 2).t < s.tb.now + nsU 100)
    ∧ (let s := staged 2 2 (fun g => { g with scope := .group, arm := true }) q5
       s.sst4 2 = stSEALING ∧ (s.stage 2).scope ≠ .localS ∧ (s.stage 2).arm = true)
    ∧ (let s := staged 2 2 (fun g => { g with scope := .group, arm := false, atTime := true, t := 5 }) q5
       (s.stage 2).cfgs = [] ∧ (s.stage 2).t < s.tb.now + (s.sluTimes .group).1 + (s.sluTimes .group).2.1 + (s.sluTimes .group).2.2)
    ∧ (let s := staged 2 6 (fun g => { g with due := some 0 }) q5
       s.draining = false ∧ s.sst4 2 = stPENDING ∧ (s.stage 2).due = some 0 ∧ 0 ≤ s.tb.now ∧ (s.stage 2).cfgs = [] ∧ (s.stage 2).sa = []
        ∧ (s.stage 2).weir = [] ∧ s.stg 2 Reg.SLU_STAGE_PRESUMED = 0
        ∧ ∀ x : StageId, x ≠ 2 → s.sst4 x ≠ stPENDING ∧ s.sst4 x ≠ stDRAINING)
    ∧ (let s := staged 2 6 (fun g => { g with due := some (2 ^ 50) }) q5
       (s.stage 2).due = some (2 ^ 50) ∧ s.tb.now < 2 ^ 50)
    ∧ (let s := staged 2 7 id q5
       s.sst4 2 = stDRAINING ∧ s.frames = [])
    ∧ (let s := staged 2 3 id q5
       s.sst4 2 = stARMED ∧ s.txns = [] ∧ (s.stage 2).cfgs = []) := by decide +kernel

/-- SluiceTransactions: messages of every type, well formed and not; a record whose stage is prepared or armed. -/
def smsg (ty : Nat) (b : List Byte) (at_ : Nat) : SluMsg := ⟨.mac 4, none, ty, b, at_⟩
def txn0 : TxnRec := ⟨50, 2, 5 * 2 ^ 40, 2 ^ 20, 3 * 2 ^ 40, .mac 4, [], 0, 0, 0xFFFF, 0, some (2, 66), false, false⟩
def qTxn (st : Nat) : State := { staged 2 st id q5 with txns := [txn0] }
def coord : Stage → Stage := fun g => { g with txn := 2, origin := 50, scope := .group, yes := 1, parts := 4, edges := [(.mac 4, false)] }
def qCo (st : Nat) : State := { staged 2 st coord q5 with fuses := { q5.fuses with id := 50 } }

theorem witness_SluiceTransactions_forms :
    sluFormOk 6 (prepareBody 2 50 (5 * 2 ^ 40) (3 * 2 ^ 40) 100 2) = true ∧ sluFormOk 7 (voteBody 2 50 1 0 0 0) = true
    ∧ sluFormOk 8 (decideBody 2 50 7 1) = true ∧ sluFormOk 9 (abortBody 2 50 7 1) = true ∧ sluFormOk 6 [1] = false := by decide +kernel

theorem witness_SluiceTransactions_prepare :
    (let m := smsg 6 (prepareBody 2 50 (5 * 2 ^ 40) (3 * 2 ^ 40) 100 2) 0
     let s : State := { q5.fset Blk.SLU Reg.SLU_DOMAIN_UP 4 with sluIn := [m] }
     s.stopped = false ∧ s.regsWf = true ∧ beAt m.body 44 1 = 2 ∧ s.uplink = some m.edge ∧ s.downEdges = []
      ∧ s.txnOf m.origin m.txn = none ∧ s.txns.length < 16 ∧ q5.uplink ≠ some m.edge)
    ∧ (let m := smsg 6 (prepareBody 2 50 (5 * 2 ^ 40) (3 * 2 ^ 40) 100 2) 0
       ((qTxn 5).txnOf m.origin m.txn).isSome = true) := by decide +kernel

theorem witness_SluiceTransactions_votes :
    (let m := smsg 7 (voteBody 2 50 1 0 0 0) 0
     q5.coordFor m = none ∧ q5.txnOf m.origin m.txn = none ∧ ((qCo 6).coordFor m).map (·.1) = some 2 ∧ (qCo 6).sst4 2 ≠ stVOTING
      ∧ ((qCo 4).coordFor m).map (·.1) = some 2 ∧ (qCo 4).sst4 2 = stVOTING ∧ ((qCo 4).stage 2).no = 0 ∧ beAt m.body 20 4 = 0
      ∧ ((qCo 4).stage 2).yes + beAt m.body 16 4 < ((qCo 4).stage 2).parts) := by decide +kernel

theorem witness_SluiceTransactions_decides :
    (let m := smsg 8 (decideBody 2 50 7 1) 0
     txn0.origin = m.origin ∧ txn0.txn = m.txn ∧ txn0.stage = some (2, (qTxn 5).stg 2 Reg.SLU_STAGE_HANDLE) ∧ txn0.edges = []
      ∧ txn0.decided = false ∧ txn0.up ∈ m.edges ∧ (qTxn 5).sst4 2 = stPREPARED)
    ∧ (let m := smsg 9 (abortBody 2 50 7 1) 0
       txn0.origin = m.origin ∧ txn0.txn = m.txn ∧ txn0.up ∈ m.edges ∧ ((qTxn 5).stage 2).cfgs = [] ∧ dtbOf96 m.at_ < txn0.t - txn0.g
        ∧ ¬ dtbOf96 (2 ^ 90) < txn0.t - txn0.g)
    ∧ (qTxn 3).sst4 2 = stARMED ∧ (qTxn 3).edgeUp txn0.up = false ∧ txn0.voted = false ∧ (qTxn 3).tb.now < txn0.t - txn0.g
    ∧ (staged 2 4 id q5).sst4 2 = stVOTING ∧ ((staged 2 4 id q5).stage 2).edges = [] := by decide +kernel

/-! Witnesses: ridge links, JTAG, debug, trace, register writes. -/

/-- The group runs with this device at index 1; links 0 and 1 are up to device 2, which is reached over both. -/
def rg (s : State) : State :=
  let s := s.rput Blk.RDG0 0 (BitVec.ofNat 64 (7 * 2 ^ 32 + 2 ^ 8 + 1))
  let s := s.rput Blk.RDG0 8 (BitVec.ofNat 64 (3 * 2 ^ 16 + 0x50 * 2 ^ 24))
  [0, 1].foldl (fun s (l : LinkId) =>
    (((s.setRls l 5).fset (Blk.rdg l.val) Reg.RDG_LSTATUS_MODE 6).fset (Blk.rdg l.val) Reg.RDG_LSTATUS_NEIGHBOUR 2).setReady (Rdy.rl l.val) true) s
def fl (ty dst src hops : Nat) (a z : Bool) (seq ack tag : Nat) (p : List Byte) : Flit :=
  ⟨mkHdr ty dst src hops a z p.length (BitVec.ofNat 12 seq) (BitVec.ofNat 12 ack) (BitVec.ofNat 16 tag), p⟩
def trainAt (l : LinkId) (st : Nat) (s : State) : State := (s.rput Blk.RDG0 0 (BitVec.ofNat 64 (7 * 2 ^ 32 + 2 ^ 8 + 1))).setRls l st
def peer (tag ix : Nat) (s : State) : State :=
  s.modLink 1 (fun k => { k with lanes := 3, peerLanes := 15, peerAbility := 0x3F, peerTag := BitVec.ofNat 32 tag, peerIndex := BitVec.ofNat 3 ix })

theorem witness_RidgeTraining :
    (∀ n ∈ [0, 1, 2, 3, 4, 5, 6, 7], (trainAt 1 n q5).rls 1 = n ∧ (trainAt 1 n q5).regsWf = true)
    ∧ (let s := peer 8 2 (trainAt 1 3 q5)
       s.fget Blk.RDG0 Reg.RDG_GROUP_TAG ≠ (s.link 1).peerTag.toNat)
    ∧ (let s := peer 7 2 (trainAt 1 3 q5)
       s.fget Blk.RDG0 Reg.RDG_GROUP_TAG = (s.link 1).peerTag.toNat ∧ s.myIndex ≠ (s.link 1).peerIndex.toNat
        ∧ (bitList (((s.link 1).lanes &&& (s.link 1).peerLanes).setWidth 64)).length = 2 ∧ rlLanes 2 ≤ 2
        ∧ (s.link 1).peerAbility.getLsbD 1 = true ∧ s.fget (Blk.rdg 1) Reg.RDG_LCTRL_ABILITY / 2 % 2 = 1
        ∧ s.fget (Blk.rdg 1) Reg.RDG_LCTRL_FLOOR ≤ 2)
    ∧ (let s := (trainAt 1 0 q5).fset (Blk.rdg 1) Reg.RDG_LCTRL_ENABLE 1
       s.flag (Blk.rdg 1) Reg.RDG_LCTRL_ENABLE = true ∧ s.flag Blk.RDG0 Reg.RDG_GROUP_EN = true ∧ s.pwr 91 = 0)
    ∧ (trainAt 1 0 q5).lockBit (Blk.rdg 1) = false := by decide +kernel

theorem witness_RidgeTraining_write : (trainAt 1 0 q5).Takes (ww 0x3F61) (Blk.rdg 1) 0x040 ∧ bits (ww 0x3F61).val.toNat 6 4 = 6
    ∧ bits (ww 0x3F11).val.toNat 6 4 = 1 ∧ bits (ww 0x3F71).val.toNat 6 4 = 7 := ⟨takes_of (by decide), by decide, by decide, by decide⟩

theorem witness_RidgeFlits :
    (let s := rg q5
     s.regsWf = true ∧ s.stopped = false ∧ s.rls 0 = 5 ∧ (s.link 0).replay = [] ∧ (s.link 0).rxSeq = 0xFFF ∧ s.myIndex = 1 ∧ s.ropen = []
      ∧ s.streams = [] ∧ s.rreqs = [] ∧ sparseWf (fun _ => (⟨[], false⟩ : Dbq)) s.dbqs = true ∧ s.carries 1 = false)
    ∧ (∀ ty ∈ [1, 2, 3, 4, 5, 6], let f := fl ty 1 2 0 true false 0 0 0 [3, 1, 0, 0]
       f.len = f.payload.length ∧ f.len ≤ 240 ∧ f.ty = ty ∧ f.seq = 0xFFF + 1 ∧ f.dst = 1 ∧ f.src = 2 ∧ f.isFirst = true ∧ f.isLast = false)
    ∧ (fl 1 1 2 0 false true 1 0 0 []).isLast = true ∧ (fl 1 2 2 3 true false 1 0 0 []).hops = 3 ∧ (fl 5 5 2 2 true false 1 0 0 []).dst = 5
    ∧ (List.range 4).all (fun i => !((rg q5).linkUp i && ((rg q5).routeEntry 5 >>> i) % 2 = 1)) = true ∧ (rg q5).routeEntry 5 / 64 % 2 = 0
    ∧ (let s := (rg q5).rput Blk.RDG0 0x300 (BitVec.ofNat 64 (0x82000000 * 2 ^ 32))
       s.carries 1 = true ∧ (s.lending 1).2.1 = 2)
    ∧ ((rg q5).fset (Blk.grd ((guardOf (.ridge 0)).getD 0)) Reg.GRD_STATUS_FROZEN 1).frozen (.ridge 0) = true
    ∧ (((rg q5).modPair 1 (fun p => { p with basins := 2 })).pair (pairOf 3)).basins.getLsbD 1 = true := by decide +kernel

def rq (op : Nat) : RReq := ⟨5, ⟨.trace, .S, 0, true⟩, 9, 2, op, 0x40, 8, .device, 0, 0, 0⟩
def replay3 : List Flit := [fl 1 2 1 0 true false 1 0 7 [1], fl 1 2 1 0 false true 2 0 7 [2], fl 1 2 1 0 true true 3 0 7 [3]]

theorem witness_RidgeLinksAndDoorbells :
    (let s : State := { rg q5 with rreqs := [rq 2] }
     s.rls 0 = 5 ∧ (s.link 0).replay = [] ∧ (s.link 0).waitq = [] ∧ (∀ m ∈ List.range 32, s.borrows m = false) ∧ (rq 2).link = 0
      ∧ (guardOf (rq 2).acc.src).isSome = true ∧ (∀ c ∈ List.finRange 32, (rq 2).acc.src ≠ .core c) ∧ s.errs.length < 16
      ∧ s.rreqs.find? (fun r => r.tag == 9 && r.dev == 2) = some (rq 2))
    ∧ (let f := fl 6 2 2 0 true false 0 2 0 []
       f.ty = 6 ∧ f.len = f.payload.length ∧ replay3.findIdx? (fun g => g.seq == f.ack) = some 1)
    ∧ replay3.findIdx? (fun g => g.seq == (fl 6 2 2 0 true false 0 9 0 []).ack) = none
    ∧ (∀ n ∈ [6, 7], ((rg q5).modLink 0 (fun k => { k with replay := replay3, resends := n }) |>.link 0).resends = n)
    ∧ (let s : State := { rg q5 with streams := [⟨1, 2, 3, 7, 0, 0⟩], tb := { q5.tb with ticks := 5000 } }
       s.streams.find? (fun r => r.src == 1 && r.dst == 2 && r.cls == 3 && r.tag == 7) = some ⟨1, 2, 3, 7, 0, 0⟩ ∧ (s.route 2 7).isSome = true
        ∧ 0 + 5000 ≤ s.tb.ticks)
    ∧ (rg q5).route 2 0 ≠ none ∧ (rg q5).route 5 0 = none := by decide +kernel

theorem witness_RidgeLinksAndDoorbells_doorbells :
    (rg q5).Takes (ww (5 * 2 ^ 48 + 3 * 2 ^ 40 + 2)) Blk.RDG0 0x010
    ∧ (let s : State := { rg q5 with dbqs := [(5, ⟨[⟨.S, 2, 7, 0xABC⟩, ⟨.N, 2, 7, 1⟩], true⟩)] }
       (s.dbq (s.leadOf 5).val).q.head? = some ⟨.S, 2, 7, 0xABC⟩ ∧ s.devOk Blk.RDG0 (0x200 + 8 * 5) 8 = true
        ∧ (∃ x y z, s.guard rr.acc (regAddr Blk.RDG0 (0x200 + 8 * 5)) 8 .read = .ok x y z)
        ∧ sparseWf (fun _ => (⟨[], false⟩ : Dbq)) s.dbqs = true) :=
  ⟨takes_of (by decide), by decide, by decide, ok_of (by decide), by decide⟩

theorem witness_JtagInstructions :
    (q5.regsWf = true ∧ (qBoot .running q5).boot.phase ≠ .inReset ∧ (qBoot .waitJtag q5).boot.phase = .waitJtag ∧ q5.stopped = false)
    ∧ q5.fuses.programmed = 0
    ∧ (let s : State := { q5 with fuses := { q5.fuses with programmed := 1 } }
       ¬ (s.fget Blk.DBG Reg.DBG_AUTH_GRANT / 2 ^ 12 = 1 ∨ s.fuses.programmed = 0))
    ∧ (q5.fset Blk.DBG Reg.DBG_AUTH_GRANT 0x1000).fget Blk.DBG Reg.DBG_AUTH_GRANT / 2 ^ 12 = 1
    ∧ q5.pwr 95 = 0 ∧ q5.devOk Blk.DBG 0x20 8 = true ∧ q5.devOk Blk.TRC 0x8 8 = true ∧ (∀ c, (q5.core c).dbg.itr = none)
    ∧ part ([1] : List Byte) 0 4 ≠ [0x53, 0x4E, 0x42, 0x43] ∧ q5.devOk Blk.DBG 0x7 8 = false := by decide +kernel

theorem witness_JtagInstructions_cert : (List.replicate 7488 (7 : Byte)).length = 7488 := List.length_replicate

/-- A core that debug may halt, one halted, one with a match at its pc, one with a bundle to inject. -/
def dgr (s : State) : State := s.fset Blk.DBG Reg.DBG_AUTH_GRANT 0x1FFF
def dbg (f : CoreDbg → CoreDbg) (s : State) : State := s.modDbg 0 f

theorem witness_DebugHalting_writes :
    q5.Takes (ww 0x80000041) Blk.DBG 0x008 ∧ q5.Takes (wn 0) Blk.DBG 0x008
    ∧ ((dbg (fun d => { d with halted := true }) (dgr q5)).Takes (ww 2) Blk.DBG 0x028
      ∧ (dbg (fun d => { d with halted := true }) (dgr q5)).dbgCore (ww 2).acc.src = 0)
    ∧ (dbg (fun d => { d with halted := true }) (dgr q5)).Takes (ww 0x60000000) Blk.DBG 0x038 :=
  ⟨takes_of (by decide), takes_of (by decide), ⟨takes_of (by decide), by decide⟩, takes_of (by decide)⟩

theorem witness_DebugHalting_cores :
    (let s := dbg (fun d => { d with halt := true }) (dgr q5)
     s.regsWf = true ∧ s.locked (pairOf 0) = false ∧ s.traceOn 0 = false ∧ (s.trace.get 0).live = false ∧ s.coreRuns 0 = true
      ∧ s.invasive 0 = true ∧ s.ridgeOpen 0 = false ∧ (s.core 0).undo = none ∧ (s.core 0).waiting = none ∧ (s.core 0).bundle = Bundle.empty)
    ∧ (let s := dbg (fun d => { d with matches_ := d.matches_.set 1 0x4000000000000000 }) (dgr q5)
       bits ((s.core 0).dbg.matches_.get 1).toNat 63 62 = 1 ∧ bits ((s.core 0).dbg.matches_.get 1).toNat 47 2 * 4 = (s.core 0).arch.pc.toNat % 2 ^ 48)
    ∧ ((dbg (fun d => { d with watched := 2 }) (dgr q5)).core 0).dbg.watched.getLsbD 1 = true
    ∧ q5.invasive 0 = false ∧ q5.issues 0 = true := by decide +kernel

/-- ADD g4, g4, g5 with the stop bit, and a word that an injection refuses (R359). -/
def addWord : BitVec 32 := (encodeSyl (.aluRRR y .add 4 4 5)).getD 0

theorem witness_DebugHalting_inject :
    sylStop addWord = true ∧ decodeSyl y addWord = some (.aluRRR y .add 4 4 5)
    ∧ (let s := dbg (fun d => { d with halted := true, itr := some (addWord.setWidth 64) }) (dgr q5)
       s.crnState 0 = 1 ∧ s.pwr 0 = 0 ∧ s.frozen (.core 0) = false ∧ s.invasive 0 = true ∧ (s.core 0).arch.lpc = 0)
    ∧ itrRefused (itrWords 0) = true := by decide +kernel

/-- TRC on for core 0: the trace DMA with a ring of 4 KiB at 0x4000, and PTR at its last frame. -/
def trcOn (s : State) : State :=
  let s := ((dgr s).fset Blk.TRC Reg.TRC_CTRL_EN 1).fset Blk.TRC Reg.TRC_CTRL_OUT 3
  ((s.rput Blk.TRC 8 1).fset Blk.TRC Reg.TRC_BUF_BASE_BASE 4).fset Blk.TRC Reg.TRC_BUF_PTR_PTR 0x4000
def unit (f : TraceUnit → TraceUnit) (s : State) : State := s.modTrace 0 f

theorem witness_TraceCommands :
    (let s := unit (fun u => { u with discarding := true, live := true, buf := [1, 2, 3] }) (trcOn q5)
     s.regsWf = true ∧ s.stopped = false ∧ (s.trace.get 0).discarding = true ∧ (s.trace.get 0).buf.length ≤ 3072 ∧ s.pwr 95 = 0
      ∧ s.tracing 0 = true)
    ∧ (let s := unit (fun u => { u with live := true, buf := [1, 2, 3] }) (trcOn q5)
       s.tracing 0 = true ∧ (s.trace.get 0).discarding = false ∧ (s.trace.get 0).buf.length + 29 ≤ 4096
        ∧ s.fget Blk.TRC Reg.TRC_CTRL_OUT = 3 ∧ s.pwr 95 = 0 ∧ s.traceSize = 0)
    ∧ (let s := grant ((guardOf .trace).getD 0) (unit (fun u => { u with live := true, buf := [1, 2, 3] })
        (((trcOn q5).fset Blk.TRC Reg.TRC_BUF_SIZE_SIZE 1).fset Blk.TRC Reg.TRC_BUF_PTR_PTR 0x4FE0))
       s.traceSize ≠ 0 ∧ s.tracePtr < s.traceBase + s.traceSize ∧ s.frozen .trace = false ∧ s.traceBase ≤ s.tracePtr
        ∧ s.tracePtr + 32 = s.traceBase + s.traceSize
        ∧ ((s.modTrace 0 (fun u => { u with buf := [] })).dmaWrite s.traceAcc s.tracePtr (List.replicate 32 1)).2 = DmaAns.ok)
    ∧ (let s := (trcOn q5).fset (Blk.grd ((guardOf .trace).getD 0)) Reg.GRD_STATUS_FROZEN 1
       s.frozen .trace = true) := by decide +kernel

theorem witness_RegisterWrites :
    (q5.regsWf = true ∧ q5.stopped = false ∧ q5.frozen rr.acc.src = false ∧ q5.devOk (Blk.mac 4) 0x018 8 = true ∧ q5.devOk (Blk.mac 4) 0x3F8 8 = true
      ∧ q5.devOk Blk.SPP 0x024 4 = true ∧ q5.lockBit Blk.SPP = false ∧ q5.expert (Blk.mac 4) = false)
    ∧ (∀ off ∈ [0x038, 0x1F8, 0x2A0, 0x7F8], q5.devOk Blk.SPP off 8 = true)
    ∧ ((q5.rput (Blk.mac 4) 0x3F8 1).expert (Blk.mac 4) = true ∧ (q5.rput (Blk.mac 4) 0x3F8 1).devOk (Blk.mac 4) 0x400 8 = true)
    ∧ (q5.rput Blk.SPP 0x3F8 4).lockBit Blk.SPP = true
    ∧ isOk (q5.guard rr.acc (regAddr (Blk.mac 4) 0x018) 8 .write) = true
    ∧ isOk ((q5.rput (Blk.grd ((guardOf .trace).getD 0)) 0x400 0).guard ⟨.trace, .S, 0, false⟩ (regAddr (Blk.mac 4) 0x018) 8 .write) = true := by decide +kernel

theorem witness_RegisterWrites_refused :
    isOk ((q5.fset (Blk.grd ((guardOf .trace).getD 0)) Reg.GRD_CTRL_EN 1).guard ⟨.trace, .S, 0, false⟩
      (regAddr (Blk.mac 4) 0x018) 8 .write) = false
    ∧ q5.devOk 0x3F0 0 8 = false ∧ isOk (q5.guard ⟨.trace, .S, 0, false⟩ (regAddr 0x3F0 0) 8 .write) = true := by decide +kernel

/-! Witnesses: the statements about every command and every step. -/

theorem witness_SyllableWords : sylOf (.aluRRR y .add 4 4 5) = some y := rfl
theorem witness_TickOfTime : State.reset.pending = [] ∧ State.reset.regsWf = true ∧ State.reset.tb.adjRem = 0
    ∧ State.reset.rget Blk.DTB Reg.DTB_ADJ_ADJ.off = 0 := by decide
theorem witness_StepKeeps : State.reset.wf = true ∧ ∃ t, Machine.step State.reset = .next t := ⟨by decide, _, rfl⟩
theorem witness_DebugGrants : q5.Takes (ww 0x80000041) Blk.DBG 0x008 ∧ q5.Takes ⟨⟨.core 0, .S, 0, true⟩, false, true, 0⟩ Blk.DBG 0x008
    ∧ (q5.fset Blk.DBG Reg.DBG_AUTH_LOCK 1).flag Blk.DBG Reg.DBG_AUTH_LOCK = true ∧ q5.Takes (wn 0) Blk.DBG 0x008 :=
  ⟨takes_of (by decide), takes_of (by decide), by decide, takes_of (by decide)⟩
theorem witness_VmctlBasins : (lv .N .H q5).Quiet 0 ∧ WholeSyl y (lv .N .H q5)
    ∧ ((lv .N .H q5).pair (pairOf 0)).basins.getLsbD (((lv .N .H q5).arch 0).gval 1).toNat = false ∧ ((lv .N .H q5).arch 0).hs.busy = false :=
  ⟨quiet_of (by decide) (by decide), whole_of (by decide), by decide, by decide⟩
theorem witness_CoreResetState : qFrz.Takes (w1 0x32) (Blk.grd 0) 0x018 ∧ qFrz.flag (Blk.grd 0) Reg.GRD_STATUS_FROZEN = true
    ∧ qFrz.locked (pairOf 0) = false ∧ qFrz.regsWf = true := ⟨takes_of (by decide), by decide, by decide, by decide⟩

/-! Results worked out by hand from the spec. -/

/-- The next state of a command. -/
def next (i : Instr) (s : State) : State :=
  match exec i s with
  | .next t => t
  | _ => s

/-- 10_tarn_isa.md, Example: the three words of the loop. -/
theorem test_word_macd : encodeSyl (.macd y 6 4 5 0b000110) = some 0xC2184146 := by decide +kernel
theorem test_word_nop : encodeSyl (.aluRRR y .add 0 0 0) = some 0x80000000 := by decide +kernel
theorem test_word_loopi : encodeSyl (.loopi y 4 1) = some 0xF1004001 := by decide +kernel
theorem test_read_macd : decodeSyl y 0xC2184146 = some (.macd y 6 4 5 0b000110) := by decide +kernel

/-- R194: 2^64 − 1 plus 1 carries and does not overflow as a signed sum; 2^63 − 1 plus 1 overflows. -/
theorem test_adds_wraps : let s := next (.adds y 5 1 4) (setg 1 0xFFFFFFFFFFFFFFFF q5)
    (s.arch 0).gval 5 = 0 ∧ (s.arch 0).flC = true ∧ (s.arch 0).flOV = false := by decide +kernel
theorem test_adds_overflows : let s := next (.adds y 5 1 4) (setg 1 0x7FFFFFFFFFFFFFFF q5)
    (s.arch 0).gval 5 = 0x8000000000000000 ∧ (s.arch 0).flC = false ∧ (s.arch 0).flOV = true := by decide +kernel

/-- The source that is also the destination: SUB g1, g1, g1. -/
theorem test_sub_same : ((next (.aluRRR y .sub 1 1 1) q5).arch 0).gval 1 = 0 := by decide +kernel
theorem test_sar_sign : ((next (.shiftImm y .sari 5 2 63) q5).arch 0).gval 5 = 0xFFFFFFFFFFFFFFFF := by decide +kernel
theorem test_g0_discards : ((next (.aluRRR y .add 0 1 1) q5).arch 0).gval 0 = 0 := by decide +kernel

/-- R195, MULHS: (−7)·(−7) has a high half of 0, due 4 bundles later; 2^63 · 2^63 unsigned has 2^62. -/
theorem test_mulhs : ((next (.mul y .mulhs 5 2 2) q5).core 0).pend.map (fun p => (p.val, p.due)) = [(0, 4)] := by decide +kernel
theorem test_mulhu : ((next (.mul y .mulhu 5 1 1) (setg 1 0x8000000000000000 q5)).core 0).pend.map (·.val) = [0x4000000000000000] := by
  decide +kernel

/-- R213: −2^63 / −1 gives −2^63 with OV. -/
theorem test_div_edge : let s := next (.divide y .div 5 1 2) (setg 1 0x8000000000000000 (setg 2 (-1) q5))
    (s.core 0).longs.map (·.val) = [0x8000000000000000] ∧ (s.arch 0).flOV = true := by decide +kernel

/-- R201, R280: MCALL 7 from K enters M at EVEC.BASE + 0x040 with SERVICE 7 and code 13. -/
theorem test_mcall : let s := next (.mcall y 7) (lv .N .K q5)
    (s.arch 0).level = .M ∧ (s.arch 0).ms.ecause = 0x7000F000D ∧ (s.arch 0).ms.epc = 4 := by decide +kernel

/-- 13_coherence_transactions.md, Example: a conflict snoop aborts at depth 1 with the status 0x0003_0200 in g5. -/
theorem test_tx_conflict : let s := (inTxn 1 (qOwn .E)).modCore 0 (fun k => { k with l2 := k.l2.map (fun l => { l with rmark := true }) })
    let t := next (.snpInv 0 77) s
    (t.arch 0).gval 5 = 0x30200 ∧ (t.arch 0).pc = 0x4440 ∧ (t.core 0).txn = none := by decide +kernel

/-- 15_worlds_basins.md, Example: entry 3 of T10's guard refuses a write of basin 9 in the N world. -/
def qGrd : State := (State.reset.fset (Blk.grd 10) Reg.GRD_CTRL_EN 1).rput (Blk.grd 10) 0x418 0x7894400040000001
theorem test_guard_refuses : (match qGrd.guard ⟨.core 10, .N, 9, false⟩ 0x40123FC0 64 .write with
    | .refuse e => e
    | .ok _ _ _ => none) = some 3 := by decide +kernel
theorem test_guard_reads : isOk (qGrd.guard ⟨.core 10, .N, 9, false⟩ 0x40123FC0 64 .read) = true
    ∧ isOk (qGrd.guard ⟨.core 10, .S, 9, false⟩ 0x40123FC0 64 .read) = false := by decide +kernel
theorem test_guard_finfo : (qGrd.freezeCore 10 1 ⟨⟨.core 10, .N, 9, false⟩, 0x40123FF8, .write, some 3⟩).rget (Blk.grd 10) 0x010 = 0x90103 := by
  decide +kernel

/-- R303: the sixteenth event sets OVF and leaves COUNT at 15. -/
theorem test_event_overflow : let s := next (.sptRaise (ww 600)) (srcAt 600 { (qSrc.src 600) with count := 15 } qSrc)
    (s.src 600).count = 15 ∧ (s.src 600).ovf = true := by decide +kernel

/-- 09_ridge_links.md, Example: a frame of 1,500 bytes goes over the ridge in 7 flits, the last of 76 bytes. -/
theorem test_lent_flits : (q5.lentFlits 3 6 0 true 0 (List.replicate 1500 0)).map (fun f => (f.isFirst, f.isLast, f.len)) =
    [(true, false, 240), (false, false, 240), (false, false, 240), (false, false, 240), (false, false, 240), (false, false, 240),
     (false, true, 76)] := by decide +kernel

/-- 03_peer_negotiation.md, Example: the choice from 16, 13, 10, 7 and SUPPORTED 0x2480 is mode 13 at the slower BEAT. -/
theorem test_spp_choice : (sess 3 [] (fun k => { k with pref := 0x070A0D10, floor := 11, beat := 10 }) |>.sess 4).choose
    [0, 0, 0x24, 0x80, 0, 0, 20, 0] = [13, 0, 0, 20, 0, 0, 0, 0] := by decide +kernel

/-- 19_debug_trace.md, Example: taken, not taken, taken, then RET to 0x401F48 after 0x401000. -/
theorem test_trace_stream : ((((((({ ((trcOn q5).trace.get 0) with addr := 0x401000, live := true, buf := [] } : TraceUnit).atom true).atom false).atom
    true).address 0x401F48)).buf) = [0x8D, 0x02, 0xD2, 0x07] := by decide +kernel

/-- R8: an RW1C bit is cleared by 1 and kept by 0. -/
theorem test_rw1c :
    (next (.regWrite ⟨.core 0, .S, 0, true⟩ (BitVec.ofNat 46 (regAddr (Blk.mac 4) 0x018)) 8 5) (q5.rput (Blk.mac 4) 0x018 7)).rget (Blk.mac 4) 0x018 = 2 := by
  decide +kernel

/-- R347: a tick with ADJ 0 is 1 ns, 65,536 units of 2^−16 ns. -/
theorem test_tick : (match Machine.step State.reset with
    | .next t => t.tb.now
    | _ => 0) = State.reset.tb.now + 65536 := by decide +kernel

/-- R39: the FCS of IEEE 802.3 of the digits 1 to 9 is CBF43926, sent low byte first. -/
theorem test_fcs : fcsOf [0x31, 0x32, 0x33, 0x34, 0x35, 0x36, 0x37, 0x38, 0x39] = [0x26, 0x39, 0xF4, 0xCB] := by decide +kernel

/-- FIPS 197, C.1: AES-128 of 00112233445566778899AABBCCDDEEFF. -/
theorem test_aes : aesBlock (aesKeys ((List.range 16).map (fun i => BitVec.ofNat 8 i))) ((List.range 16).map (fun i => BitVec.ofNat 8 (17 * i))) =
    [0x69, 0xC4, 0xE0, 0xD8, 0x6A, 0x7B, 0x04, 0x30, 0xD8, 0xCD, 0xB7, 0x80, 0x70, 0xB4, 0xC5, 0x5A] := by decide +kernel

/-- 15_worlds_basins.md, Example: the two-stage translation of VA 0x4012_3FF8 ends at PA 0x4012_3FF8. The level-0 and
level-1 tables stand at IPA 0x8000_0000 and 0x8000_1000, those of stage 2 from PA 0x5000_0000 on. -/
def qWalk : State :=
  let w (a v : Nat) : List (Nat × Byte) := (leBytes 8 v).zipIdx.filterMap (fun x =>
    if x.1 = 0 then none else some (locOf (pcOf a) (pageOf a) (a % 4096 + x.2), x.1))
  let ws := [(0x40000000, 0x80001003), (0x40001008, 0x800002DD), (0x50000000, 0x50001003), (0x50001010, 0x50002003), (0x50002000, 0x4000027D)]
  let s := lv .N .K q5
  let s := s.modArch 0 (fun a => { a with vmctl := 9, s1tb0N := 0x80000001, s2tb := 0x50000001 })
  { s with mem := (ws.flatMap (fun x => w x.1 x.2)).foldl (fun m c => sparsePut (0 : Byte) c.1 c.2 m) [] }

theorem test_translation : (match (qWalk.translate 0 0x40123FF8 .read).2 with
    | .ok (pa, ty) => decide (pa = 0x40123FF8 ∧ ty = .normalWB)
    | .error _ => false) = true := by decide +kernel
end Sys2Proof.Tests
end

section
/-! PROOF. A whole syllable on a quiet core comes about or raises: what the end of its bundle does (10_tarn_isa.md R184,
R185), and that taking an exception begins no debug step (19_debug_trace.md R358). -/

namespace Sys2Proof.Machine

/-! What leaves the cores alone. -/

@[simp] theorem State.bump_cores (s : State) (b : Nat) (f : Fld) : (s.bump b f).cores = s.cores := rfl

@[simp] theorem State.setEvt_cores (s : State) (b : Nat) (f : Fld) (i : Nat) : (s.setEvt b f i).cores = s.cores := rfl

@[simp] theorem State.setStg_cores (s : State) (k : StageId) (f : Fld) (v : Nat) : (s.setStg k f v).cores = s.cores := rfl

@[simp] theorem State.diverge_cores (s : State) (k : StageId) : (s.diverge k).cores = s.cores := rfl

@[simp] theorem State.discardStage_cores (s : State) (k : StageId) (cause : Nat) : (s.discardStage k cause).cores = s.cores := by
  simp only [State.discardStage]
  split <;> rfl

theorem State.withSaEvts_cores (s : State) (q : List (Nat × SaEvq)) : { s with saEvts := q }.cores = s.cores := rfl

theorem State.core_eq_of_cores {s t : State} (h : t.cores = s.cores) (c : CoreId) : t.core c = s.core c := by
  simp only [State.core, h]

/-- A fold over a list whose every step leaves the cores alone leaves them alone. -/
theorem foldL_cores {α : Type} (l : List α) (f : α → State → State) (hf : ∀ x t, (f x t).cores = t.cores) (s : State) :
    (foldL l f s).cores = s.cores :=
  foldL_keeps (fun t => t.cores = s.cores) l f (fun x t h => (hf x t).trans h) s rfl

@[simp] theorem State.basinReset_cores (s : State) (b : BasinId) : (s.basinReset b).cores = s.cores := by
  unfold State.basinReset
  split
  · rfl
  · extract_lets stages rings saq sources spouts
    have hstages : stages.cores = s.cores := by
      refine foldL_cores _ _ (fun k t => ?_) s
      split
      · dsimp only
        split <;> simp
      · rfl
    have hsaq : saq.cores = s.cores :=
      (State.withSaEvts_cores rings _).trans ((State.fset_cores _ _ _ _).trans ((State.fset_cores _ _ _ _).trans hstages))
    clear_value saq
    have hsources : sources.cores = saq.cores := by
      apply foldL_cores
      intro n t
      split
      · exact State.setSrc_cores _ _ _
      · rfl
    clear_value sources
    have hspouts : spouts.cores = sources.cores := foldL_cores _ _ (fun _ _ => State.rput_cores _ _ _ _) sources
    rw [State.setEvt_cores, hspouts, hsources, hsaq]

@[simp] theorem State.traceSync_cores (s : State) (c : CoreId) : (s.traceSync c).cores = s.cores := rfl

@[simp] theorem State.traceLong_cores (s : State) (c : CoreId) : (s.traceLong c).cores = s.cores := by
  simp only [State.traceLong]
  split <;> simp

@[simp] theorem State.traceContext_cores (s : State) (c : CoreId) : (s.traceContext c).cores = s.cores := by
  simp only [State.traceContext]
  split <;> simp

@[simp] theorem State.traceCheck_cores (s : State) (c : CoreId) : (s.traceCheck c).cores = s.cores := by
  simp only [State.traceCheck]
  split
  · split <;> simp
  · split
    · split <;> simp
    · split <;> simp

@[simp] theorem State.traceEntry_cores (s : State) (c : CoreId) (code src : Nat) (ret : Word) :
    (s.traceEntry c code src ret).cores = s.cores := by
  simp only [State.traceEntry]
  split <;> simp

/-! No debug step of a core is under way (R358) where none was: `dbg.stepping` through an entry. -/

@[simp] theorem Core.inForce_dbg (k : Core) (n : Nat) (v : Word) : (k.inForce n v).dbg = k.dbg := by
  simp only [Core.inForce]
  split <;> rfl

theorem foldl_inForce_dbg (l : List CtlWrite) (k : Core) :
    (l.foldl (fun k w => k.inForce w.num.toNat w.val) k).dbg = k.dbg := by
  induction l generalizing k with
  | nil => rfl
  | cons w l ih => exact (ih _).trans (k.inForce_dbg _ _)

@[simp] theorem Core.drained_dbg (k : Core) : k.drained.dbg = k.dbg := foldl_inForce_dbg _ _

/-- After a device reset every core's debug logic is as at reset. -/
theorem State.deviceReset_dbg (s : State) (cause : Nat) (c : CoreId) : ((s.deviceReset cause).core c).dbg = CoreDbg.reset := by
  simp [State.deviceReset, State.core, Vector.get, Core.reset]

theorem errRecord_stepping (s : State) (e : ErrInfo) (c : CoreId) (h : (s.core c).dbg.stepping = false) :
    ((s.errRecord e).core c).dbg.stepping = false := by
  unfold State.errRecord
  extract_lets esc r s1 s2
  have h1 : s1.cores = s.cores := by
    simp only [s1]
    split <;> simp
  split
  · split
    · rw [State.deviceReset_dbg]
      rfl
    · rwa [State.core_eq_of_cores (s := s) (by simpa [s2] using h1)]
  · rwa [State.core_eq_of_cores h1]

theorem freezeGuard_stepping (s : State) (g cause : Nat) (r : Refused) (c : CoreId) (h : (s.core c).dbg.stepping = false) :
    ((s.freezeGuard g cause r).core c).dbg.stepping = false :=
  errRecord_stepping _ _ c h

theorem freezeCore_stepping (s : State) (d : CoreId) (cause : Nat) (r : Refused) (c : CoreId)
    (h : (s.core c).dbg.stepping = false) : ((s.freezeCore d cause r).core c).dbg.stepping = false := by
  simp only [State.freezeCore]
  split
  · exact freezeGuard_stepping _ _ _ _ c (freezeGuard_stepping _ _ _ _ c h)
  · exact freezeGuard_stepping _ _ _ _ c h

theorem modArch_traceEntry_stepping (s : State) (c : CoreId) (f : CoreArch → CoreArch) (code src : Nat) (ret : Word)
    (h : (s.core c).dbg.stepping = false) : (((s.modArch c f).traceEntry c code src ret).core c).dbg.stepping = false := by
  rwa [State.core_eq_of_cores (State.traceEntry_cores _ _ _ _ _), modArch_eq, core_modCore]

theorem enterBy_stepping (s : State) (c : CoreId) (w : World) (l : Level) (e : Exc) (ret : Word) (src : Nat)
    (h : (s.core c).dbg.stepping = false) : ((s.enterBy c w l e ret src).core c).dbg.stepping = false := by
  unfold State.enterBy
  extract_lets t a
  have ht : (t.core c).dbg.stepping = false := by
    simpa [t, State.core_eq_of_cores (State.traceCheck_cores s c)] using h
  split
  · exact modArch_traceEntry_stepping t c _ _ _ _ ht
  · split
    · exact modArch_traceEntry_stepping t c _ _ _ _ ht
    · exact freezeCore_stepping t c _ _ c ht

/-- Outside an injected bundle and a transaction an exception is an entry, which begins no step. -/
theorem raise_stepping (s : State) (c : CoreId) (e : Exc) (ret : Word) (hi : (s.core c).dbg.inject = false)
    (hx : (s.core c).txn = none) (h : (s.core c).dbg.stepping = false) : ((s.raise c e ret).core c).dbg.stepping = false := by
  simp only [State.raise, hi, hx, Option.isSome_none, Bool.false_eq_true, ↓reduceIte, State.enterLevel]
  exact enterBy_stepping s c _ _ e ret _ h

theorem stepEnd_none (s : State) (c : CoreId) (h : (s.core c).dbg.stepping = false) : s.stepEnd c = s := by
  simp [State.stepEnd, h]

/-! A whole syllable is staged, and its bundle ends at once. -/

/-- What a syllable stages in an empty bundle, where its own fields are legal and where they are not
(`syllable_completes` ties it to `State.syllable`). -/
def stagedAlone (k : Core) (y : Syl) (info : CoreArch → SylInfo) (eff : Core → Bundle → Bundle) : Bundle :=
  if (info k.arch).legal then eff k (Bundle.empty.count y (info k.arch)) else Bundle.empty.count y (info k.arch)

theorem syllable_completes (s : State) (y : Syl) (info : CoreArch → SylInfo) (eff : Core → Bundle → Bundle)
    (q : s.Still y.core) (w : WholeSyl y s) (hf : (info (s.arch y.core)).fpSync = false) :
    s.syllable y info eff =
      (s.setCore y.core { s.core y.core with bundle := stagedAlone (s.core y.core) y info eff }).complete y.core true s := by
  have hlead : s.leadOf y.core = y.core := by simp [State.leadOf, q.split]
  have hiss : s.issues y.core = true := by
    simp [State.issues, q.runs, hlead, State.outsideWait, q.split, q.undo, q.waiting, q.watched]
  have hbr : s.breakHere y.core = false := by simp [State.breakHere, q.debug]
  simp only [State.arch] at hf
  simp only [State.syllable, goOn_none s _ q.waiting, hiss, hbr, q.inject, owed_none _ q.longs, stallFor_none _ _ _ q.longs,
    holdFor_none _ _ q.longs, hf, q.bundle, w.stop, stagedAlone, Bool.not_true, Bool.false_or, Bool.true_or,
    Bool.false_eq_true, ↓reduceIte]

theorem stagedAlone_of_not_legal (k : Core) (y : Syl) (info : CoreArch → SylInfo) (eff : Core → Bundle → Bundle)
    (h : (info k.arch).legal = false) : stagedAlone k y info eff = Bundle.empty.count y (info k.arch) :=
  if_neg (by simp [h])

theorem modCore_clear_setCore (s : State) (c : CoreId) (b : Bundle) (h : (s.core c).bundle = Bundle.empty) :
    (s.setCore c { s.core c with bundle := b }).modCore c Core.clear = s := by
  have hk : Core.clear { s.core c with bundle := b } = s.core c := by
    simp only [Core.clear, ← h]
  rw [State.modCore, State.core_setCore, State.setCore_setCore, hk, State.setCore_core]

/-- A staged bundle that is stopped before anything of it is performed leaves what stops it (R185). -/
theorem complete_stopped (s t old : State) (c : CoreId) (b : Bundle) (hb : (s.core c).bundle = Bundle.empty)
    (hf : (s.core c).fetched = []) (hm : b.mem = []) (h : s.bundleStop c { s.core c with bundle := b } b true = some t) :
    (s.setCore c { s.core c with bundle := b }).complete c true old = t.stepEnd c := by
  apply complete_plain
  · rw [State.core_setCore]
    exact hm
  · rw [State.core_setCore]
    exact hf
  · simp only [State.commitBundle, modCore_clear_setCore s c b hb, State.core_setCore, Bundle.ordered_plain b _ hm, h]

theorem bundleStop_illegal (s : State) (c : CoreId) (k : Core) (b : Bundle) (hi : k.dbg.inject = false)
    (h : b.isIllegal k.arch.pc true = true) : s.bundleStop c k b true = some (s.raise c (illegalExc k.arch.pc) k.arch.pc) := by
  simp [State.bundleStop, hi, h]

/-- A syllable whose own fields are not legal makes its bundle illegal (R184). -/
theorem isIllegal_count (b : Bundle) (y : Syl) (i : SylInfo) (pc : Word) (stopped : Bool) (h : i.legal = false) :
    (b.count y i).isIllegal pc stopped = true := by
  simp [Bundle.isIllegal, Bundle.count, h]

/-- A syllable alone in its bundle meets no condition of R184 where its own fields are legal, it has EXT only if it takes an
immediate, and it writes no register twice. -/
theorem isIllegal_count_alone (s : State) (y : Syl) (i : SylInfo) (w : WholeSyl y s) (hx : y.ext = [] ∨ i.imm = true)
    (hs : i.slot ≠ .alone) (hl : i.legal = true) (hd : noDup (i.writes.filter (fun d => decide (d ≠ .g 0))) = true) :
    (Bundle.empty.count y i).isIllegal (s.arch y.core).pc true = false := by
  have he := w.ext
  have hf := w.fits
  have hsyls : (Bundle.empty.count y i).syls = 1 + y.ext.length := by simp [Bundle.count, Bundle.empty]
  apply isIllegal_false
  case h => rwa [hsyls]
  case hn => omega
  case h0 => rcases hx with hx | hx <;> simp [Bundle.count, Bundle.empty, hl, hx, he]
  case h5 => simp [Bundle.count, Bundle.empty, hs]
  case h6 => exact hd
  case h7 => simp only [Bundle.count, Bundle.empty]; split <;> simp
  all_goals simp only [Bundle.count, Bundle.empty]; cases i.slot <;> simp

/-- A whole syllable whose own fields are not legal takes ILLEGAL on its bundle. -/
theorem syllable_illegal (s : State) (y : Syl) (info : CoreArch → SylInfo) (eff : Core → Bundle → Bundle)
    (q : s.Quiet y.core) (w : WholeSyl y s) (hl : (info (s.arch y.core)).legal = false)
    (hf : (info (s.arch y.core)).fpSync = false) :
    s.syllable y info eff = s.raise y.core (illegalExc (s.arch y.core).pc) (s.arch y.core).pc := by
  have hstop := bundleStop_illegal s y.core { s.core y.core with bundle := Bundle.empty.count y (info (s.core y.core).arch) }
    _ q.inject (isIllegal_count Bundle.empty y _ _ _ hl)
  rw [syllable_completes s y info eff q.toStill w hf, stagedAlone_of_not_legal _ y info eff hl,
    complete_stopped s _ s y.core _ q.bundle q.fetched rfl hstop]
  exact stepEnd_none _ _ (raise_stepping s y.core _ _ q.inject q.txn q.step)

end Sys2Proof.Machine
end

section
/-! PROOF. MULWU and MULWS (10_tarn_isa.md R195). -/

namespace Sys2Proof.Machine

/-- A g-register other than g63 is named by its number, whatever the state of execution (R186). -/
theorem gdst_of_ne (a : CoreArch) {n : BitVec 6} (h : n ≠ 63) : a.gdst n = .g n.toFin := if_neg h

/-- Two g-registers below g63 are two destinations. -/
theorem gdst_ne (a : CoreArch) {m n : BitVec 6} (hm : m ≠ 63) (hn : n ≠ 63) (h : m ≠ n) : a.gdst m ≠ a.gdst n := by
  rw [gdst_of_ne a hm, gdst_of_ne a hn]
  intro e
  exact h (BitVec.eq_of_toFin_eq (Dst.g.inj e))

/-- Two registers that differ are two destinations without a repetition, g0 left out or not. -/
theorem noDup_two {d e : Dst} (h : d ≠ e) : noDup ([d, e].filter (fun x => decide (x ≠ .g 0))) = true := by
  by_cases h1 : d = .g 0 <;> by_cases h2 : e = .g 0 <;> simp [h1, h2, noDup, h]

/-- The destinations of a legal wide product are two registers (R195). -/
theorem gdst_pair_ne (a : CoreArch) {d : BitVec 6} (h : d.toNat ≤ 60) : a.gdst d ≠ a.gdst (d + 1) := by
  apply gdst_ne <;> bv_omega

/-- A whole wide multiply with d even and at most 60: both halves are on their way with latency 4. -/
theorem execMulWide_later (s : State) (y : Syl) (signed : Bool) (d a b : BitVec 6) (q : s.Still y.core) (w : WholeSyl y s)
    (he : y.ext = []) (h2 : d.toNat % 2 = 0) (h60 : d.toNat ≤ 60) :
    let r := s.arch y.core
    let p := product signed (r.gval a) (r.gval b)
    let due := (s.core y.core).bn + 4
    execMulWide y signed d a b s = .next (s.retired y.core 1 r
      [⟨r.gdst d, (p.extractLsb' 0 64).setWidth 128, due, 0⟩, ⟨r.gdst (d + 1), (p.extractLsb' 64 64).setWidth 128, due, 0⟩] []) := by
  intro r p due
  rw [← BitVec.setWidth_eq_extractLsb' (x := p) (by decide), ← BitVec.setWidth_ushiftRight_eq_extractLsb (b := p)]
  unfold execMulWide
  rw [syllable_later s y _ _ _ q w (by simp [h2, h60]) rfl rfl]
  · simp [Bundle.wr, Bundle.count, Bundle.empty, he, CoreArch.setFl, State.arch, r, p, due]
  · exact isIllegal_count_alone s y _ w (.inl he) Slot.noConfusion (by simp [h2, h60]) (noDup_two (gdst_pair_ne r h60))
  all_goals simp [Bundle.wr, Bundle.count, Bundle.empty]

/-- A whole wide multiply with d odd or above 60 takes ILLEGAL (R184). -/
theorem execMulWide_illegal (s : State) (y : Syl) (signed : Bool) (d a b : BitVec 6) (q : s.Quiet y.core) (w : WholeSyl y s)
    (hd : d.toNat % 2 = 1 ∨ 60 < d.toNat) :
    execMulWide y signed d a b s = .next (s.raise y.core (illegalExc (s.arch y.core).pc) (s.arch y.core).pc) := by
  have hl : (decide (d.toNat % 2 = 0) && decide (d.toNat ≤ 60)) = false := by
    rw [Bool.and_eq_false_iff, decide_eq_false_iff_not, decide_eq_false_iff_not]
    omega
  exact congrArg _ (syllable_illegal s y _ _ q w hl rfl)

/-- The row MULWU and MULWS has this meaning. -/
theorem exec_mulWide (y : Syl) (signed : Bool) (d a b : BitVec 6) (s : State) :
    exec (.mulWide y signed d a b) s = execMulWide y signed d a b s := rfl

/-- Settles O3: a legal d retires the bundle with both halves on their way (`execMulWide_later`), any other takes ILLEGAL
(`execMulWide_illegal`). -/
theorem wideProducts : Obligations.WideProducts := by
  unfold Obligations.WideProducts
  intro s y d a b signed q w he
  rw [exec_mulWide]
  exact ⟨execMulWide_later s y signed d a b q.toStill w he, execMulWide_illegal s y signed d a b q w⟩

end Sys2Proof.Machine
end

section
/-! PROOF. The state in which a core starts (15_worlds_basins.md R278). -/

namespace Sys2Proof.Machine

/-- What R278 says of the registers of a core that starts: state M, every regime's translation off, no handling set busy,
VMCTL.VMID 0 and MCTL.XW_EN 0. -/
def CoreArch.Starting (a : CoreArch) : Prop :=
  a.level = .M ∧ a.world = .S
    ∧ [a.s1tb0N, a.s1tb1N, a.s1tb0S, a.s1tb1S, a.htb, a.mtb, a.s2tb].all (fun v => !(v.getLsbD 0)) = true
    ∧ a.nk.busy = false ∧ a.sk.busy = false ∧ a.hs.busy = false ∧ a.ms.busy = false
    ∧ a.vmctl.toNat % 64 = 0 ∧ a.mctl.getLsbD 0 = false

/-- The registers that R186 leaves undefined are none of those that R278 names. -/
theorem starting_freeArch (n : Nat) : (freeArch n CoreArch.reset).Starting := by
  simp [CoreArch.Starting, freeArch, CoreArch.reset, HSet.reset, HSet.busy, bitAt]

/-! Device resets. -/

theorem deviceReset_arch (s : State) (cause : Nat) (c : CoreId) :
    (s.deviceReset cause).arch c = freeArch (s.free + freeArchSize * c.val) CoreArch.reset := by
  change (s.deviceReset cause).cores[c.val].arch = _
  simp [State.deviceReset]

theorem starting_deviceReset (s : State) (cause : Nat) (c : CoreId) : ((s.deviceReset cause).arch c).Starting := by
  rw [deviceReset_arch]
  exact starting_freeArch _

theorem holdReset_arch (s : State) (c : CoreId) : s.holdReset.arch c = s.arch c := rfl

theorem starting_resetBy (s : State) (cause : Nat) (c : CoreId) : ((s.resetBy cause).arch c).Starting := by
  unfold State.resetBy
  split
  · rw [holdReset_arch]
    exact starting_deviceReset s cause c
  · exact starting_deviceReset s cause c

/-- The row MESH_UE has this meaning. -/
theorem exec_meshUe (s : State) : exec .meshUe s = .next (if s.stopped then s else s.deviceReset 5) := rfl

/-- The row CONTROL_PARITY has this meaning. -/
theorem exec_controlParity (s : State) : exec .controlParity s = .next (if s.stopped then s else s.deviceReset 6) := rfl

/-- Each command of a device reset (R334) leaves every core in its starting state; a device whose islands stand still
detects neither MESH_UE nor CONTROL_PARITY (R371, R377). -/
theorem exec_deviceReset_starting (s : State) (c : CoreId) {x : Instr}
    (hx : x ∈ [Instr.resetN, .jtagReset, .powerOn, .meshUe, .controlParity, .supply])
    (hs : s.stopped = false ∨ x ≠ .meshUe ∧ x ≠ .controlParity) : ∃ t, exec x s = .next t ∧ (t.arch c).Starting := by
  simp only [List.mem_cons, List.not_mem_nil, or_false] at hx
  rcases hx with rfl | rfl | rfl | rfl | rfl | rfl
  · exact ⟨s.resetBy 2, rfl, starting_resetBy s 2 c⟩
  · exact ⟨_, rfl, starting_resetBy (s.tap 0x25 false false) 8 c⟩
  · exact ⟨_, rfl, starting_deviceReset _ 1 c⟩
  · have going : s.stopped = false := hs.resolve_right fun h => h.1 rfl
    exact ⟨s.deviceReset 5, by rw [exec_meshUe, going]; rfl, starting_deviceReset s 5 c⟩
  · have going : s.stopped = false := hs.resolve_right fun h => h.2 rfl
    exact ⟨s.deviceReset 6, by rw [exec_controlParity, going]; rfl, starting_deviceReset s 6 c⟩
  · exact ⟨(s.deviceReset 9).holdReset, rfl, by rw [holdReset_arch]; exact starting_deviceReset s 9 c⟩

/-! The core reset operation. -/

@[simp] theorem State.setReady_cores (s : State) (n : Nat) (v : Bool) : (s.setReady n v).cores = s.cores := by
  unfold State.setReady
  split <;> rfl

@[simp] theorem State.setCrnState_cores (s : State) (c : CoreId) (v : Nat) : (s.setCrnState c v).cores = s.cores := by
  unfold State.setCrnState
  split <;> rfl

@[simp] theorem State.setUnitReady_cores (s : State) (c : CoreId) (v : Bool) : (s.setUnitReady c v).cores = s.cores :=
  foldL_cores _ _ (fun _ t => State.setReady_cores t _ v) s

/-- A start leaves a core's registers but its pc, which no clause of R278 speaks of. -/
theorem starting_startCore (s : State) (c : CoreId) (h : (s.arch c).Starting) : ((s.startCore c).arch c).Starting := by
  have hpc (p : Word) : ((s.modArch c (fun r => { r with pc := p })).arch c).Starting := by
    rw [modArch_eq, State.arch, core_modCore]
    exact h
  unfold State.startCore
  split
  · rwa [State.arch, State.core_eq_of_cores (State.setCrnState_cores s c 0)]
  · next p _ =>
    dsimp only
    split <;> rw [State.arch, State.core_eq_of_cores (s := s.modArch c (fun r => { r with pc := p })) (by simp)] <;> exact hpc p

/-- R278, R336: a core reset puts the core into its starting state, whatever its caches and its trace unit held. -/
theorem starting_coreReset (s : State) (c : CoreId) : ((s.coreReset c).arch c).Starting := by
  apply starting_startCore
  rw [State.arch, State.core_eq_of_cores (State.draw_cores _ _), core_modCore]
  exact starting_freeArch _

/-! THAW with reset (R296, R297). -/

theorem locked_fset_grd (s : State) (g : Nat) (f : Fld) (v : Nat) (p : Fin 16) (hf : f.off < 4096) :
    (s.fset (Blk.grd g) f v).locked p = s.locked p := by
  have hk : regKey (Blk.crn p.val) Reg.CRN_STATUS_MODE.off ≠ regKey (Blk.grd g) f.off := by
    have := p.isLt
    simp only [regKey, Blk.crn, Blk.grd, Reg.CRN_STATUS_MODE]
    omega
  simp only [State.locked, State.flag, fget_fset_ne s _ _ _ _ v hk]

/-- A thaw with OP reset of a core of a split pair is a core reset (R296). -/
theorem thaw_reset_core (s : State) (c : CoreId) (target : Nat) (hl : s.locked (pairOf c) = false) :
    s.thaw c.val 2 target = (s.fset (Blk.grd c.val) Reg.GRD_STATUS_FROZEN 0).coreReset c := by
  have hu : s.unfreeze c.val = s.fset (Blk.grd c.val) Reg.GRD_STATUS_FROZEN 0 := by
    simp [State.unfreeze, hl]
  have hl' : (s.fset (Blk.grd c.val) Reg.GRD_STATUS_FROZEN 0).locked (pairOf c) = false := by
    rwa [locked_fset_grd s _ _ _ _ (by decide)]
  simp [State.thaw, hu, masterOf, State.leadOf, hl']

/-- A write that reaches a guard's block is that guard's own (R22). -/
theorem blockWrite_grd (s : State) (a : Access) (g : Fin 113) (off : Nat) (m v : Word) (ho : off ≠ 0x3F8) :
    s.blockWrite a (Blk.grd g.val) off m v = s.wrGrd a g.val off m v := by
  have hg := g.isLt
  have h0 : ¬ 512 + g.val < 32 := by omega
  have h1 : ¬ 512 + g.val < 352 := by omega
  have h2 : 512 + g.val ≠ 464 := by omega
  have h3 : ¬ (432 ≤ 512 + g.val ∧ 512 + g.val < 464) := by omega
  have h4 : ¬ (352 ≤ 512 + g.val ∧ 512 + g.val < 384) := by omega
  have h5 : ¬ (384 ≤ 512 + g.val ∧ 512 + g.val < 416) := by omega
  have h6 : ¬ (416 ≤ 512 + g.val ∧ 512 + g.val < 432) := by omega
  have h7 : 512 ≤ 512 + g.val ∧ 512 + g.val < 625 := by omega
  have h8 : 512 + g.val - 512 = g.val := by omega
  simp [State.blockWrite, Blk.grd, Blk.HUB, *]

/-- The row THAW_RESET is a write of GRD_THAW that names OP reset. -/
theorem exec_thawReset (s : State) (g : Fin 113) (w : RegW) : exec (.thawReset g w) s = .next (s.thawCmd g w 2) := rfl

/-- The write of a thaw with OP reset (0x32) names its OP, in a wide write as in one of the low half. -/
theorem woVal_thaw_reset (w : RegW) (hh : w.high = false) (hv : w.val = 0x32) :
    woVal Reg.GRD_THAW_OP (regMask w) (regBits w) = 2 := by
  cases hw : w.wide <;> simp only [woVal, regMask, regBits, hh, hv, hw] <;> decide

theorem exec_thawReset_core (s : State) (c : CoreId) (g : Fin 113) (w : RegW) (ht : s.Takes w (Blk.grd g.val) 0x018)
    (hh : w.high = false) (hv : w.val = 0x32) (hm : w.acc.mbit = true) (hg : g.val = c.val)
    (hf : s.flag (Blk.grd g.val) Reg.GRD_STATUS_FROZEN = true) (hl : s.locked (pairOf c) = false) :
    exec (.thawReset g w) s = .next ((s.fset (Blk.grd c.val) Reg.GRD_STATUS_FROZEN 0).coreReset c) := by
  have hop := woVal_thaw_reset w hh hv
  have hcmd : s.thawCmd g w 2 = s.regWrite (Blk.grd g.val) 0x018 w := by
    rw [State.thawCmd, hop]
    exact regWriteIf_true s w _ _
  rw [← thaw_reset_core s c (woVal Reg.GRD_THAW_TARGET (regMask w) (regBits w)) hl, ← hg, exec_thawReset, hcmd,
    regWrite_takes s w _ _ ht, blockWrite_grd s _ g _ _ _ (by decide)]
  simp [State.wrGrd, hm, hop, hf]

/-- Settles O60: the commands of a device reset (`exec_deviceReset_starting`), the core reset operation
(`starting_coreReset`) and a thaw with reset, which is that operation (`exec_thawReset_core`). -/
theorem coreResetState : Obligations.CoreResetState := by
  unfold Obligations.CoreResetState
  intro s c g w
  refine ⟨fun x hx hs => exec_deviceReset_starting s c hx hs, starting_coreReset s c, ?_⟩
  intro ht hh hv hm hg hf hl _
  exact ⟨_, exec_thawReset_core s c g w ht hh hv hm hg hf hl, starting_coreReset _ c⟩

end Sys2Proof.Machine
end

section
/-! PROOF. MTCR to VMCTL with a VMID outside the pair's BASINS (15_worlds_basins.md R291). -/

namespace Sys2Proof.Machine

theorem bundleStop_bop (s : State) (c : CoreId) (k : Core) (b : Bundle) (o : BOp) (e : Exc) (hi : k.dbg.inject = false)
    (h : b.isIllegal k.arch.pc true = false) (he : b.exc = none) (ho : b.bop = some o) (hs : s.bopStop c o = some (.exc e)) :
    s.bundleStop c k b true = some (s.raise c e k.arch.pc) := by
  simp [State.bundleStop, hi, h, he, ho, hs]

/-- What a B-class syllable does is no condition of R184. -/
theorem isIllegal_op (b : Bundle) (o : BOp) (pc : Word) (stopped : Bool) : (b.op o).isIllegal pc stopped = b.isIllegal pc stopped := by
  cases b
  rfl

/-- A whole syllable whose operation the end of its bundle forbids raises that exception on its bundle, and nothing of it
comes about (R185). -/
theorem syllable_bop_raises (s : State) (y : Syl) (info : CoreArch → SylInfo) (eff : Core → Bundle → Bundle) (b : Bundle)
    (o : BOp) (e : Exc) (q : s.Quiet y.core) (w : WholeSyl y s) (hl : (info (s.arch y.core)).legal = true)
    (hf : (info (s.arch y.core)).fpSync = false)
    (hb : eff (s.core y.core) (Bundle.empty.count y (info (s.arch y.core))) = b)
    (h : b.isIllegal (s.arch y.core).pc true = false) (he : b.exc = none) (hm : b.mem = []) (ho : b.bop = some o)
    (hs : s.bopStop y.core o = some (.exc e)) : s.syllable y info eff = s.raise y.core e (s.arch y.core).pc := by
  have staged : stagedAlone (s.core y.core) y info eff = b := (if_pos hl).trans hb
  have stop := bundleStop_bop s y.core { s.core y.core with bundle := b } b o e q.inject h he ho hs
  rw [syllable_completes s y info eff q.toStill w hf, staged, complete_stopped s _ s y.core b q.bundle q.fetched hm stop]
  exact stepEnd_none _ _ (raise_stepping s y.core e _ q.inject q.txn q.step)

/-- An MTCR that its level or its value forbids stops its bundle. -/
theorem bopStop_mtcr (s : State) (c : CoreId) (num : BitVec 12) (v : Word) (e : Exc) (h : s.mtcrExc c num v = some e) :
    s.bopStop c (.mtcr num v) = some (.exc e) := by
  unfold State.bopStop
  simp only [h]

/-- An MTCR alone in its bundle, of another number than FPC, that its level or its value forbids. -/
theorem mtcrOp_raises (s : State) (y : Syl) (d : BitVec 6) (num : BitVec 12) (e : Exc) (q : s.Quiet y.core) (w : WholeSyl y s)
    (hx : y.ext = []) (hf : num ≠ 1) (he : s.mtcrExc y.core num ((s.arch y.core).gval d) = some e) :
    s.mtcrOp y d num = s.raise y.core e (s.arch y.core).pc := by
  unfold State.mtcrOp
  refine syllable_bop_raises s y _ _ _ _ e q w rfl (decide_eq_false hf) rfl ?_ rfl rfl rfl (bopStop_mtcr s _ num _ e he)
  rw [isIllegal_op]
  exact isIllegal_count_alone s y _ w (.inl hx) Slot.noConfusion rfl rfl

/-- At a level that writes VMCTL, a VMID outside BASINS raises PRIVILEGED (R291); at the others any MTCR to it does (R284). -/
theorem mtcrExc_vmctl (s : State) (c : CoreId) (v : Word) (h : (s.pair (pairOf c)).basins.getLsbD (v.toNat % 64) = false) :
    s.mtcrExc c 0x137 v = some (plainExc .privileged) := by
  have hv : bits v.toNat 5 0 = v.toNat % 64 := by simp [bits]
  have hn : ctlAbs (s.core c).arch 0x137#12 = 0x137 := rfl
  have hd : ctlDefined 0x137 = true := rfl
  have hw : ctlReadOnly 0x137 = false := rfl
  cases hr : ctlReach (s.core c).arch.world (s.core c).arch.level 0x137 true
  · simp [State.mtcrExc, hn, hd, hw, hr]
  · simp [State.mtcrExc, hn, hd, hw, hr, hv, bitAt, h]

/-- The row MTCR has this meaning. -/
theorem exec_mtcr (y : Syl) (d : BitVec 6) (num : BitVec 12) (s : State) : exec (.mtcr y d num) s = .next (s.mtcrOp y d num) := rfl

/-- R291: the whole syllable raises PRIVILEGED at its own bundle. -/
theorem exec_mtcr_vmctl (s : State) (y : Syl) (d : BitVec 6) (q : s.Quiet y.core) (w : WholeSyl y s) (hx : y.ext = [])
    (h : (s.pair (pairOf y.core)).basins.getLsbD (((s.arch y.core).gval d).toNat % 64) = false) :
    exec (.mtcr y d 0x137) s = .next (s.raise y.core (plainExc .privileged) (s.arch y.core).pc) := by
  rw [exec_mtcr, mtcrOp_raises s y d 0x137 _ q w hx (by decide) (mtcrExc_vmctl s y.core _ h)]

/-- Core 0 in a handler of M that has not yet saved its set, so that M is BUSY (R280), with VMCTL.VMID 5 and g1 = 5, while
the record of an earlier guard violation of the core stands unread and ERR_CTRL.ESC_EN has its reset value 1 (R332). The
pair's BASINS holds B0 only. -/
def busyAtM : State :=
  { (State.reset.setCrnState 0 1).modArch 0 (fun a => { (a.gput 1 5) with vmctl := 5, ms := { a.ms with estat := 0x8000 } }) with
    errs := [{ seq := 1, isNew := true, cls := 5, esc := false, lostBefore := false, info := 0, basin := 0, world := .S,
               kind := 9, index := 0, addr := 0, ns := 0, sec := 0 }] }

theorem busyAtM_quiet : busyAtM.Quiet 0 where
  runs := by decide
  split := by decide
  bundle := rfl
  pend := rfl
  ctl := rfl
  longs := rfl
  undo := rfl
  fetched := rfl
  waiting := rfl
  loop := rfl
  inject := rfl
  step := rfl
  watched := rfl
  debug := by decide
  trace := by decide
  stream := rfl
  txn := rfl

/-- PRIVILEGED cannot enter the busy M, so the core's guard freezes it with cause NESTED_M (R280); the record of that freeze
escalates to a device reset (R332, the core's basin is B0), which takes VMCTL back to 0 (R278). -/
theorem busyAtM_raise_resets : ((busyAtM.raise 0 (plainExc .privileged) (busyAtM.arch 0).pc).arch 0).vmctl = 0 := by
  decide

/-- Refutes O59: PRIVILEGED is raised in every case (`exec_mtcr_vmctl`), but VMCTL need not keep its value: in `busyAtM` the
exception meets a busy M, and the freeze that follows escalates to a device reset (`busyAtM_raise_resets`). -/
theorem not_vmctlBasins : ¬ Obligations.VmctlBasins := by
  unfold Obligations.VmctlBasins
  intro h
  have whole : WholeSyl ⟨0, true, []⟩ busyAtM := ⟨rfl, by decide, by decide⟩
  have outside : (busyAtM.pair (pairOf 0)).basins.getLsbD (((busyAtM.arch 0).gval 1).toNat % 64) = false := by decide
  obtain ⟨-, t, ht, hvmctl, -⟩ := h busyAtM ⟨0, true, []⟩ 1 busyAtM_quiet whole rfl outside
  rw [exec_mtcr_vmctl busyAtM ⟨0, true, []⟩ 1 busyAtM_quiet whole rfl outside] at ht
  cases ht
  rw [busyAtM_raise_resets] at hvmctl
  exact absurd hvmctl (by decide)

end Sys2Proof.Machine
end

section
/-! PROOF. An edge of PPS_IN is timestamped or ignored, and source 39 shows DTB_EVENT (18_bringup_power.md R349). -/

namespace Sys2Proof.Machine

/-! What PPS_EDGE does. -/

/-- The edge before this one was seen less than 100 ms ago (R349). -/
def State.PpsNear (s : State) : Prop := ∃ n, s.tb.ppsTick = some n ∧ s.tb.ticks < n + 100000000

/-- The edge is kept as the one the next is compared with (`exec_ppsEdge_near`, `exec_ppsEdge_stamped`). -/
def State.ppsSeen (s : State) : State := { s with tb := { s.tb with ppsTick := some s.tb.ticks } }

/-- The time base in DTB_PPS0 and DTB_PPS1, with DTB_EVENT.PPS set (`exec_ppsEdge_stamped`). -/
def State.ppsStamped (s : State) : State :=
  (((s.fset Blk.DTB Reg.DTB_PPS0_NS s.ns).fset Blk.DTB Reg.DTB_PPS0_FRAC s.frac).fset Blk.DTB Reg.DTB_PPS1_SECONDS
    s.sec).fset Blk.DTB Reg.DTB_EVENT_PPS 1

/-- The row PPS_EDGE has this meaning. -/
theorem exec_ppsEdge (s : State) : exec .ppsEdge s = execPpsEdge s := rfl

/-- An edge near the one before it sets PPS_GLITCH. -/
theorem exec_ppsEdge_near (s : State) (h : s.PpsNear) :
    exec .ppsEdge s = .next (s.ppsSeen.fset Blk.DTB Reg.DTB_EVENT_PPS_GLITCH 1) := by
  obtain ⟨n, hn, hlt⟩ := h
  simp [exec_ppsEdge, execPpsEdge, State.ppsSeen, hn, hlt]

/-- An edge with none before it, or with the last 100 ms or more ago, is timestamped. -/
theorem exec_ppsEdge_stamped (s : State) (h : ¬ s.PpsNear) : exec .ppsEdge s = .next s.ppsSeen.ppsStamped := by
  cases hn : s.tb.ppsTick with
  | none =>
    simp only [exec_ppsEdge, execPpsEdge, hn]
    rfl
  | some n =>
    have hlt : ¬ s.tb.ticks < n + 100000000 := fun hlt => h ⟨n, hn, hlt⟩
    simp only [exec_ppsEdge, execPpsEdge, hn, hlt, decide_false]
    rfl

/-! What a field's write leaves of the other registers, and what source 39 shows. -/

/-- Another register than the written field's reads as before. -/
theorem rget_fset_ne (s : State) (b c : Nat) (f : Fld) (v o : Nat) (h : regKey c o ≠ regKey b f.off) :
    (s.fset b f v).rget c o = s.rget c o := rget_rput_ne s _ _ _ _ _ h

/-- A register with a field that is not 0 is not 0. -/
theorem rget_ne_zero_of_fget (s : State) (b : Nat) (f : Fld) (h : s.fget b f ≠ 0) : s.rget b f.off ≠ 0 := by
  intro hz
  exact h (by simp [State.fget, hz, bits])

/-- Source 39 shows DTB_EVENT. -/
theorem srcInput_dtb (s : State) : s.srcInput 39 = true ↔ s.rget Blk.DTB Reg.DTB_EVENT_PPS.off ≠ 0 := decide_eq_true_iff

/-- A bit of DTB_EVENT that is 1 raises source 39. -/
theorem srcInput_dtb_of_event (s : State) (f : Fld) (hf : f.off = Reg.DTB_EVENT_PPS.off) (h : s.fget Blk.DTB f = 1) :
    s.srcInput 39 = true := by
  rw [srcInput_dtb, ← hf]
  exact rget_ne_zero_of_fget s _ f (by simp [h])

/-! The fields after a timestamp. -/

section
variable (s : State) (hr : s.regsWf = true)
include hr

theorem ppsStamped_ns : s.ppsStamped.fget Blk.DTB Reg.DTB_PPS0_NS = s.ns := by
  have fits : s.ns < 2 ^ 32 := by
    simp only [State.ns, dtbSecond]
    omega
  simp (disch := decide) only [State.ppsStamped, fget_fset_ne]
  rw [fget_fset_apart _ _ Reg.DTB_PPS0_FRAC Reg.DTB_PPS0_NS _ (regsWf_fset _ _ _ _ hr) rfl (by decide) (by decide)
      (by decide) (by decide),
    fget_fset_self _ _ _ _ hr (by decide) (by decide)]
  exact Nat.mod_eq_of_lt fits

theorem ppsStamped_frac : s.ppsStamped.fget Blk.DTB Reg.DTB_PPS0_FRAC = s.frac := by
  simp (disch := decide) only [State.ppsStamped, fget_fset_ne]
  rw [fget_fset_self _ _ _ _ (regsWf_fset _ _ _ _ hr) (by decide) (by decide)]
  exact Nat.mod_mod _ _

theorem ppsStamped_sec : s.ppsStamped.fget Blk.DTB Reg.DTB_PPS1_SECONDS = s.sec := by
  simp (disch := decide) only [State.ppsStamped, fget_fset_ne]
  rw [fget_fset_self _ _ _ _ (regsWf_fset _ _ _ _ (regsWf_fset _ _ _ _ hr)) (by decide) (by decide)]
  exact Nat.mod_mod _ _

theorem ppsStamped_pps : s.ppsStamped.fget Blk.DTB Reg.DTB_EVENT_PPS = 1 :=
  fget_fset_self _ _ _ 1 (regsWf_fset _ _ _ _ (regsWf_fset _ _ _ _ (regsWf_fset _ _ _ _ hr))) (by decide) (by decide)

theorem ppsStamped_glitch :
    s.ppsStamped.fget Blk.DTB Reg.DTB_EVENT_PPS_GLITCH = s.fget Blk.DTB Reg.DTB_EVENT_PPS_GLITCH := by
  rw [State.ppsStamped, fget_fset_apart _ _ Reg.DTB_EVENT_PPS Reg.DTB_EVENT_PPS_GLITCH _
    (regsWf_fset _ _ _ _ (regsWf_fset _ _ _ _ (regsWf_fset _ _ _ _ hr))) rfl (by decide) (by decide) (by decide) (by decide)]
  simp (disch := decide) only [fget_fset_ne]

end

theorem ppsStamped_tb (s : State) : s.ppsStamped.tb = s.tb := by
  simp only [State.ppsStamped, State.fset_tb]

/-- Settles O58: a timestamped edge writes `State.ppsStamped` (`exec_ppsEdge_stamped`), a near one PPS_GLITCH only
(`exec_ppsEdge_near`), and source 39 shows DTB_EVENT (`srcInput_dtb`). -/
theorem ppsEdges : Obligations.PpsEdges := by
  unfold Obligations.PpsEdges
  intro s hr
  have hseen : s.ppsSeen.regsWf = true := hr
  refine ⟨fun far => ?_, fun near => ?_, srcInput_dtb s⟩
  · have pps := ppsStamped_pps s.ppsSeen hseen
    exact ⟨s.ppsSeen.ppsStamped, exec_ppsEdge_stamped s far, ppsStamped_ns _ hseen, ppsStamped_frac _ hseen,
      ppsStamped_sec _ hseen, pps, ppsStamped_glitch _ hseen, ppsStamped_tb _, srcInput_dtb_of_event _ _ rfl pps⟩
  · have glitch : (s.ppsSeen.fset Blk.DTB Reg.DTB_EVENT_PPS_GLITCH 1).fget Blk.DTB Reg.DTB_EVENT_PPS_GLITCH = 1 :=
      fget_fset_self _ _ _ 1 hseen (by decide) (by decide)
    have pps := fget_fset_apart s.ppsSeen Blk.DTB Reg.DTB_EVENT_PPS_GLITCH Reg.DTB_EVENT_PPS 1 hseen rfl (by decide)
      (by decide) (by decide) (by decide)
    exact ⟨_, exec_ppsEdge_near s near, glitch, pps, rget_fset_ne _ _ _ _ _ _ (by decide),
      rget_fset_ne _ _ _ _ _ _ (by decide), srcInput_dtb_of_event _ Reg.DTB_EVENT_PPS_GLITCH rfl glitch⟩

end Sys2Proof.Machine
end

section
/-! PROOF. How GRANT of DBG_AUTH is set and cleared (19_debug_trace.md R353). -/

namespace Sys2Proof.Machine

/-! What leaves the registers alone. -/

theorem State.rget_eq_of_regs {s t : State} (h : t.regs = s.regs) (b o : Nat) : t.rget b o = s.rget b o := by
  simp only [State.rget, h]

theorem State.fget_eq_of_regs {s t : State} (h : t.regs = s.regs) (b : Nat) (f : Fld) : t.fget b f = s.fget b f := by
  simp only [State.fget, State.rget_eq_of_regs h]

theorem State.flag_eq_of_regs {s t : State} (h : t.regs = s.regs) (b : Nat) (f : Fld) : t.flag b f = s.flag b f := by
  simp only [State.flag, State.fget_eq_of_regs h]

/-- A fold over a list whose every step leaves the registers alone leaves them alone. -/
theorem foldL_regs {α : Type} (l : List α) (f : α → State → State) (hf : ∀ x t, (f x t).regs = t.regs) (s : State) :
    (foldL l f s).regs = s.regs :=
  foldL_keeps (fun t => t.regs = s.regs) l f (fun x t h => (hf x t).trans h) s rfl

@[simp] theorem State.traceCheck_regs (s : State) (c : CoreId) : (s.traceCheck c).regs = s.regs := by
  simp only [State.traceCheck]
  split
  · split <;> rfl
  · split
    · split <;> rfl
    · split <;> rfl

@[simp] theorem State.dbgResume_regs (s : State) (c : CoreId) : (s.dbgResume c).regs = s.regs :=
  State.traceCheck_regs _ c

/-- What a change of GRANT ends (R355) is in the cores and the trace units. -/
@[simp] theorem State.authCheck_regs (s : State) : s.authCheck.regs = s.regs := by
  refine (foldL_regs _ _ (fun c t => t.traceCheck_regs c) _).trans (foldL_regs _ _ (fun c t => ?_) s)
  split
  · rfl
  · dsimp only
    split
    · exact State.dbgResume_regs _ c
    · rfl

/-! Fields as bits of their register. -/

theorem fget_lt (s : State) (b : Nat) (f : Fld) : s.fget b f < 2 ^ (f.hi + 1 - f.lo) :=
  Nat.mod_lt _ (Nat.two_pow_pos _)

/-- A field of another register reads as before. -/
theorem fget_rput_ne (s : State) (b o c : Nat) (f : Fld) (v : Word) (h : regKey c f.off ≠ regKey b o) :
    (s.rput b o v).fget c f = s.fget c f := by
  simp only [State.fget, rget_rput_ne _ _ _ _ _ _ h]

/-- A flag is its bit of the register. -/
theorem flag_eq_bit (s : State) (b : Nat) (f : Fld) (h : f.hi = f.lo) : s.flag b f = (s.rget b f.off).getLsbD f.lo := by
  rw [State.flag, State.fget, bits, h, Nat.add_sub_cancel_left, Nat.pow_one, ← BitVec.testBit_toNat,
    Nat.testBit_eq_decide_div_mod_eq, Nat.shiftRight_eq_div_pow]
  exact decide_eq_decide.mpr Nat.mod_two_ne_zero

theorem fget_testBit (s : State) (b : Nat) (f : Fld) (i : Nat) :
    (s.fget b f).testBit i = (decide (i < f.hi + 1 - f.lo) && (s.rget b f.off).getLsbD (f.lo + i)) := by
  rw [State.fget, bits, Nat.testBit_mod_two_pow, Nat.testBit_shiftRight, BitVec.testBit_toNat]

/-! DBG_AUTH written by the table (R8). -/

theorem grant_testBit (s : State) (i : Nat) :
    (s.fget Blk.DBG Reg.DBG_AUTH_GRANT).testBit i = (decide (i < 13) && (s.rget Blk.DBG 0x008).getLsbD i) := by
  rw [fget_testBit, show Reg.DBG_AUTH_GRANT.lo + i = i from Nat.zero_add i]
  rfl

theorem lock_eq_bit (s : State) : s.flag Blk.DBG Reg.DBG_AUTH_LOCK = (s.rget Blk.DBG 0x008).getLsbD 31 :=
  flag_eq_bit s Blk.DBG Reg.DBG_AUTH_LOCK rfl

/-- GRANT shares no bit with LOCK. -/
theorem lock_fset_grant (s : State) (v : Nat) (h : s.regsWf = true) :
    (s.fset Blk.DBG Reg.DBG_AUTH_GRANT v).flag Blk.DBG Reg.DBG_AUTH_LOCK = s.flag Blk.DBG Reg.DBG_AUTH_LOCK :=
  congrArg (fun n => decide (n ≠ 0)) (fget_fset_apart s _ Reg.DBG_AUTH_GRANT Reg.DBG_AUTH_LOCK v h rfl (by decide) (by decide)
    (by decide) (by decide))

/-- The fields of DBG_AUTH: LOCK is set by 1, GRANT is read and written. -/
theorem fieldsAt_dbgAuth : fieldsAt Blk.DBG 0x008 = [⟨31, 31, .w1s, 0⟩, ⟨12, 0, .rw, 0⟩] := by
  decide

theorem tableWrite_dbgAuth (s : State) (m v : Word) :
    s.tableWrite Blk.DBG 0x008 m v = s.rput Blk.DBG 0x008 (s.wouldHold Blk.DBG 0x008 m v) := by
  simp [State.tableWrite, fieldsAt_dbgAuth, coversRwx]

theorem regsWf_tableWrite_dbgAuth (s : State) (m v : Word) (hr : s.regsWf = true) :
    (s.tableWrite Blk.DBG 0x008 m v).regsWf = true := by
  rw [tableWrite_dbgAuth]
  exact regsWf_rput _ _ _ _ hr

theorem wouldHold_grant_bit (s : State) (m v : Word) {i : Nat} (h : i < 13) :
    (s.wouldHold Blk.DBG 0x008 m v).getLsbD i = if m.getLsbD i then v.getLsbD i else (s.rget Blk.DBG 0x008).getLsbD i := by
  have h31 : (maskBits 31 31).getLsbD i = false := by
    rw [maskBits_bit 31 31 i (by decide) (by decide)]
    simp; omega
  have h12 : (maskBits 12 0).getLsbD i = true := by
    rw [maskBits_bit 12 0 i (by decide) (by decide)]
    simp; omega
  simp only [State.wouldHold, fieldsAt_dbgAuth, writeFields, List.foldl_cons, List.foldl_nil, writeField,
    BitVec.getLsbD_or, BitVec.getLsbD_and, BitVec.getLsbD_not, h31, h12]
  cases m.getLsbD i <;> simp
  omega

theorem wouldHold_lock_bit (s : State) (m v : Word) :
    (s.wouldHold Blk.DBG 0x008 m v).getLsbD 31 = ((s.rget Blk.DBG 0x008).getLsbD 31 || (m.getLsbD 31 && v.getLsbD 31)) := by
  have h31 : (maskBits 31 31).getLsbD 31 = true := by decide
  have h12 : (maskBits 12 0).getLsbD 31 = false := by decide
  simp only [State.wouldHold, fieldsAt_dbgAuth, writeFields, List.foldl_cons, List.foldl_nil, writeField,
    BitVec.getLsbD_or, BitVec.getLsbD_and, BitVec.getLsbD_not, h31, h12]
  simp [Bool.and_comm]

/-- A bit of the low half is covered by an access of the whole register and by one of that half (R7). -/
theorem halfMask_low_bit (wide high : Bool) {i : Nat} (hi : i < 32) : (halfMask wide high).getLsbD i = (wide || !high) := by
  cases wide
  · cases high
    · have upTo31 : halfMask false false = maskBits 31 0 := by decide
      rw [upTo31, maskBits_bit 31 0 i (by decide) (by decide)]
      simp; omega
    · have from32 : halfMask false true = maskBits 63 32 := by decide
      rw [from32, maskBits_bit 63 32 i (by decide) (by decide)]
      simp; omega
  · have all : halfMask true high = maskBits 63 0 := by simp [halfMask, maskBits]
    rw [all, maskBits_bit 63 0 i (by decide) (by decide)]
    simp; omega

theorem regMask_low_bit (w : RegW) (hw : w.wf = true) {i : Nat} (hi : i < 32) : (regMask w).getLsbD i = !w.high := by
  rw [regMask, halfMask_low_bit _ _ hi]
  cases h : w.wide
  · rfl
  · simp_all [RegW.wf]

theorem regBits_low (w : RegW) (h : w.high = false) : regBits w = w.val := by
  simp [regBits, h]

section
variable (s : State) (w : RegW) (hr : s.regsWf = true) (hw : w.wf = true)
include hr hw

/-- A write of the half with GRANT sets it to the bits it carries. -/
theorem tableWrite_dbgAuth_grant :
    (s.tableWrite Blk.DBG 0x008 (regMask w) (regBits w)).fget Blk.DBG Reg.DBG_AUTH_GRANT =
      if w.high then s.fget Blk.DBG Reg.DBG_AUTH_GRANT else w.val.toNat % 2 ^ 13 := by
  apply Nat.eq_of_testBit_eq
  intro i
  rw [tableWrite_dbgAuth, grant_testBit, rget_rput_self _ _ _ _ hr]
  by_cases h : i < 13
  · rw [wouldHold_grant_bit s _ _ h, regMask_low_bit w hw (by omega)]
    cases hh : w.high
    · simp [h, regBits_low w hh, Nat.testBit_mod_two_pow _ 13, BitVec.testBit_toNat]
    · simp [h, grant_testBit]
  · cases w.high
    · simp [h, Nat.testBit_mod_two_pow _ 13]
    · simp [h, grant_testBit]

/-- A 1 in bit 31 sets LOCK, and nothing clears it. -/
theorem tableWrite_dbgAuth_lock :
    (s.tableWrite Blk.DBG 0x008 (regMask w) (regBits w)).flag Blk.DBG Reg.DBG_AUTH_LOCK =
      (s.flag Blk.DBG Reg.DBG_AUTH_LOCK || (!w.high && w.val.getLsbD 31)) := by
  rw [tableWrite_dbgAuth, lock_eq_bit, lock_eq_bit, rget_rput_self _ _ _ _ hr, wouldHold_lock_bit,
    regMask_low_bit w hw (by decide)]
  cases hh : w.high
  · rw [regBits_low w hh]
  · simp

/-- R353: a write from M sets GRANT while LOCK = 0, if it carries its half. -/
theorem wrDbgAuth_grant (a : Access) (ha : a.mbit = true) :
    (s.wrDbgAuth a (regMask w) (regBits w)).fget Blk.DBG Reg.DBG_AUTH_GRANT =
      if s.flag Blk.DBG Reg.DBG_AUTH_LOCK || w.high then s.fget Blk.DBG Reg.DBG_AUTH_GRANT else w.val.toNat % 2 ^ 13 := by
  have wf := regsWf_tableWrite_dbgAuth s (regMask w) (regBits w) hr
  have same : s.fget Blk.DBG Reg.DBG_AUTH_GRANT % 2 ^ 13 = s.fget Blk.DBG Reg.DBG_AUTH_GRANT := Nat.mod_eq_of_lt (fget_lt s _ _)
  simp only [State.wrDbgAuth, ha, Bool.not_true, Bool.false_eq_true, ↓reduceIte, State.fget_eq_of_regs (State.authCheck_regs _)]
  cases hl : s.flag Blk.DBG Reg.DBG_AUTH_LOCK
  · simpa using tableWrite_dbgAuth_grant s w hr hw
  · simpa using (fget_fset_self _ _ _ _ wf (by decide) (by decide)).trans same

theorem wrDbgAuth_lock (a : Access) (ha : a.mbit = true) :
    (s.wrDbgAuth a (regMask w) (regBits w)).flag Blk.DBG Reg.DBG_AUTH_LOCK =
      (s.flag Blk.DBG Reg.DBG_AUTH_LOCK || (!w.high && w.val.getLsbD 31)) := by
  have wf := regsWf_tableWrite_dbgAuth s (regMask w) (regBits w) hr
  rw [← tableWrite_dbgAuth_lock s w hr hw]
  simp only [State.wrDbgAuth, ha, Bool.not_true, Bool.false_eq_true, ↓reduceIte, State.flag_eq_of_regs (State.authCheck_regs _)]
  split
  · exact lock_fset_grant _ _ wf
  · rfl

end

theorem wrDbgAuth_ignored (s : State) (a : Access) (m v : Word) (ha : a.mbit = false) : s.wrDbgAuth a m v = s := by
  simp [State.wrDbgAuth, ha]

/-- The row DBG_AUTH_WRITE is a write of DBG_AUTH. -/
theorem exec_dbgAuthWrite (s : State) (w : RegW) (ht : s.Takes w Blk.DBG 0x008) :
    exec (.dbgAuthWrite w) s = .next (s.wrDbgAuth w.acc (regMask w) (regBits w)) :=
  congrArg _ (regWrite_takes s w Blk.DBG 0x008 ht)

/-! A certificate (R354). -/

/-- A certificate that passes carries 13 bits of grant. -/
theorem certCheck_grant_lt (s : State) (b : List Byte) (h : s.certCheck b = 0) : leAt b 12 2 < 2 ^ 13 := by
  unfold State.certCheck at h
  extract_lets nonce form at h
  split at h
  · cases h
  · next hform =>
    simp only [form, Bool.not_eq_true', Bool.not_eq_false, Bool.and_eq_true, beq_iff_eq] at hform
    omega

/-- What AUTH leaves in the registers: the nonce drawn anew, and the grant of an accepted certificate in GRANT
(`exec_auth_regs`). -/
def State.certified (s : State) (b : List Byte) : State :=
  let t := (s.rput Blk.DBG 0x010 (Config.rng s.free)).rput Blk.DBG 0x018 (Config.rng (s.free + 1))
  if s.certCheck b = 0 then t.fset Blk.DBG Reg.DBG_AUTH_GRANT (s.fget Blk.DBG Reg.DBG_AUTH_GRANT ||| leAt b 12 2) else t

theorem certCheck_tap (s : State) (code : BitVec 8) (driven highz : Bool) (l : List Bool) (b : List Byte) :
    ((s.tap code driven highz).tdo l).certCheck b = s.certCheck b := rfl

theorem exec_auth_regs (s : State) (b : List Byte) (hb : b.length = 7488) (hp : s.pwr 95 = 0) :
    ∃ t, exec (.auth b) s = .next t ∧ t.regs = (s.certified b).regs := by
  have taken : ¬ (b.length ≠ 7488 ∨ s.pwr 95 ≠ 0) := by simp [hb, hp]
  refine ⟨_, if_neg taken, ?_⟩
  rw [State.authCheck_regs]
  by_cases hc : s.certCheck b = 0 <;> simp only [certCheck_tap, State.certified, hc, ↓reduceIte] <;> rfl

/-- The 13 bits of an accepted grant fit the field, and drawing the nonces anew leaves DBG_AUTH as it was. -/
theorem certified_grant (s : State) (b : List Byte) (hr : s.regsWf = true) :
    (s.certified b).fget Blk.DBG Reg.DBG_AUTH_GRANT =
      if s.certCheck b = 0 then s.fget Blk.DBG Reg.DBG_AUTH_GRANT ||| leAt b 12 2 else s.fget Blk.DBG Reg.DBG_AUTH_GRANT := by
  simp only [State.certified]
  split
  · next hc =>
    rw [fget_fset_self _ _ _ _ (regsWf_rput _ _ _ _ (regsWf_rput _ _ _ _ hr)) (by decide) (by decide)]
    exact Nat.mod_eq_of_lt (Nat.or_lt_two_pow (fget_lt s _ _) (certCheck_grant_lt s b hc))
  · simp (disch := decide) only [fget_rput_ne]

theorem certified_lock (s : State) (b : List Byte) (hr : s.regsWf = true) :
    (s.certified b).flag Blk.DBG Reg.DBG_AUTH_LOCK = s.flag Blk.DBG Reg.DBG_AUTH_LOCK := by
  simp only [State.certified]
  split
  · rw [lock_fset_grant _ _ (regsWf_rput _ _ _ _ (regsWf_rput _ _ _ _ hr))]
    simp (disch := decide) only [State.flag, fget_rput_ne]
  · simp (disch := decide) only [State.flag, fget_rput_ne]

/-! Device resets (R334). -/

theorem deviceReset_grant (s : State) (cause : Nat) : (s.deviceReset cause).fget Blk.DBG Reg.DBG_AUTH_GRANT = 0 := by
  unfold State.deviceReset
  extract_lets n z c tb k r r1 r2 r3 r4 r5
  have none : r.fget Blk.DBG Reg.DBG_AUTH_GRANT = 0 := by
    rw [State.fget_eq_of_regs (show r.regs = State.reset.regs from rfl)]
    decide
  simp (disch := decide) only [r5, r4, r3, r2, r1, fget_fset_ne, fget_rput_ne]
  exact none

theorem holdReset_grant (s : State) : s.holdReset.fget Blk.DBG Reg.DBG_AUTH_GRANT = s.fget Blk.DBG Reg.DBG_AUTH_GRANT := by
  change ((s.fset (Blk.cis 0) Reg.CIS_STATUS_TRAIN 0).fset (Blk.cis 1) Reg.CIS_STATUS_TRAIN 0).fget Blk.DBG Reg.DBG_AUTH_GRANT = _
  simp (disch := decide) only [fget_fset_ne]

theorem resetBy_cases (s : State) (cause : Nat) :
    s.resetBy cause = s.deviceReset cause ∨ s.resetBy cause = (s.deviceReset cause).holdReset := by
  unfold State.resetBy
  split
  · exact .inr rfl
  · exact .inl rfl

/-- Each command of a device reset is one, or one that leaves the device held in reset (R371); a device whose islands stand
still detects neither MESH_UE nor CONTROL_PARITY (R377). -/
theorem exec_deviceReset_cases (s : State) {x : Instr}
    (hx : x ∈ [Instr.resetN, .jtagReset, .powerOn, .meshUe, .controlParity, .supply])
    (hs : s.stopped = false ∨ x ≠ .meshUe ∧ x ≠ .controlParity) :
    ∃ t u cause, exec x s = .next t ∧ (t = State.deviceReset u cause ∨ t = (State.deviceReset u cause).holdReset) := by
  simp only [List.mem_cons, List.not_mem_nil, or_false] at hx
  rcases hx with rfl | rfl | rfl | rfl | rfl | rfl
  · exact ⟨s.resetBy 2, s, 2, rfl, resetBy_cases s 2⟩
  · exact ⟨_, s.tap 0x25 false false, 8, rfl, resetBy_cases _ 8⟩
  · exact ⟨_, _, 1, rfl, .inl rfl⟩
  · have going : s.stopped = false := hs.resolve_right fun h => h.1 rfl
    exact ⟨_, s, 5, exec_meshUe s, .inl (by simp [going])⟩
  · have going : s.stopped = false := hs.resolve_right fun h => h.2 rfl
    exact ⟨_, s, 6, exec_controlParity s, .inl (by simp [going])⟩
  · exact ⟨_, s, 9, rfl, .inr rfl⟩

theorem exec_deviceReset_grant (s : State) {x : Instr}
    (hx : x ∈ [Instr.resetN, .jtagReset, .powerOn, .meshUe, .controlParity, .supply])
    (hs : s.stopped = false ∨ x ≠ .meshUe ∧ x ≠ .controlParity) :
    ∃ t, exec x s = .next t ∧ t.fget Blk.DBG Reg.DBG_AUTH_GRANT = 0 := by
  obtain ⟨t, u, cause, ht, rfl | rfl⟩ := exec_deviceReset_cases s hx hs
  · exact ⟨_, ht, deviceReset_grant u cause⟩
  · exact ⟨_, ht, (holdReset_grant _).trans (deviceReset_grant u cause)⟩

/-- Settles O57: the three writers of GRANT are a write of DBG_AUTH (`wrDbgAuth_grant`, `wrDbgAuth_ignored`), an accepted
certificate (`certified_grant`) and a device reset (`exec_deviceReset_grant`). -/
theorem debugGrants : Obligations.DebugGrants := by
  unfold Obligations.DebugGrants
  intro s w cert hr grant lock u
  refine ⟨fun ht hm => ?_, fun ht hm => ?_, fun hc hp => ?_, fun x hx hs => exec_deviceReset_grant s hx hs⟩
  · have written := wrDbgAuth_grant s w hr ht.form.2 w.acc hm
    refine ⟨_, exec_dbgAuthWrite s w ht, fun hl hh => ?_, fun h => ?_, wrDbgAuth_lock s w hr ht.form.2 w.acc hm⟩
    · exact written.trans (if_neg (by simpa [lock, hh] using hl))
    · exact written.trans (if_pos (by simpa [lock] using h))
  · rw [exec_dbgAuthWrite s w ht, wrDbgAuth_ignored s _ _ _ hm]
  · obtain ⟨t, ht, regs⟩ := exec_auth_regs s cert hc hp
    have accepted : u.certCheck cert = s.certCheck cert := rfl
    refine ⟨t, ht, (State.flag_eq_of_regs regs _ _).trans (certified_lock s cert hr), ?_⟩
    rw [accepted]
    exact (State.fget_eq_of_regs regs _ _).trans (certified_grant s cert hr)

end Sys2Proof.Machine
end
